-- ==== Sys2Proof/Word.lean ====
section
/-!
DEFINITION. The 72-bit device word (spec/00_scope.md R2) and the plain bit vectors the other files use.
-/
namespace Sys2Proof

/-- The device word, bits 71 (most significant) to 0 (R2). -/
abbrev Word := BitVec 72

/-- A half word: H0 = [35:0], H1 = [71:36] (R2). -/
abbrev Half := BitVec 36


/-- An accumulator of the engines, 144 bits (R161). -/
abbrev Acc144 := BitVec 144

end Sys2Proof
end

