-- ==== Sys2Proof/Syntax.lean ====
section
/-!
DEFINITION. The commands of the block: one constructor of `Instr` per row of spec/opcode_table.json, with the operands
the rule of that row names. The table gives no row any bits, so nothing here is an encoding. A row that is an event of
the outside world (a pin, a supply, a crystal, a partner) carries as operands what the device observes there.
-/
namespace Sys2Proof

/-- The masters that can access a register or order a field (R28). -/
inductive Master
  | collar | sleeveL | sleeveR | host | debug | loop
  | radio (peer : Nat)
deriving DecidableEq, Repr


/-- The three engines (R159). -/
inductive Eng | collar | left | right
deriving DecidableEq, Repr

/-- A general register, W0 to W15 (R161, R164). -/
abbrev WReg := Fin 16

/-- The two-operand and one-operand functions of the ALU group (R204), shifts and SEL apart. -/
inductive AluFn
  | add | adc | sub | sbc | neg | abs | min | max | minu | maxu | cmp
  | adds | subs | negs | abss | addus | subus
  | and | or | xor | andn | not | tst | popc | clz
deriving DecidableEq, Repr

/-- The shift functions (R204, R205). -/
inductive ShFn | shls | shl | shr | asr | ror
deriving DecidableEq, Repr

/-- A shift amount: FN[6:0], or W[B][7:0] (R205). -/
inductive ShAmt
  | imm (n : BitVec 7)
  | reg (b : WReg)
deriving DecidableEq, Repr

/-- The immediate functions (R207). -/
inductive ImmFn | addi | andi | ori | xori | cmpi
deriving DecidableEq, Repr

/-- An instruction of the engines with its operand fields (R202 to R230). An accumulator operand is FN[13]: false for
ACCA, true for ACCB. -/
inductive YOp
  | nop | doze
  | movfl (d : WReg) | movtfl (a : WReg) | lpop
  | mov (d a : WReg)
  | movi (d : WReg) (imm : BitVec 22)
  | movl (d : WReg) (high zext : Bool) (lit : BitVec 36)
  | alu (f : AluFn) (d a b : WReg)
  | sel (d a b : WReg) (cond : BitVec 4)
  | shift (f : ShFn) (d a : WReg) (n : ShAmt)
  | immOp (f : ImmFn) (d a : WReg) (imm : BitVec 22)
  | extr (d a : WReg) (p l : BitVec 7) (x : Bool)
  | ins (d a : WReg) (p l : BitVec 7)
  | ld (d a : WReg) (imm : BitVec 22)
  | ldh (d a : WReg) (off : BitVec 20) (u h : Bool)
  | st (d a : WReg) (imm : BitVec 22)
  | sth (d a : WReg) (off : BitVec 20) (h : Bool)
  | clracc (x : Bool) | movta (x : Bool) (a b : WReg) | movtas (x : Bool) (a : WReg)
  | movfa (x : Bool) (d : WReg) (high : Bool)
  | ext (x : Bool) (d : WReg) (sh : BitVec 8) (r u : Bool)
  | mul (x : Bool) (a b : WReg) (sg : BitVec 2)
  | mac (x : Bool) (a b : WReg) (sg : BitVec 2) (neg : Bool)
  | div (d a b : WReg) (sh : BitVec 7) (u m : Bool)
  | recip (d a : WReg) (sh : BitVec 8)
  | poly (d a b : WReg) (sh : BitVec 8)
  | interp (d a b : WReg)
  | br (cond : BitVec 4) (link : Bool) (target : BitVec 21)
  | brr (cond : BitVec 4) (link : Bool) (a : WReg)
  | loop (a : WReg) (len : BitVec 10)
  | loopi (count : BitVec 12) (len : BitVec 10)
  | claim (d a : WReg)
  | give (d a b : WReg) (code : BitVec 4) (fromReg full : Bool)
  | testown (d a : WReg)
  | waitev (d a : WReg)
  | signal (n : BitVec 3)
  | arm (input : BitVec 5) (src : BitVec 6) (dis : Bool)
  | shot (d a : WReg) | conv (d a : WReg)
  | svc (n : BitVec 8) | trap (code : BitVec 16) | mark (a : WReg) (tag : BitVec 16)
deriving DecidableEq, Repr

/-- What the check bits of a word show where it is fetched or loaded (R171): a sound word, one wrong bit, or two. -/
inductive Check | sound | single | double
deriving DecidableEq, Repr

/-- An instruction an engine has fetched: the engine, and what the check bits of the fetched word show. -/
structure Fetch where
  eng : Eng
  check : Check
deriving DecidableEq, Repr

/-- Where an edge of a TDC pair comes from (R307, TDCu_JOB): the ultrasonic front end, EXTREF, or a TP pin. -/
inductive EdgeSrc
  | usf
  | extref
  | tp (n : Nat)
deriving DecidableEq, Repr

/-- What a test shot brings (R316, R329): whether a first wave was found, its amplitude in % of full scale, and the stop edge that the detector
passed: edges after the start's sampling, the start's and the stop's raw position. -/
structure TestShot where
  first : Bool
  peak : Nat
  edge : Option (Nat × Nat × Nat)
deriving DecidableEq, Repr

/-! ## What a port receives -/

/-- The header of a transaction after byte 0's OP: QMASK, word address and COUNT, as received (R408). -/
structure PortHdr where
  qmask : Nat
  addr : Nat
  count : Nat
deriving DecidableEq, Repr

/-! ## What the loop receives -/

/-- A request as the loop brings it (R390): the address, the length byte, the data bytes and the check bytes received. -/
structure LoopFrame where
  addr : Nat
  len : Nat
  data : List Nat
  check : Nat
deriving DecidableEq, Repr

/-! ## What the radio receives -/

/-- A frame as the receiver hands it to the MAC (R441, R442): FCS right; the sender's short address, and its extended source address where the
frame carries one; broadcast; acknowledgement requested; security level; key index (0 the join key); frame counter; the key and the CCM* nonce
under which its MIC verifies (none: under no key; log 83); its RSSI and LQI. -/
structure RxFrame where
  fcs : Bool
  src : Nat
  eui : Option Nat
  bcast : Bool
  ackReq : Bool
  level : Nat
  key : Nat
  counter : Nat
  mic : Option (List Nat × List Nat)
  rssi : Int
  lqi : Nat
deriving DecidableEq, Repr

/-- The header of a Riostey message (R448) and the number of data bytes that arrived after it. -/
structure RioHdr where
  flags : Nat
  orig : Nat
  rseq : Nat
  len : Nat
  got : Nat
  code : Nat
deriving DecidableEq, Repr

/-- A link of a slotframe (R424): slotframe handle, timeslot, channel offset, neighbour, FLAGS as MAC_LINK has them. -/
structure RLink where
  sf : Nat
  slot : Nat
  chofs : Nat
  neigh : Nat
  flags : Nat
deriving DecidableEq, Repr

/-- A timeslot template in µs (R423): slot length, TsTxOffset, TsRxWait, TsTxAckDelay, TsAckWait. -/
structure TsTemplate where
  slot : Nat
  txofs : Nat
  rxwait : Nat
  ackdly : Nat
  ackwait : Nat
deriving DecidableEq, Repr

/-- An enhanced beacon (R423, R424, R434): the sender, PAN ID, ASN; whether it carries the TSCH Synchronization IE; the
Timeslot IE's template ID and the template of a full one; the Channel Hopping IE's sequence ID and the list of a full one;
its slotframes as (handle, size) and their links. -/
structure EbFrame where
  src : Nat
  eui : Nat
  pan : Nat
  asn : Nat
  sync : Bool
  tsId : Option Nat
  ts : Option TsTemplate
  hopId : Option Nat
  hop : Option (List Nat)
  sfs : List (Nat × Nat)
  links : List RLink
deriving DecidableEq, Repr

/-- The data of a JOIN_RESP (R436): the key as wrapped (24 bytes), the links of 6 bytes each, and the ASN the frame
carries where it carries one (R433). -/
structure JoinResp where
  nonce : Nat
  short : Nat
  parent : Nat
  parentEui : Nat
  coord : Nat
  lease : Nat
  keyIdx : Nat
  wrapped : List Nat
  counter : Nat
  links : List RLink
  asn : Option Nat
deriving DecidableEq, Repr

/-- What comes of a transmission in a timeslot (R426, R428): an enhanced acknowledgement with the parent's time correction
δ in ns, one with NACK set, which carries a time correction as well, or none. -/
inductive TxResult
  | ack (delta : Int) | nack (delta : Int) | none
deriving DecidableEq, Repr

/-! ## What the measuring blocks observe -/

/-- What a period calibration saw (R301, R303): for each line the raw positions (P₁, P₂) of its launches, and where the
EXTREF base was stamped the positions of e and e + M and the edges between their samplings. -/
structure CalObs where
  start : List (Nat × Nat)
  stop : List (Nat × Nat)
  xref : Option (Nat × Nat × Nat)
deriving DecidableEq, Repr

/-! ## What a boundary observes -/

/-- The front-end results of a cycle for the fallback program (R252, R253): for each path that collected both directions the mean flood and ebb
intervals (LSB 2^-24 ps), and for each input record whose conversions were collected their mean VALUE (R339). -/
structure FbMeas where
  paths : List (Nat × Nat × Nat)
  inputs : List (Nat × Int)
deriving DecidableEq, Repr

/-- What the supplies and sensors read at a boundary (R47, R65, R532): LOOPP, VPOOL and VCELL in mV, SURPLUS and NEED in µW,
the die temperature in 1/16 °C. -/
structure Supplies where
  loopp : Nat
  vpool : Nat
  vcell : Nat
  surplus : Nat
  need : Option Nat
  dieTemp : Int
deriving DecidableEq, Repr

/-- Everything a cycle boundary observes: the supplies, the Sleeves' busy fractions of the cycle (R248), the measured loop
current in µA, and the front-end results for the fallback program. -/
structure BoundaryObs where
  sup : Supplies
  busyL : Nat
  busyR : Nat
  loopMeas : Nat
  fb : FbMeas
deriving DecidableEq, Repr

/-- What a slice, an isolated test or a qualification finds (R499, R509): a step failed, its repeat failed too, a detail
that the item's device action needs (item 3 the failed address, item 4 the failed block, item 16 the comparator with 0 for the
fence), and the words of item 5's span with a two-bit correction as (address, bits). -/
structure SliceObs where
  failed : Bool
  again : Bool
  detail : Nat
  two : List (Nat × Nat)
deriving DecidableEq, Repr

/-- What Stage 2 reads from the Label (R471 to R473, R480): the first four device-ID bytes, the identity block and the
zero-offset block (64 bytes each), and the words of both mirror slots. -/
structure LabelObs where
  devid : Nat
  ident : List Nat
  zero : List Nat
  slot0 : List Word
  slot1 : List Word
deriving DecidableEq, Repr

/-- What a mirror write ends with (R479): WEL still set, the block-protect bits, the two HMAC words and the whole record read back
as written, and the device ID that is read after a failed write. -/
structure LabelDone where
  wel : Bool
  bp : Nat
  macOk : Bool
  allOk : Bool
  devid : Nat
deriving DecidableEq, Repr

/-! ## The commands -/

/-- The commands of the block, in the order of spec/opcode_table.json, each with the rule that its row names. -/
inductive Instr
  /-- REGISTER_WRITE (R13). -/
  | registerWrite (m : Master) (a : Nat) (mask w : Word)
  /-- CYCLE_BOUNDARY (R24). -/
  | cycleBoundary (o : BoundaryObs)
  /-- SLACK_REQUEST (R113). -/
  | slackRequest (t0 : Bool) (len : Nat) (other : Option Nat)
  /-- SLACK_OPEN_CMD (R114). -/
  | slackOpenCmd (m : Master) (w : Word)
  /-- SLACK_CLOSE_CMD (R114). -/
  | slackCloseCmd (m : Master) (w : Word)
  /-- SLACK_OPEN (R113). -/
  | slackOpen (k cam cbm : Nat)
  /-- SLACK_CLOSE (R113). -/
  | slackClose
  /-- SLACK_CUT (R115). -/
  | slackCut (vpool us : Nat)
  /-- LOOP_PRESENCE (R71). -/
  | loopPresence (loopp : Nat)
  /-- CELL_CONFIRM (R75). -/
  | cellConfirm (vcell : Nat)
  /-- HF_READY (R103). -/
  | hfReady (up : Nat)
  /-- LF_READY (R103). -/
  | lfReady
  /-- STAGE2 (R78). -/
  | stage2 (o : LabelObs) (testen : Bool) (t2 : Nat)
  /-- FIRST_FALLBACK (R82). -/
  | firstFallback (fb : FbMeas)
  /-- IMAGE_VERIFIED (R83). -/
  | imageVerified
  /-- STARTUP_BIST_DONE (R506): the failed items as (item, slice, detail), the words with a two-bit correction, the duration in ms. -/
  | startupBistDone (failed : List (Nat × Nat × Nat)) (two : List (Nat × Nat)) (ms : Nat)
  /-- SHORT_BOUNDARY (R86). -/
  | shortBoundary (o : BoundaryObs) (t3 : Nat)
  /-- BOR (R91). -/
  | bor
  /-- NRST (R91). -/
  | nrst
  /-- WDOG (R91). -/
  | wdog
  /-- SEAL_CHANGE (R59). -/
  | sealChange (opened : Bool)
  /-- LOOPP_FALL (R37). -/
  | looppFall (loopp : Nat)
  /-- LOOP_LOSS_CONFIRM (R59). -/
  | loopLossConfirm (loopp : Nat) (fb : FbMeas)
  /-- SHUTDOWN_BIST_DONE (R507). -/
  | shutdownBistDone (failed : List Nat)
  /-- LOOP_RETURN (R59). -/
  | loopReturn (loopp : Nat)
  /-- LOOPP_ON_BATTERY (R63). -/
  | looppOnBattery (loopp : Nat)
  /-- CELL_LOW (R54). -/
  | cellLow (vcell : Nat)
  /-- CELL_DEAD_CONFIRM (R54). -/
  | cellDeadConfirm (vcell : Nat) (fb : FbMeas)
  /-- POOL_FILL (R46). -/
  | poolFill (vpool : Nat)
  /-- POOL_FLOOR_FALL (R41). -/
  | poolFloorFall (vpool : Nat)
  /-- POOL_LOW (R59). -/
  | poolLow (vpool : Nat)
  /-- HARVEST_SHORT (R59). -/
  | harvestShort (surplus : Nat)
  /-- HARVEST_RESTORED (R59). -/
  | harvestRestored (surplus : Nat)
  /-- CHARGE_DONE (R52). -/
  | chargeDone (vcell : Nat)
  /-- CHARGE_RESTART (R52). -/
  | chargeRestart (vcell : Nat)
  /-- CHEM_WRITE (R50). -/
  | chemWrite (m : Master) (w : Word)
  /-- CHARGER_ENABLE (R51). -/
  | chargerEnable (m : Master) (w : Word)
  /-- PWR_POOL_WRITE (R68). -/
  | pwrPoolWrite (m : Master) (w : Word)
  /-- VDDIO_LOSS (R522). -/
  | vddioLoss
  /-- VDDIO_RETURN (R522). -/
  | vddioReturn (levels : Nat)
  /-- CLK_SWITCH (R104). -/
  | clkSwitch
  /-- SLEEP_ENTRY (R191). -/
  | sleepEntry
  /-- SLEEP_EXIT (R106). -/
  | sleepExit (o : Supplies)
  /-- PLL_LOCK_DETECT (R108). -/
  | pllLockDetect
  /-- PLL_SWITCH (R108). -/
  | pllSwitch
  /-- PLL_LOCK_TIMEOUT (R112). -/
  | pllLockTimeout
  /-- FENCE_TRIP (R111). -/
  | fenceTrip (count : Nat)
  /-- XREF_WINDOW (R117). -/
  | xrefWindow (count : Nat)
  /-- XREF_TIMEOUT (R117). -/
  | xrefTimeout
  /-- XREF_GATE_END (R118). -/
  | xrefGateEnd (hf lf : Int)
  /-- BILLING_SECOND (R123). -/
  | billingSecond (ticks : Nat)
  /-- LF_LOSS (R124). -/
  | lfLoss (hf : Bool) (gap : Nat)
  /-- LF_RESTORE (R124). -/
  | lfRestore
  /-- TIDE_HALT (R125). -/
  | tideHalt (m : Master) (w : Word)
  /-- TIDE_SEC_WRITE (R125). -/
  | tideSecWrite (m : Master) (w : Word)
  /-- TIDE_RELEASE (R125). -/
  | tideRelease (m : Master) (w : Word)
  /-- TIDE_PIN_RELEASE (R125). -/
  | tidePinRelease (pin : Fin 16) (rest : Nat)
  /-- TIDE_HALT_TIMEOUT (R126). -/
  | tideHaltTimeout (rest : Nat)
  /-- CIVOFS_WRITE (R127). -/
  | civofsWrite (m : Master) (w : Word)
  /-- WDAY_WRITE (R130). -/
  | wdayWrite (m : Master) (w : Word)
  /-- PHASE_WRITE (R130). -/
  | phaseWrite (m : Master) (w : Word)
  /-- TIMER_MATCH (R137): the channel's source steps, each run of them with the place of the spread profile they fall in (0 to 99, R109). -/
  | timerMatch (n : Fin 16) (runs : List (Nat × Nat))
  /-- TIMER_OVERFLOW (R138): as TIMER_MATCH. -/
  | timerOverflow (n : Fin 16) (runs : List (Nat × Nat))
  /-- LINK_ACTION (R139). -/
  | linkAction
  /-- TIMER_RESET (R140). -/
  | timerReset (m : Master) (n : Fin 16) (w : Word)
  /-- TIMER_STOP (R139). -/
  | timerStop (m : Master) (n : Fin 16) (w : Word)
  /-- TIMER_START (R139). -/
  | timerStart (m : Master) (n : Fin 16) (w : Word)
  /-- TIMER_ENABLE (R142). -/
  | timerEnable (m : Master) (n : Fin 16) (w : Word)
  /-- TIMER_COUNT_WRITE (R143). -/
  | timerCountWrite (m : Master) (n : Fin 16) (w : Word)
  /-- TIMER_CAPTURE (R146): an edge on a TP pin, rising or falling. -/
  | timerCapture (n pin : Fin 16) (rising : Bool)
  /-- BUS_CAPTURE (R148): an edge on a TP pin, rising or falling. -/
  | busCapture (n pin : Fin 16) (rising : Bool)
  /-- CAPTURE_POP (R147). -/
  | capturePop (m : Master) (n : Fin 16) (w : Word)
  /-- NOP (R202). -/
  | nop (f : Fetch)
  /-- DOZE (R190). -/
  | doze (f : Fetch)
  /-- DOZE_WAKE (R190). -/
  | dozeWake (e : Eng)
  /-- MOVFL (R202). -/
  | movfl (f : Fetch) (rd : WReg)
  /-- MOVTFL (R202). -/
  | movtfl (f : Fetch) (ra : WReg)
  /-- LPOP (R202). -/
  | lpop (f : Fetch)
  /-- MOV (R203). -/
  | mov (f : Fetch) (rd ra : WReg)
  /-- MOVI (R203). -/
  | movi (f : Fetch) (rd : WReg) (imm : BitVec 22)
  /-- MOVL (R203). -/
  | movl (f : Fetch) (rd : WReg) (high zext : Bool) (lit : BitVec 36)
  /-- ADD (R204). -/
  | add (f : Fetch) (rd ra rb : WReg)
  /-- ADC (R204). -/
  | adc (f : Fetch) (rd ra rb : WReg)
  /-- SUB (R204). -/
  | sub (f : Fetch) (rd ra rb : WReg)
  /-- SBC (R204). -/
  | sbc (f : Fetch) (rd ra rb : WReg)
  /-- NEG (R204). -/
  | neg (f : Fetch) (rd ra : WReg)
  /-- ABS (R204). -/
  | abs (f : Fetch) (rd ra : WReg)
  /-- MIN (R204). -/
  | min (f : Fetch) (rd ra rb : WReg)
  /-- MAX (R204). -/
  | max (f : Fetch) (rd ra rb : WReg)
  /-- MINU (R204). -/
  | minu (f : Fetch) (rd ra rb : WReg)
  /-- MAXU (R204). -/
  | maxu (f : Fetch) (rd ra rb : WReg)
  /-- CMP (R204). -/
  | cmp (f : Fetch) (ra rb : WReg)
  /-- SEL (R204). -/
  | sel (f : Fetch) (rd ra rb : WReg) (cond : BitVec 4)
  /-- ADDS (R204). -/
  | adds (f : Fetch) (rd ra rb : WReg)
  /-- SUBS (R204). -/
  | subs (f : Fetch) (rd ra rb : WReg)
  /-- NEGS (R204). -/
  | negs (f : Fetch) (rd ra : WReg)
  /-- ABSS (R204). -/
  | abss (f : Fetch) (rd ra : WReg)
  /-- ADDUS (R204). -/
  | addus (f : Fetch) (rd ra rb : WReg)
  /-- SUBUS (R204). -/
  | subus (f : Fetch) (rd ra rb : WReg)
  /-- SHLS (R205). -/
  | shls (f : Fetch) (rd ra : WReg) (amt : ShAmt)
  /-- AND (R204). -/
  | and (f : Fetch) (rd ra rb : WReg)
  /-- OR (R204). -/
  | or (f : Fetch) (rd ra rb : WReg)
  /-- XOR (R204). -/
  | xor (f : Fetch) (rd ra rb : WReg)
  /-- ANDN (R204). -/
  | andn (f : Fetch) (rd ra rb : WReg)
  /-- NOT (R204). -/
  | not (f : Fetch) (rd ra : WReg)
  /-- TST (R204). -/
  | tst (f : Fetch) (ra rb : WReg)
  /-- POPC (R204). -/
  | popc (f : Fetch) (rd ra : WReg)
  /-- CLZ (R204). -/
  | clz (f : Fetch) (rd ra : WReg)
  /-- SHL (R205). -/
  | shl (f : Fetch) (rd ra : WReg) (amt : ShAmt)
  /-- SHR (R205). -/
  | shr (f : Fetch) (rd ra : WReg) (amt : ShAmt)
  /-- ASR (R205). -/
  | asr (f : Fetch) (rd ra : WReg) (amt : ShAmt)
  /-- ROR (R205). -/
  | ror (f : Fetch) (rd ra : WReg) (amt : ShAmt)
  /-- ADDI (R207). -/
  | addi (f : Fetch) (rd ra : WReg) (imm : BitVec 22)
  /-- ANDI (R207). -/
  | andi (f : Fetch) (rd ra : WReg) (imm : BitVec 22)
  /-- ORI (R207). -/
  | ori (f : Fetch) (rd ra : WReg) (imm : BitVec 22)
  /-- XORI (R207). -/
  | xori (f : Fetch) (rd ra : WReg) (imm : BitVec 22)
  /-- CMPI (R207). -/
  | cmpi (f : Fetch) (ra : WReg) (imm : BitVec 22)
  /-- EXTR (R208). -/
  | extr (f : Fetch) (rd ra : WReg) (p l : BitVec 7) (x : Bool)
  /-- INS (R208). -/
  | ins (f : Fetch) (rd ra : WReg) (p l : BitVec 7)
  /-- LD (R209). -/
  | ld (f : Fetch) (rd ra : WReg) (imm : BitVec 22) (x : Check)
  /-- LDH (R209). -/
  | ldh (f : Fetch) (rd ra : WReg) (off : BitVec 20) (u h : Bool) (x : Check)
  /-- ST (R209). -/
  | st (f : Fetch) (rd ra : WReg) (imm : BitVec 22)
  /-- STH (R210). -/
  | sth (f : Fetch) (rd ra : WReg) (off : BitVec 20) (h : Bool)
  /-- CLRACC (R211). -/
  | clracc (f : Fetch) (x : Bool)
  /-- MOVTA (R211). -/
  | movta (f : Fetch) (x : Bool) (ra rb : WReg)
  /-- MOVTAS (R211). -/
  | movtas (f : Fetch) (x : Bool) (ra : WReg)
  /-- MOVFA (R211). -/
  | movfa (f : Fetch) (x : Bool) (rd : WReg) (high : Bool)
  /-- EXT (R211). -/
  | ext (f : Fetch) (x : Bool) (rd : WReg) (sh : BitVec 8) (r u : Bool)
  /-- MUL (R212). -/
  | mul (f : Fetch) (x : Bool) (ra rb : WReg) (sg : BitVec 2)
  /-- MAC (R212). -/
  | mac (f : Fetch) (x : Bool) (ra rb : WReg) (sg : BitVec 2) (neg : Bool)
  /-- DIV (R213). -/
  | div (f : Fetch) (rd ra rb : WReg) (sh : BitVec 7) (u m : Bool)
  /-- RECIP (R214). -/
  | recip (f : Fetch) (rd ra : WReg) (sh : BitVec 8)
  /-- POLY (R215). -/
  | poly (f : Fetch) (rd ra rb : WReg) (sh : BitVec 8)
  /-- INTERP (R216). -/
  | interp (f : Fetch) (rd ra rb : WReg) (x : Check)
  /-- BR (R217). -/
  | br (f : Fetch) (cond : BitVec 4) (link : Bool) (target : BitVec 21)
  /-- BRR (R217). -/
  | brr (f : Fetch) (cond : BitVec 4) (link : Bool) (ra : WReg)
  /-- LOOP (R218). -/
  | loop (f : Fetch) (ra : WReg) (len : BitVec 10)
  /-- LOOPI (R218). -/
  | loopi (f : Fetch) (count : BitVec 12) (len : BitVec 10)
  /-- CLAIM (R221). -/
  | claim (f : Fetch) (rd ra : WReg)
  /-- GIVE (R222). -/
  | give (f : Fetch) (rd ra rb : WReg) (code : BitVec 4) (fromReg full : Bool)
  /-- TESTOWN (R223). -/
  | testown (f : Fetch) (rd ra : WReg)
  /-- WAITEV (R189). -/
  | waitev (f : Fetch) (rd ra : WReg)
  /-- WAITEV_RESUME (R189). -/
  | waitevResume (e : Eng)
  /-- SIGNAL (R225). -/
  | signal (f : Fetch) (n : BitVec 3)
  /-- ARM (R226). -/
  | arm (f : Fetch) (input : BitVec 5) (src : BitVec 6) (dis : Bool)
  /-- SHOT (R227). -/
  | shot (f : Fetch) (rd ra : WReg)
  /-- CONV (R227). -/
  | conv (f : Fetch) (rd ra : WReg)
  /-- SVC (R192). -/
  | svc (f : Fetch) (n : BitVec 8)
  /-- TRAP (R229). -/
  | trap (f : Fetch) (code : BitVec 16)
  /-- MARK (R230). -/
  | mark (f : Fetch) (ra : WReg) (tag : BitVec 16)
  /-- RENDEZVOUS_MEET (R186). -/
  | rendezvousMeet
  /-- DEBUG_HALT (R193). -/
  | debugHalt (m : Master) (w : Word)
  /-- DEBUG_RELEASE (R193). -/
  | debugRelease (m : Master) (w : Word)
  /-- DEBUG_STEP (R193). -/
  | debugStep (m : Master) (w : Word)
  /-- REG_FILE_WRITE (R194). -/
  | regFileWrite (m : Master) (w : Word)
  /-- REGION_WRITE (R174). -/
  | regionWrite (m : Master) (right : Bool) (i : Fin 8) (w : Word)
  /-- INFO (R237). -/
  | info
  /-- POST (R240). -/
  | post
  /-- ASSIGN (R237). -/
  | assign
  /-- TIME_SET (R127). -/
  | timeSet
  /-- PARAM_READ (R237). -/
  | paramRead
  /-- PARAM_WRITE (R257). -/
  | paramWrite
  /-- MODE_REQ (R250). -/
  | modeReq
  /-- RESTART (R94). -/
  | restart (fb : FbMeas)
  /-- FUSE (R73). -/
  | fuse
  /-- LOG_READ (R261). -/
  | logRead
  /-- IMG_BEGIN (R265). -/
  | imgBegin
  /-- IMG_WRITE (R265). -/
  | imgWrite
  /-- IMG_VERIFY (R265). -/
  | imgVerify
  /-- IMG_VERIFY_DONE (R265). -/
  | imgVerifyDone
  /-- IMG_ACTIVATE (R266). -/
  | imgActivate
  /-- IMG_STATUS (R237). -/
  | imgStatus
  /-- IMG_SESSION_TIMEOUT (R265). -/
  | imgSessionTimeout
  /-- KEY_INFO (R237). -/
  | keyInfo
  /-- KEY_LOAD (R256). -/
  | keyLoad
  /-- KEY_ERASE (R256). -/
  | keyErase
  /-- MAC_SVC (R237). -/
  | macSvc
  /-- SLEEVE_FAULT_MIGRATE (R247). -/
  | sleeveFaultMigrate (right : Bool)
  /-- SEAM_CLAIM (R274). -/
  | seamClaim (m : Master) (w : Word)
  /-- SEAM_GIVE (R274). -/
  | seamGive (m : Master) (w : Word)
  /-- SEAM_QUERY (R281). -/
  | seamQuery (m : Master) (w : Word)
  /-- SEAM_REVERT (R274). -/
  | seamRevert (m : Master) (w : Word)
  /-- SEAM_SETHOME (R274). -/
  | seamSethome (m : Master) (w : Word)
  /-- HELD_GIVE_REVERT (R276). -/
  | heldGiveRevert
  /-- QUIESCE_REQUEST (R283). -/
  | quiesceRequest (m : Master) (w : Word)
  /-- QUIESCE_COMPLETE (R283). -/
  | quiesceComplete
  /-- QUIESCE_RELEASE (R283). -/
  | quiesceRelease (m : Master) (w : Word)
  /-- ROUTE_WRITE (R293). -/
  | routeWrite (m : Master) (e : Eng) (i : Fin 32) (w : Word)
  /-- SW_EVENT_SET (R289). -/
  | swEventSet (m : Master) (w : Word)
  /-- TDC_CALIBRATION_DONE (R301). -/
  | tdcCalibrationDone (u : Fin 2) (o : CalObs)
  /-- TDC_START_EDGE (R297). -/
  | tdcStartEdge (u : Fin 2) (src : EdgeSrc) (rising : Bool) (k pos : Nat)
  /-- TDC_STOP_EDGE (R298). -/
  | tdcStopEdge (u : Fin 2) (src : EdgeSrc) (rising : Bool) (c pos : Nat) (runs : List (List (Nat × Nat)))
  /-- TDC_COARSE_OVERFLOW (R298). -/
  | tdcCoarseOverflow (u : Fin 2)
  /-- TDC_DITHER_SAMPLE (R305). -/
  | tdcDitherSample (u : Fin 2) (starts stops : List Nat)
  /-- TDC_JOB_WRITE (R307). -/
  | tdcJobWrite (m : Master) (u : Fin 2) (w : Word)
  /-- USF_REQUEST (R319). -/
  | usfRequest (m : Master) (w : Word)
  /-- SHOT_LAUNCH (R321). -/
  | shotLaunch (t : Nat)
  /-- SHOT_LISTEN_END (R316). -/
  | shotListenEnd (first : Bool) (peak : Nat) (samples : List Int)
  /-- DRIVE_SHORT (R328). -/
  | driveShort (p : Fin 4)
  /-- PATH_TEST (R329). -/
  | pathTest (p : Fin 4) (at_ : Nat) (flood ebb : TestShot) (short : Bool)
  /-- ZERO_LEARN_START (R327). -/
  | zeroLearnStart (m : Master) (w : Word)
  /-- ZERO_LEARN_END (R327). -/
  | zeroLearnEnd
  /-- ADC_REQUEST (R338). -/
  | adcRequest (m : Master) (w : Word)
  /-- ADC_CONV_START (R337). -/
  | adcConvStart (u : Fin 2)
  /-- ADC_CONV_DONE (R339). -/
  | adcConvDone (u : Fin 2) (v : Int) (sat comp : Bool)
  /-- ADC_WATCHDOG (R500). -/
  | adcWatchdog (u : Fin 2)
  /-- EXCITATION_LOSS (R500). -/
  | excitationLoss (k : Fin 2)
  /-- PULSE_EDGE (R362). -/
  | pulseEdge (pin : Fin 16) (falling : Bool)
  /-- PULSE_EMIT (R377). -/
  | pulseEmit (j : Fin 8)
  /-- PULSE_WIDTH_END (R377). -/
  | pulseWidthEnd (j : Fin 8)
  /-- PULSE_GAP_END (R377). -/
  | pulseGapEnd (j : Fin 8)
  /-- LOOP_CARRIER_DETECT (R388). -/
  | loopCarrierDetect
  /-- LOOP_FRAME_TIMEOUT (R389). -/
  | loopFrameTimeout (addr : Option Nat) (cmd : Nat)
  /-- IDENTIFY (R398). -/
  | identify (fr : LoopFrame)
  /-- READ_OUTPUT (R398). -/
  | readOutput (fr : LoopFrame)
  /-- READ_ACC (R398). -/
  | readAcc (fr : LoopFrame)
  /-- READ_WORDS (R398). -/
  | readWords (fr : LoopFrame)
  /-- READ_STATUS (R398). -/
  | readStatus (fr : LoopFrame)
  /-- READ_LOG (R398). -/
  | readLog (fr : LoopFrame)
  /-- SERVICE (R398). -/
  | service (fr : LoopFrame)
  /-- IMG_DATA (R398). -/
  | imgData (fr : LoopFrame)
  /-- WRITE_FIELD (R399). -/
  | writeField (fr : LoopFrame)
  /-- TIME (R400). -/
  | time (fr : LoopFrame)
  /-- LOOP_TEST (R386). -/
  | loopTest (fr : LoopFrame)
  /-- UNKNOWN_COMMAND (R394). -/
  | unknownCommand (cmd : Nat) (fr : LoopFrame)
  /-- APPLICATION_COMMAND (R402). -/
  | applicationCommand (cmd : Nat) (fr : LoopFrame)
  /-- LOOP_APP_REPLY (R402). -/
  | loopAppReply (b : Fin 256)
  /-- APP_REPLY_TIMEOUT (R402). -/
  | appReplyTimeout (radio : Bool)
  /-- LOOP_REPLY_SEND (R395). -/
  | loopReplySend
  /-- LOOP_COLLISION (R397). -/
  | loopCollision
  /-- LOOP_FIX_TIMEOUT (R386). -/
  | loopFixTimeout
  /-- HOST_SELECT (R407). -/
  | hostSelect (dbg : Bool)
  /-- HOST_READ (R411). -/
  | hostRead (dbg : Bool) (h : PortHdr) (got : Nat)
  /-- HOST_WRITE (R412). -/
  | hostWrite (dbg : Bool) (h : PortHdr) (rx : List (Nat × Nat)) (trailer : Bool)
  /-- HOST_NOP (R408). -/
  | hostNop (dbg : Bool) (op : Nat)
  /-- HOST_DESELECT (R414). -/
  | hostDeselect
  /-- RADIO_PHR_ERROR (R420). -/
  | radioPhrError (len : Nat) (modeSwitch : Bool)
  /-- SCAN_DWELL (R434). -/
  | scanDwell
  /-- EB_RECEIVED (R434). -/
  | ebReceived (eb : EbFrame)
  /-- JOIN_RESP (R436). -/
  | joinResp (x : RxFrame) (h : RioHdr) (j : JoinResp)
  /-- JOIN_TIMEOUT (R436). -/
  | joinTimeout
  /-- JOIN_BACKOFF_END (R436). -/
  | joinBackoffEnd
  /-- LEASE_RENEW_DUE (R437). -/
  | leaseRenewDue
  /-- LEASE_RESP (R437). -/
  | leaseResp (x : RxFrame) (h : RioHdr) (lease : Nat)
  /-- LEASE_EXPIRY (R437). -/
  | leaseExpiry
  /-- LEAVE (R438). -/
  | leave (x : RxFrame) (h : RioHdr) (hold : Nat)
  /-- LEAVE_HOLD_END (R438). -/
  | leaveHoldEnd
  /-- SCHEDULE (R439). -/
  | schedule (x : RxFrame) (h : RioHdr) (asn : Nat) (changes : List (Bool × RLink))
  /-- TIMESLOT_START (R425). -/
  | timeslotStart (asn : Nat) (busy : Bool) (res : TxResult) (sync : Option Int)
  /-- KEEP_ALIVE (R428). -/
  | keepAlive
  /-- SYNC_TIMEOUT (R457). -/
  | syncTimeout
  /-- REPORT_DUE (R453). -/
  | reportDue
  /-- ALARM_ACK (R455). -/
  | alarmAck (x : RxFrame) (h : RioHdr) (code : Nat)
  /-- COMMAND (R450). -/
  | command (x : RxFrame) (h : RioHdr) (start : Word) (xs : List Nat)
  /-- TIME_MESSAGE (R450). -/
  | timeMessage (x : RxFrame) (h : RioHdr) (asn : Nat) (tm start : Word)
  /-- QUIET (R464). -/
  | quiet (x : RxFrame) (h : RioHdr) (q len : Nat)
  /-- QUIET_START (R464). -/
  | quietStart (asn : Nat)
  /-- QUIET_END (R464). -/
  | quietEnd (asn : Nat)
  /-- REKEY (R447). -/
  | rekey (x : RxFrame) (h : RioHdr) (idx : Nat) (wrapped : List Nat) (asn : Nat)
  /-- KEY_SWITCH (R447). -/
  | keySwitch (asn : Nat)
  /-- KEY_PREV_ERASE (R447). -/
  | keyPrevErase
  /-- APP_UP (R456). -/
  | appUp (b : Fin 256)
  /-- WAKE_ANSWER (R462). -/
  | wakeAnswer (word asn : Nat)
  /-- WAKE_RESYNC (R462). -/
  | wakeResync (word : Nat)
  /-- WAKE_REPORT (R462). -/
  | wakeReport (word : Nat)
  /-- WAKE_LISTEN (R462). -/
  | wakeListen (word : Nat)
  /-- WAKE_AWAKE_END (R462). -/
  | wakeAwakeEnd
  /-- LABEL_WRITE_DONE (R479). -/
  | labelWriteDone (o : LabelDone)
  /-- KEYWAIT_TIMEOUT (R482). -/
  | keywaitTimeout
  /-- LABEL_CLAIM (R487). -/
  | labelClaim (m : Master) (w : Word)
  /-- BIST_SLICE (R493). -/
  | bistSlice
  /-- BIST_SLICE_DONE (R499). -/
  | bistSliceDone (o : SliceObs)
  /-- ISOLATED_TEST_DONE (R497). -/
  | isolatedTestDone (o : SliceObs)
  /-- QUALIFICATION (R504). -/
  | qualification (item : Nat) (o : SliceObs)
  /-- BIST_RUN_CMD (R493). -/
  | bistRunCmd (m : Master) (w : Word)
  /-- LOOP_RETURN_CONFIRM (R59). -/
  | loopReturnConfirm (fb : FbMeas)
  /-- SLACK_POOL_RECOVERED (R115). -/
  | slackPoolRecovered (vpool : Nat)
  /-- SLACK_GAP_END (R114). -/
  | slackGapEnd
  /-- AON_DOMAIN_LOSS (R74). -/
  | aonDomainLoss
  /-- WAKE_WORD_REJECTED (R461). -/
  | wakeWordRejected (word : Option Nat)
  /-- RIOSTEY_UNKNOWN_TYPE (R449). -/
  | riosteyUnknownType (x : RxFrame) (ty : Nat) (h : RioHdr)
  /-- DCLK_IDLE_TIMEOUT (R525). -/
  | dclkIdleTimeout
  /-- TIMER_COUNT_EDGE (R133). -/
  | timerCountEdge (n : Fin 16)
deriving DecidableEq, Repr

end Sys2Proof
end

