-- ==== Sys2Proof/Decode.lean ====
section
/-!
DEFINITION. The command that a word spells by the bits of spec/opcode_table.json. The table gives no row any bits: a command is an event
of the outside world or an access on a bus, so no word spells one (log 4). The 36-bit encodings of the engines' instructions stand in
Machine/Yilroril.lean.
-/
namespace Sys2Proof

/-- The command that a word of `nbits` bits spells: none for every word. -/
def decodeTableWord (_nbits _w : Nat) : Option Instr := none

end Sys2Proof
end

