-- ==== Sys2Proof/Machine/Hash.lean ====
section
/-!
DEFINITION. The digests the spec names: SHA-256 and HMAC-SHA-256 (the public standards R260, R263 and R234 call), and the
CRCs of the frames and of the data log. The algorithms are the standards' own; the spec names them and gives no other.
-/
namespace Sys2Proof.Machine

/-- A word as nine bytes, most significant first (R260). -/
def wordBytes (w : Word) : List Nat := (List.range 9).map (fun i => (w.toNat >>> (8 * (8 - i))) % 256)

/-- The low `8 n` bits of a number as `n` bytes, most significant first. -/
def natBytes (n v : Nat) : List Nat := (List.range n).map (fun i => (v >>> (8 * (n - 1 - i))) % 256)

/-- Bytes, most significant first, as a number. -/
def bytesNat (b : List Nat) : Nat := b.foldl (fun a x => a * 256 + x) 0

/-- Number `i` of `n` 32-bit words packed in one number, the first in the top bits. -/
def wordAt (n packed i : Nat) : Nat := (packed >>> (32 * (n - 1 - i))) % 2 ^ 32

/-- The 64 round constants of SHA-256, packed: the first 32 bits of the fractional parts of the cube roots of the first 64 primes
(Tests/Slice0.lean derives them). -/
def shaK : Nat :=
  0x428a2f9871374491b5c0fbcfe9b5dba53956c25b59f111f1923f82a4ab1c5ed5d807aa9812835b01243185be550c7dc372be5d7480deb1fe9bdc06a7c19bf174e49b69c1efbe47860fc19dc6240ca1cc2de92c6f4a7484aa5cb0a9dc76f988da983e5152a831c66db00327c8bf597fc7c6e00bf3d5a7914706ca63511429296727b70a852e1b21384d2c6dfc53380d13650a7354766a0abb81c2c92e92722c85a2bfe8a1a81a664bc24b8b70c76c51a3d192e819d6990624f40e3585106aa07019a4c1161e376c082748774c34b0bcb5391c0cb34ed8aa4a5b9cca4f682e6ff3748f82ee78a5636f84c878148cc7020890befffaa4506cebbef9a3f7c67178f2

/-- The initial hash value of SHA-256, packed: likewise of the square roots of the first 8 primes. -/
def shaH : Nat := 0x6a09e667bb67ae853c6ef372a54ff53a510e527f9b05688c1f83d9ab5be0cd19

/-- The initial hash value as eight words. -/
def shaInit : List Nat := (List.range 8).map (wordAt 8 shaH)

/-- Rotate a 32-bit number right. -/
def rotr32 (x n : Nat) : Nat := (x >>> n ||| x <<< (32 - n)) % 2 ^ 32

/-- The exclusive or of a word's rotations by the given amounts. -/
def rotations (x : Nat) (by_ : List Nat) : Nat := by_.foldl (fun a n => a ^^^ rotr32 x n) 0

/-- Bits of `f` where `e` has ones, of `g` elsewhere. -/
def choose32 (e f g : Nat) : Nat := g ^^^ (e &&& (f ^^^ g))

/-- Bit by bit what two of three words have. -/
def majority32 (a b c : Nat) : Nat := (a &&& (b ||| c)) ||| (b &&& c)

/-- One round of the compression function on the eight working variables, the first four and the last four shifting on by one. -/
def shaRound (v : List Nat) (kw : Nat) : List Nat :=
  let x (i : Nat) : Nat := v.getD i 0
  let t := x 7 + rotations (x 4) [6, 11, 25] + choose32 (x 4) (x 5) (x 6) + kw
  let u := rotations (x 0) [2, 13, 22] + majority32 (x 0) (x 1) (x 2)
  ((t + u) % 2 ^ 32 :: v.take 3) ++ ((x 3 + t) % 2 ^ 32 :: (v.drop 4).take 3)

/-- The next message-schedule word from the sixteen before it, oldest first. -/
def shaNextW (w : List Nat) : Nat :=
  let mix (x a b s : Nat) : Nat := rotations x [a, b] ^^^ (x >>> s)
  (w.headD 0 + mix (w.getD 1 0) 7 18 3 + w.getD 9 0 + mix (w.getD 14 0) 17 19 10) % 2 ^ 32

/-- The rounds from number `64 - n` on: the last sixteen schedule words, the working variables. -/
def shaRounds : Nat → List Nat → List Nat → List Nat
  | 0, _, v => v
  | n + 1, w, v => shaRounds n (w.drop 1 ++ [shaNextW w]) (shaRound v (wordAt 64 shaK (63 - n) + w.headD 0))

/-- One 64-byte block. -/
def shaBlock (h : List Nat) (block : List Nat) : List Nat :=
  let w := (List.range 16).map (fun i => bytesNat ((block.drop (4 * i)).take 4))
  List.zipWith (fun a b => (a + b) % 2 ^ 32) h (shaRounds 64 w h)

/-- The padded message: one 0x80, zeros, and the length in bits. -/
def shaPad (m : List Nat) : List Nat :=
  m ++ [0x80] ++ List.replicate ((119 - m.length % 64) % 64) 0 ++ natBytes 8 (8 * m.length)

/-- The blocks, `n` of them. -/
def shaBlocks : Nat → List Nat → List Nat → List Nat
  | 0, _, h => h
  | n + 1, m, h => shaBlocks n (m.drop 64) (shaBlock h (m.take 64))

/-- SHA-256 of a list of bytes, as 32 bytes. -/
@[irreducible] def sha256 (m : List Nat) : List Nat :=
  let p := shaPad m
  (shaBlocks (p.length / 64) p shaInit).flatMap (natBytes 4)

/-- HMAC-SHA-256, as 32 bytes. -/
@[irreducible] def hmacSha256 (key m : List Nat) : List Nat :=
  let k := if key.length > 64 then sha256 key else key
  let k := k ++ List.replicate (64 - k.length) 0
  sha256 (k.map (· ^^^ 0x5C) ++ sha256 (k.map (· ^^^ 0x36) ++ m))

/-- A CRC of `w` bits, most significant bit first, over a list of bits. -/
def crcBits (w poly init : Nat) (bits : List Bool) : Nat :=
  bits.foldl (fun r b =>
    let t := (r >>> (w - 1)) % 2
    let r := (r <<< 1) % 2 ^ w
    if t != b.toNat then r ^^^ poly else r) init

/-- The bits of a byte, most significant first. -/
def byteBits (b : Nat) : List Bool := (List.range 8).map (fun i => (b >>> (7 - i)) % 2 == 1)

end Sys2Proof.Machine
end

