-- ==== Sys2Proof/Config.lean ====
section
/-!
DEFINITION. What one part fixes and the spec leaves open: constants with no body, so no proof can lean on a value.
Each names the assumption-log row that declares it.
-/
namespace Sys2Proof.Config

/-- SYS_ID.MAJOR and MINOR, "per silicon" (R34, log 5). -/
opaque siliconRevision : BitVec 16

/-- The factory EUI-64 (RADIO_EUI, log 5). -/
opaque eui64 : BitVec 64

/-- The words of the Collar ROM, 0x0_0000-0x0_1FFF: mask ROM whose contents no chapter gives (R536, log 5). -/
opaque rom : Nat → BitVec 72

/-- Where the named values of a legal-log payload stand in its bits: R262 lists the values of each record and no
chapter places them in the word (log 6). The first argument is the record's TYPE, the second tells the payload
words of one record apart. -/
opaque payload : Nat → Nat → List Nat → BitVec 72

/-- Where the spec rounds a fraction n / d and leaves open which way (a tie, or any fraction where no rounding is
named): whether it goes up (log 9). -/
opaque roundsUp : Int → Nat → Bool

/-- The whole ppb of a correction whose exact value is not whole; the argument is the exact value times 31,557,600
(R123 gives the formula and no rounding, log 8). -/
opaque ppbRound : Int → Int

/-- Values no rule determines: one for every count of `Dev.freeN` (random numbers of R426, R435, R458; log 15; a pair before any calibration, log 96). -/
opaque freeValue : Nat → Nat

/-- The SYSCLK time since the last LF tick, in fraction units of TIDE_SEC, at a tick count (R122; the model has no time between ticks, log 60). -/
opaque sinceTick : Nat → Nat

/-- RFC 3394 key unwrap: the key under the key-encryption key, or none where the integrity check fails (R436, R447; the
AES algorithm is a standard the spec names and does not restate, log 16). -/
opaque unwrap : List Nat → List Nat → Option (List Nat)

/-- The type and bytes of the key that a KEY_LOAD block holds: no chapter gives the block's layout (R256, log 16). -/
opaque keyOfBlock : List (BitVec 72) → Nat × List Nat

/-- The configured channel table: whether a configured channel belongs to the Right Sleeve. No chapter says where it is held
(R86, R249, log 17). -/
opaque carrierRight : Nat → Bool

/-- The fallback program's error against the exact temperature, in 2^-24 K (R340 bounds it), and the temperature where an RTD record has no solution in
the format: the record's words, the sensor and REF values, RREF (log 18). -/
opaque rtdFree : List (BitVec 72) → Int → Int → BitVec 72 → Int

/-- The specific enthalpy h(θ, p) of water in mJ/mg per IAPWS-IF97, θ in 2^-24 K, p in Pa, as a fraction (R352; the standard the spec names and does
not restate, log 18). -/
opaque if97H : Int → Nat → Int × Nat

/-- The specific volume v(θ, p) of water in µL/mg per IAPWS-IF97, as a fraction (R352; log 18). -/
opaque if97V : Int → Nat → Nat × Nat

/-- The error of the fallback program's heat coefficient in ppm, at θf, θr, θm and p (R352 bounds it; log 18). -/
opaque heatError : Int → Int → Int → Nat → Int

/-- The density the fallback program takes for a VOLUME channel: no chapter gives one (log 18). -/
opaque volumeRho : Nat → Nat × Nat

/-- A bridge's gauge pressure in 2^-24 Pa compensated with a temperature coefficient: the coefficient, the temperature, the pressure before. The
chapter gives the coefficient's LSB and not how it applies (log 18). -/
opaque bridgeComp : BitVec 72 → Int → Int → Int

/-- Slot 0 of the Pocket: the device record key, an HMAC-SHA-256 key that the factory loads (R255). DESIGN CHOICE 25: the
spec gives no value. -/
opaque recordKey : List Nat

/-- Slot 1 of the Pocket: the Ouvsel root public key, an ECDSA P-256 key that the factory loads (R255). DESIGN CHOICE 25. -/
opaque rootKey : List Nat

/-- A measured quotient whose divisor is zero: no rule gives it a value (log 39). -/
opaque openQuotient : Nat → Nat

/-- The SHA-256 of the Ouvsel root public key that the ROM holds (R233, log 25). -/
opaque rootHash : List Nat

/-- COLLAR_ID.ROMVER: the Collar ROM's version (log 25). -/
opaque romVersion : Nat

/-- ECDSA P-256: whether a signature (r and s, 64 bytes) over a digest verifies under a public key (R83, R264; the standard the
spec names and does not restate, log 25). -/
opaque ecdsaOk : List Nat → List Nat → List Nat → Bool

/-- Whether a public key carries a valid certificate under the root key (R233, R255, R258; no chapter gives the certificate's
form, log 25). -/
opaque certOk : List Nat → List Nat → Bool

/-- Whether a staged trusted image verifies under the root key, with its VERSION where it does: no chapter gives its header
(R268, log 25). -/
opaque trustedImage : List Nat → List (BitVec 72) → Option Nat

/-- The offset of the image floor in the trusted parameter area: no chapter gives it (R265, log 25). -/
opaque imageFloorAt : Nat

/-- The Seam blocks assigned to a channel for its checkpoint and its results (R245, R247; the assignment is the Collar's and no
chapter gives it, log 25). -/
opaque channelBlocks : Nat → List Nat

/-- The eight spare Seam blocks the Collar keeps (R503; no chapter names them, log 25). -/
opaque spareBlocks : List Nat

/-- The two bytes of READ_OUTPUT for a setpoint above 65,535 quarters of a µA, which the field does not hold (R398; log 32). -/
opaque wideSetpoint : Nat → Nat

end Sys2Proof.Config
end

