-- ==== Sys2Proof/Machine/RegMap.lean ====
section
/-!
DEFINITION. The register tables of the spec as data: every register of R541 (spec/18_register_map.md) with its address,
its reset word and its fields, each field with its access class (R8), its lock (R10) and its range or safe code (R13).
The tables stand in the chapter files each row's comment names; a reserved bit has no entry.
-/
namespace Sys2Proof.Machine

/-- The access classes of R8. -/
inductive Acc | rw | ro | w1c | wo | rws | rwt
deriving DecidableEq, Repr

/-- What R13 does with a value outside a field's range: nothing to do, clamp to the nearest limit (unsigned or
two's complement), or replace the illegal codes `lo`..`hi` by the safe code. -/
inductive Rng
  | any
  | clamp (lo hi : Nat)
  | clampS (lo hi : Int)
  | safe (lo hi code : Nat)
deriving DecidableEq, Repr

/-- One field of a register: its bits, access class, whether it is locked-while-running, and its range. -/
structure FieldDef where
  hi : Nat
  lo : Nat
  acc : Acc
  locked : Bool
  rng : Rng
deriving DecidableEq, Repr

/-- A row of the register map: `count` registers from `base`, `stride` apart, their reset word, the shadow address of
the first (0: none; R540), and their fields. -/
structure RegRow where
  base : Nat
  count : Nat
  stride : Nat
  reset : Nat
  shadow : Nat
  fields : List FieldDef
deriving DecidableEq, Repr

/-- A named field: the register's word address and its bits. -/
structure Fld where
  addr : Nat
  hi : Nat
  lo : Nat
deriving DecidableEq, Repr


/-- The SYS block, base 0x4000. -/
def rowsSYS : List RegRow := [
  ⟨0x4000, 1, 0x1, 0x7216010000, 0x0, [⟨39, 24, .ro, false, .any⟩, ⟨23, 16, .ro, false, .any⟩, ⟨15, 8, .ro, false, .any⟩, ⟨7, 0, .ro, false, .any⟩]⟩,
  ⟨0x4008, 1, 0x1, 0x0, 0x0, [⟨35, 16, .ro, false, .any⟩, ⟨15, 12, .ro, false, .any⟩, ⟨11, 8, .ro, false, .any⟩, ⟨7, 1, .ro, false, .any⟩, ⟨0, 0, .w1c, false, .any⟩]⟩,
  ⟨0x4004, 1, 0x1, 0x0, 0x0, [⟨35, 28, .ro, false, .any⟩, ⟨27, 24, .ro, false, .any⟩, ⟨23, 16, .ro, false, .any⟩, ⟨15, 15, .ro, false, .any⟩, ⟨14, 12, .ro, false, .any⟩, ⟨10, 8, .ro, false, .any⟩, ⟨7, 7, .ro, false, .any⟩, ⟨2, 0, .ro, false, .any⟩]⟩,
  ⟨0x400C, 1, 0x1, 0x0, 0x0, [⟨11, 8, .ro, false, .any⟩, ⟨5, 5, .w1c, false, .any⟩, ⟨4, 4, .w1c, false, .any⟩, ⟨3, 3, .w1c, false, .any⟩, ⟨2, 2, .w1c, false, .any⟩, ⟨1, 1, .w1c, false, .any⟩, ⟨0, 0, .w1c, false, .any⟩]⟩,
  ⟨0x4010, 1, 0x1, 0x0, 0x0, [⟨39, 36, .ro, false, .any⟩, ⟨35, 32, .ro, false, .any⟩, ⟨31, 31, .ro, false, .any⟩, ⟨30, 30, .ro, false, .any⟩, ⟨29, 29, .ro, false, .any⟩, ⟨28, 28, .ro, false, .any⟩, ⟨27, 27, .ro, false, .any⟩, ⟨23, 12, .ro, false, .any⟩, ⟨11, 0, .ro, false, .any⟩]⟩,
  ⟨0x4014, 1, 0x1, 0x0, 0x0, [⟨7, 7, .ro, false, .any⟩, ⟨1, 0, .ro, false, .any⟩]⟩,
  ⟨0x4020, 8, 0x1, 0x0, 0x0, [⟨35, 35, .rwt, false, .any⟩, ⟨34, 34, .rwt, false, .any⟩, ⟨33, 33, .rwt, false, .any⟩, ⟨29, 20, .rwt, false, .clamp 0 767⟩, ⟨9, 0, .rwt, false, .clamp 0 767⟩]⟩,
  ⟨0x4028, 8, 0x1, 0x0, 0x0, [⟨35, 35, .rwt, false, .any⟩, ⟨34, 34, .rwt, false, .any⟩, ⟨33, 33, .rwt, false, .any⟩, ⟨29, 20, .rwt, false, .clamp 0 767⟩, ⟨9, 0, .rwt, false, .clamp 0 767⟩]⟩,
  ⟨0x4030, 1, 0x1, 0x0, 0x0, [⟨0, 0, .w1c, false, .any⟩]⟩,
  ⟨0x4034, 1, 0x1, 0x5053, 0x0, [⟨15, 14, .rw, false, .safe 3 3 1⟩, ⟨13, 12, .rw, false, .safe 3 3 1⟩, ⟨11, 10, .rw, false, .safe 3 3 0⟩, ⟨7, 6, .rw, false, .any⟩, ⟨5, 4, .rw, false, .any⟩, ⟨1, 1, .rw, false, .any⟩, ⟨0, 0, .rw, false, .any⟩]⟩,
  ⟨0x4035, 1, 0x1, 0x0, 0x0, [⟨16, 16, .ro, false, .any⟩, ⟨15, 0, .ro, false, .any⟩]⟩,
  ⟨0x4036, 1, 0x1, 0x0, 0x0, [⟨17, 17, .w1c, false, .any⟩, ⟨16, 16, .ro, false, .any⟩, ⟨15, 0, .ro, false, .any⟩]⟩]
/-- The PWR block, base 0x4400. -/
def rowsPWR : List RegRow := [
  ⟨0x4400, 1, 0x1, 0x100, 0x0, [⟨12, 8, .rwt, false, .clamp 1 20⟩, ⟨4, 4, .rwt, false, .any⟩, ⟨0, 0, .rwt, false, .any⟩]⟩,
  ⟨0x4401, 1, 0x1, 0x0, 0x0, [⟨7, 7, .ro, false, .any⟩, ⟨6, 5, .ro, false, .any⟩, ⟨4, 4, .ro, false, .any⟩, ⟨3, 3, .ro, false, .any⟩, ⟨2, 2, .ro, false, .any⟩, ⟨1, 1, .ro, false, .any⟩, ⟨0, 0, .ro, false, .any⟩]⟩,
  ⟨0x4402, 1, 0x1, 0x0, 0x0, [⟨47, 42, .ro, false, .any⟩, ⟨41, 36, .ro, false, .any⟩, ⟨35, 24, .ro, false, .any⟩, ⟨23, 12, .ro, false, .any⟩, ⟨11, 0, .ro, false, .any⟩]⟩,
  ⟨0x4403, 1, 0x1, 0x0, 0x0, [⟨39, 20, .ro, false, .any⟩, ⟨19, 0, .ro, false, .any⟩]⟩,
  ⟨0x4404, 1, 0x1, 0x91C518780, 0x0, [⟨35, 30, .rwt, false, .clamp 24 56⟩, ⟨29, 24, .rw, false, .any⟩, ⟨23, 18, .rw, false, .clamp 17 36⟩, ⟨17, 12, .rw, false, .clamp 17 46⟩, ⟨11, 6, .rw, false, .any⟩, ⟨5, 4, .rw, false, .safe 3 3 0⟩]⟩,
  ⟨0x4405, 1, 0x1, 0x394002, 0x0, [⟨23, 18, .rwt, false, .any⟩, ⟨17, 12, .rwt, false, .any⟩, ⟨1, 1, .ro, false, .any⟩, ⟨0, 0, .rwt, false, .any⟩]⟩,
  ⟨0x4406, 1, 0x1, 0x3C000, 0x0, [⟨19, 12, .rwt, false, .clamp 0 105⟩, ⟨11, 6, .rwt, false, .clamp 0 34⟩, ⟨5, 4, .rwt, false, .safe 3 3 0⟩, ⟨0, 0, .rwt, false, .any⟩]⟩,
  ⟨0x4407, 1, 0x1, 0x0, 0x0, [⟨7, 7, .w1c, false, .any⟩, ⟨6, 6, .w1c, false, .any⟩, ⟨5, 5, .w1c, false, .any⟩, ⟨4, 4, .w1c, false, .any⟩, ⟨3, 3, .w1c, false, .any⟩, ⟨2, 2, .w1c, false, .any⟩, ⟨1, 1, .w1c, false, .any⟩, ⟨0, 0, .w1c, false, .any⟩]⟩,
  ⟨0x4408, 1, 0x1, 0x0, 0x0, [⟨19, 0, .rw, false, .any⟩]⟩]
/-- The CLK block, base 0x4800. -/
def rowsCLK : List RegRow := [
  ⟨0x4800, 1, 0x1, 0x741, 0x0, [⟨15, 15, .rwt, false, .any⟩, ⟨11, 8, .rwt, false, .any⟩, ⟨7, 4, .rwt, false, .clamp 1 15⟩, ⟨1, 0, .rwt, false, .safe 3 3 1⟩]⟩,
  ⟨0x4801, 1, 0x1, 0x0, 0x0, [⟨23, 16, .ro, false, .any⟩, ⟨15, 12, .ro, false, .any⟩, ⟨11, 11, .ro, false, .any⟩, ⟨10, 10, .ro, false, .any⟩, ⟨9, 9, .ro, false, .any⟩, ⟨8, 8, .ro, false, .any⟩, ⟨7, 7, .ro, false, .any⟩, ⟨6, 6, .ro, false, .any⟩, ⟨5, 5, .ro, false, .any⟩, ⟨4, 4, .ro, false, .any⟩, ⟨3, 3, .ro, false, .any⟩, ⟨1, 0, .ro, false, .any⟩]⟩,
  ⟨0x4802, 1, 0x1, 0xC, 0x0, [⟨3, 0, .rw, false, .clamp 0 12⟩]⟩,
  ⟨0x4803, 1, 0x1, 0x0, 0x0, [⟨31, 0, .ro, false, .any⟩]⟩,
  ⟨0x4804, 1, 0x1, 0xA050, 0x0, [⟨19, 12, .rw, false, .clamp 1 255⟩, ⟨7, 4, .rw, false, .clamp 2 15⟩]⟩,
  ⟨0x4805, 1, 0x1, 0x0, 0x0, [⟨13, 13, .wo, false, .any⟩, ⟨12, 12, .wo, false, .any⟩, ⟨11, 0, .wo, false, .clamp 20 2000⟩]⟩,
  ⟨0x4806, 1, 0x1, 0x0, 0x0, [⟨35, 20, .ro, false, .any⟩, ⟨19, 8, .ro, false, .any⟩, ⟨4, 4, .w1c, false, .any⟩, ⟨3, 3, .w1c, false, .any⟩, ⟨2, 2, .w1c, false, .any⟩, ⟨1, 1, .ro, false, .any⟩, ⟨0, 0, .ro, false, .any⟩]⟩,
  ⟨0x4807, 1, 0x1, 0x271020000, 0x0, [⟨35, 20, .rw, false, .clamp 1000 50000⟩, ⟨19, 16, .rw, false, .clamp 0 6⟩, ⟨0, 0, .rw, false, .any⟩]⟩,
  ⟨0x4808, 1, 0x1, 0x0, 0x0, [⟨49, 49, .ro, false, .any⟩, ⟨48, 48, .ro, false, .any⟩, ⟨47, 24, .ro, false, .any⟩, ⟨23, 0, .ro, false, .any⟩]⟩,
  ⟨0x4809, 1, 0x1, 0x0, 0x0, [⟨47, 24, .rwt, false, .clampS (-100000) (100000)⟩, ⟨23, 0, .rwt, false, .clampS (-5000) (5000)⟩]⟩,
  ⟨0x480A, 1, 0x1, 0x0, 0x0, [⟨24, 24, .ro, false, .any⟩, ⟨23, 0, .ro, false, .any⟩]⟩,
  ⟨0x480B, 1, 0x1, 0x0, 0x0, [⟨5, 5, .w1c, false, .any⟩, ⟨4, 4, .w1c, false, .any⟩, ⟨3, 3, .w1c, false, .any⟩, ⟨2, 2, .w1c, false, .any⟩, ⟨1, 1, .w1c, false, .any⟩, ⟨0, 0, .w1c, false, .any⟩]⟩]
/-- The TIDE block, base 0x4C00. -/
def rowsTIDE : List RegRow := [
  ⟨0x4C00, 1, 0x1, 0x0, 0x0, [⟨47, 0, .ro, false, .any⟩]⟩,
  ⟨0x4C01, 1, 0x1, 0x0, 0x0, [⟨71, 24, .rwt, false, .any⟩, ⟨23, 0, .rwt, false, .any⟩]⟩,
  ⟨0x4C02, 1, 0x1, 0x0, 0x0, [⟨71, 0, .rwt, false, .any⟩]⟩,
  ⟨0x4C03, 1, 0x1, 0x0, 0x0, [⟨36, 20, .rwt, false, .clamp 0 86399⟩, ⟨2, 0, .rwt, false, .clamp 0 6⟩]⟩,
  ⟨0x4C04, 1, 0x1, 0x0, 0x0, [⟨71, 0, .rwt, false, .clampS (-250000) (250000)⟩]⟩,
  ⟨0x4C05, 1, 0x1, 0x0, 0x0, [⟨71, 0, .rwt, false, .clampS (-10000) (10000)⟩]⟩,
  ⟨0x4C06, 1, 0x1, 0x0, 0x0, [⟨47, 0, .rwt, false, .any⟩]⟩,
  ⟨0x4C07, 1, 0x1, 0x3200, 0x0, [⟨20, 20, .rwt, false, .any⟩, ⟨19, 16, .rwt, false, .any⟩, ⟨15, 8, .rwt, false, .any⟩, ⟨4, 4, .ro, false, .any⟩, ⟨3, 3, .w1c, false, .any⟩, ⟨1, 1, .ro, false, .any⟩, ⟨0, 0, .rwt, false, .any⟩]⟩,
  ⟨0x4C08, 1, 0x1, 0x0, 0x0, [⟨24, 24, .ro, false, .any⟩, ⟨23, 0, .ro, false, .any⟩]⟩]
/-- The TMR block, base 0x5000. -/
def rowsTMR : List RegRow := [
  ⟨0x5000, 1, 0x20, 0x2, 0x5010, [⟨19, 19, .rw, false, .any⟩, ⟨18, 18, .rw, false, .any⟩, ⟨17, 17, .rw, false, .any⟩, ⟨16, 16, .rw, false, .any⟩, ⟨13, 12, .rw, true, .safe 3 3 0⟩, ⟨11, 8, .rw, true, .any⟩, ⟨4, 4, .rw, true, .any⟩, ⟨3, 2, .rw, true, .any⟩, ⟨1, 1, .rw, false, .any⟩, ⟨0, 0, .rw, false, .any⟩]⟩,
  ⟨0x5020, 1, 0x20, 0x6, 0x5030, [⟨19, 19, .rwt, false, .any⟩, ⟨18, 18, .rwt, false, .any⟩, ⟨17, 17, .rwt, false, .any⟩, ⟨16, 16, .rwt, false, .any⟩, ⟨13, 12, .rwt, true, .safe 3 3 0⟩, ⟨11, 8, .rwt, true, .any⟩, ⟨4, 4, .rwt, true, .any⟩, ⟨3, 2, .ro, false, .any⟩, ⟨1, 1, .rwt, false, .any⟩, ⟨0, 0, .rwt, false, .any⟩]⟩,
  ⟨0x5040, 6, 0x20, 0x2, 0x5050, [⟨19, 19, .rw, false, .any⟩, ⟨18, 18, .rw, false, .any⟩, ⟨17, 17, .rw, false, .any⟩, ⟨16, 16, .rw, false, .any⟩, ⟨13, 12, .rw, true, .safe 3 3 0⟩, ⟨11, 8, .rw, true, .any⟩, ⟨4, 4, .rw, true, .any⟩, ⟨3, 2, .rw, true, .any⟩, ⟨1, 1, .rw, false, .any⟩, ⟨0, 0, .rw, false, .any⟩]⟩,
  ⟨0x5100, 8, 0x20, 0x0, 0x5110, [⟨19, 19, .rw, false, .any⟩, ⟨18, 18, .rw, false, .any⟩, ⟨17, 17, .rw, false, .any⟩, ⟨16, 16, .rw, false, .any⟩, ⟨1, 1, .rw, false, .any⟩, ⟨0, 0, .rw, false, .any⟩]⟩,
  ⟨0x5001, 1, 0x20, 0x0, 0x0, [⟨2, 2, .wo, false, .any⟩, ⟨1, 1, .wo, false, .any⟩, ⟨0, 0, .wo, false, .any⟩]⟩,
  ⟨0x5021, 1, 0x20, 0x0, 0x0, [⟨2, 2, .wo, false, .any⟩, ⟨1, 1, .wo, false, .any⟩, ⟨0, 0, .wo, false, .any⟩]⟩,
  ⟨0x5041, 6, 0x20, 0x0, 0x0, [⟨2, 2, .wo, false, .any⟩, ⟨1, 1, .wo, false, .any⟩, ⟨0, 0, .wo, false, .any⟩]⟩,
  ⟨0x5101, 8, 0x20, 0x0, 0x0, [⟨2, 2, .wo, false, .any⟩, ⟨1, 1, .wo, false, .any⟩, ⟨0, 0, .wo, false, .any⟩]⟩,
  ⟨0x5002, 1, 0x20, 0x0, 0x0, [⟨71, 48, .ro, false, .any⟩, ⟨47, 32, .rw, false, .any⟩, ⟨31, 0, .rw, false, .any⟩]⟩,
  ⟨0x5022, 1, 0x20, 0x0, 0x0, [⟨71, 48, .ro, false, .any⟩, ⟨47, 32, .rwt, false, .any⟩, ⟨31, 0, .rwt, false, .any⟩]⟩,
  ⟨0x5042, 6, 0x20, 0x0, 0x0, [⟨71, 48, .ro, false, .any⟩, ⟨47, 32, .rw, false, .any⟩, ⟨31, 0, .rw, false, .any⟩]⟩,
  ⟨0x5102, 8, 0x20, 0x0, 0x0, [⟨31, 0, .rw, false, .any⟩]⟩,
  ⟨0x5003, 1, 0x20, 0x200000, 0x5013, [⟨31, 0, .rw, true, .clamp 65536 4294967295⟩]⟩,
  ⟨0x5023, 1, 0x20, 0x10000, 0x5033, [⟨31, 0, .rwt, true, .clamp 65536 4294967295⟩]⟩,
  ⟨0x5043, 6, 0x20, 0x10000, 0x5053, [⟨31, 0, .rw, true, .clamp 65536 4294967295⟩]⟩,
  ⟨0x5103, 8, 0x20, 0x0, 0x5113, [⟨3, 0, .rw, true, .any⟩]⟩,
  ⟨0x5004, 1, 0x20, 0x0, 0x5014, [⟨47, 0, .rws, false, .any⟩]⟩,
  ⟨0x5024, 1, 0x20, 0x20000, 0x5034, [⟨47, 0, .rwt, false, .any⟩]⟩,
  ⟨0x5044, 6, 0x20, 0x0, 0x5054, [⟨47, 0, .rws, false, .any⟩]⟩,
  ⟨0x5104, 8, 0x20, 0x0, 0x5114, [⟨31, 0, .rws, false, .any⟩]⟩,
  ⟨0x5005, 1, 0x20, 0x0, 0x5015, [⟨47, 0, .rws, false, .any⟩]⟩,
  ⟨0x5025, 1, 0x20, 0x0, 0x5035, [⟨47, 0, .rwt, false, .any⟩]⟩,
  ⟨0x5045, 6, 0x20, 0x0, 0x5055, [⟨47, 0, .rws, false, .any⟩]⟩,
  ⟨0x5105, 8, 0x20, 0x0, 0x5115, [⟨31, 0, .rws, false, .any⟩]⟩,
  ⟨0x5006, 1, 0x20, 0x0, 0x0, [⟨19, 16, .rw, false, .any⟩, ⟨11, 10, .rw, false, .any⟩, ⟨9, 8, .rw, false, .any⟩, ⟨7, 6, .rw, false, .any⟩, ⟨5, 4, .rw, false, .any⟩, ⟨3, 2, .rw, false, .any⟩, ⟨1, 0, .rw, false, .any⟩]⟩,
  ⟨0x5026, 1, 0x20, 0x1, 0x0, [⟨19, 16, .rwt, false, .any⟩, ⟨11, 10, .rwt, false, .any⟩, ⟨9, 8, .rwt, false, .any⟩, ⟨7, 6, .rwt, false, .any⟩, ⟨5, 4, .rwt, false, .any⟩, ⟨3, 2, .rwt, false, .any⟩, ⟨1, 0, .ro, false, .any⟩]⟩,
  ⟨0x5046, 6, 0x20, 0x0, 0x0, [⟨19, 16, .rw, false, .any⟩, ⟨11, 10, .rw, false, .any⟩, ⟨9, 8, .rw, false, .any⟩, ⟨7, 6, .rw, false, .any⟩, ⟨5, 4, .rw, false, .any⟩, ⟨3, 2, .rw, false, .any⟩, ⟨1, 0, .rw, false, .any⟩]⟩,
  ⟨0x5106, 8, 0x20, 0x0, 0x0, [⟨19, 16, .rw, false, .any⟩, ⟨11, 10, .rw, false, .any⟩, ⟨9, 8, .rw, false, .any⟩, ⟨7, 6, .rw, false, .any⟩, ⟨5, 4, .rw, false, .any⟩, ⟨3, 2, .rw, false, .any⟩, ⟨1, 0, .rw, false, .any⟩]⟩,
  ⟨0x5007, 1, 0x20, 0x7F7F, 0x0, [⟨19, 18, .rw, false, .safe 3 3 0⟩, ⟨17, 16, .rw, false, .safe 3 3 0⟩, ⟨14, 8, .rw, false, .safe 80 126 127⟩, ⟨6, 0, .rw, false, .safe 80 126 127⟩]⟩,
  ⟨0x5027, 1, 0x20, 0x7F7F, 0x0, [⟨19, 18, .rwt, false, .safe 3 3 0⟩, ⟨17, 16, .rwt, false, .safe 3 3 0⟩, ⟨14, 8, .rwt, false, .safe 80 126 127⟩, ⟨6, 0, .rwt, false, .safe 80 126 127⟩]⟩,
  ⟨0x5047, 6, 0x20, 0x7F7F, 0x0, [⟨19, 18, .rw, false, .safe 3 3 0⟩, ⟨17, 16, .rw, false, .safe 3 3 0⟩, ⟨14, 8, .rw, false, .safe 80 126 127⟩, ⟨6, 0, .rw, false, .safe 80 126 127⟩]⟩,
  ⟨0x5107, 8, 0x20, 0x7F7F, 0x0, [⟨17, 16, .rw, false, .safe 3 3 0⟩, ⟨6, 0, .rw, false, .safe 80 126 127⟩]⟩,
  ⟨0x5008, 1, 0x20, 0x0, 0x0, [⟨60, 60, .ro, false, .any⟩, ⟨59, 56, .ro, false, .any⟩, ⟨55, 48, .ro, false, .any⟩, ⟨47, 0, .ro, false, .any⟩]⟩,
  ⟨0x5028, 1, 0x20, 0x0, 0x0, [⟨60, 60, .ro, false, .any⟩, ⟨59, 56, .ro, false, .any⟩, ⟨55, 48, .ro, false, .any⟩, ⟨47, 0, .ro, false, .any⟩]⟩,
  ⟨0x5048, 6, 0x20, 0x0, 0x0, [⟨60, 60, .ro, false, .any⟩, ⟨59, 56, .ro, false, .any⟩, ⟨55, 48, .ro, false, .any⟩, ⟨47, 0, .ro, false, .any⟩]⟩,
  ⟨0x5108, 8, 0x20, 0x0, 0x0, [⟨31, 0, .ro, false, .any⟩]⟩,
  ⟨0x5009, 1, 0x20, 0x0, 0x0, [⟨8, 8, .wo, false, .any⟩, ⟨7, 0, .wo, false, .any⟩]⟩,
  ⟨0x5029, 1, 0x20, 0x0, 0x0, [⟨8, 8, .wo, false, .any⟩, ⟨7, 0, .wo, false, .any⟩]⟩,
  ⟨0x5049, 6, 0x20, 0x0, 0x0, [⟨8, 8, .wo, false, .any⟩, ⟨7, 0, .wo, false, .any⟩]⟩,
  ⟨0x5109, 8, 0x20, 0x0, 0x0, []⟩,
  ⟨0x500A, 1, 0x20, 0x0, 0x0, [⟨23, 16, .ro, false, .any⟩, ⟨11, 11, .w1c, false, .any⟩, ⟨10, 10, .ro, false, .any⟩, ⟨8, 8, .w1c, false, .any⟩, ⟨7, 5, .ro, false, .any⟩, ⟨3, 3, .w1c, false, .any⟩, ⟨2, 2, .w1c, false, .any⟩, ⟨1, 1, .w1c, false, .any⟩, ⟨0, 0, .ro, false, .any⟩]⟩,
  ⟨0x502A, 1, 0x20, 0x0, 0x0, [⟨23, 16, .ro, false, .any⟩, ⟨11, 11, .w1c, false, .any⟩, ⟨10, 10, .ro, false, .any⟩, ⟨8, 8, .w1c, false, .any⟩, ⟨7, 5, .ro, false, .any⟩, ⟨3, 3, .w1c, false, .any⟩, ⟨2, 2, .w1c, false, .any⟩, ⟨1, 1, .w1c, false, .any⟩, ⟨0, 0, .ro, false, .any⟩]⟩,
  ⟨0x504A, 6, 0x20, 0x0, 0x0, [⟨23, 16, .ro, false, .any⟩, ⟨11, 11, .w1c, false, .any⟩, ⟨10, 10, .ro, false, .any⟩, ⟨8, 8, .w1c, false, .any⟩, ⟨7, 5, .ro, false, .any⟩, ⟨3, 3, .w1c, false, .any⟩, ⟨2, 2, .w1c, false, .any⟩, ⟨1, 1, .w1c, false, .any⟩, ⟨0, 0, .ro, false, .any⟩]⟩,
  ⟨0x510A, 8, 0x20, 0x0, 0x0, [⟨31, 24, .ro, false, .any⟩, ⟨12, 12, .w1c, false, .any⟩, ⟨9, 9, .w1c, false, .any⟩, ⟨8, 8, .w1c, false, .any⟩, ⟨4, 4, .w1c, false, .any⟩, ⟨3, 3, .w1c, false, .any⟩, ⟨2, 2, .w1c, false, .any⟩, ⟨1, 1, .w1c, false, .any⟩, ⟨0, 0, .ro, false, .any⟩]⟩,
  ⟨0x5200, 8, 0x1, 0x0, 0x5210, [⟨32, 32, .rws, false, .any⟩, ⟨31, 20, .rws, false, .clamp 20 2000⟩, ⟨19, 0, .rws, false, .any⟩]⟩,
  ⟨0x5208, 1, 0x1, 0x0, 0x0, [⟨15, 8, .ro, false, .any⟩, ⟨4, 4, .w1c, false, .any⟩, ⟨3, 0, .ro, false, .any⟩]⟩]
/-- The EVT block, base 0x5400. -/
def rowsEVT : List RegRow := [
  ⟨0x5400, 1, 0x1, 0x0, 0x0, [⟨13, 13, .rw, false, .any⟩, ⟨5, 0, .rw, false, .any⟩]⟩,
  ⟨0x5401, 31, 0x1, 0x2000, 0x0, [⟨13, 13, .rw, false, .any⟩, ⟨5, 0, .rw, false, .any⟩]⟩,
  ⟨0x5420, 1, 0x1, 0x0, 0x0, [⟨13, 13, .rw, false, .any⟩, ⟨5, 0, .rw, false, .any⟩]⟩,
  ⟨0x5421, 31, 0x1, 0x2000, 0x0, [⟨13, 13, .rw, false, .any⟩, ⟨5, 0, .rw, false, .any⟩]⟩,
  ⟨0x5440, 1, 0x1, 0x0, 0x0, [⟨13, 13, .rwt, false, .any⟩, ⟨5, 0, .rwt, false, .any⟩]⟩,
  ⟨0x5441, 15, 0x1, 0x2000, 0x0, [⟨13, 13, .rwt, false, .any⟩, ⟨5, 0, .rwt, false, .any⟩]⟩,
  ⟨0x5450, 1, 0x1, 0x0, 0x0, [⟨63, 0, .ro, false, .any⟩]⟩,
  ⟨0x5451, 1, 0x1, 0x0, 0x0, [⟨63, 0, .ro, false, .any⟩]⟩,
  ⟨0x5452, 1, 0x1, 0x0, 0x0, [⟨31, 0, .ro, false, .any⟩]⟩,
  ⟨0x5453, 1, 0x1, 0x0, 0x0, [⟨31, 0, .w1c, false, .any⟩]⟩,
  ⟨0x5454, 1, 0x1, 0x0, 0x0, [⟨31, 0, .w1c, false, .any⟩]⟩,
  ⟨0x5455, 1, 0x1, 0x0, 0x0, [⟨15, 0, .w1c, false, .any⟩]⟩,
  ⟨0x5456, 1, 0x1, 0x0, 0x0, [⟨7, 0, .wo, false, .any⟩]⟩]
/-- The SEAM block, base 0x5800. -/
def rowsSEAM : List RegRow := [
  ⟨0x5800, 256, 0x1, 0xFF, 0x0, [⟨31, 24, .ro, false, .any⟩, ⟨23, 16, .ro, false, .any⟩, ⟨10, 10, .ro, false, .any⟩, ⟨9, 9, .ro, false, .any⟩, ⟨8, 8, .ro, false, .any⟩, ⟨7, 4, .ro, false, .any⟩, ⟨3, 0, .ro, false, .any⟩]⟩,
  ⟨0x5900, 1, 0x1, 0x0, 0x0, [⟨39, 36, .wo, false, .safe 10 14 15⟩, ⟨35, 35, .wo, false, .any⟩, ⟨34, 34, .wo, false, .any⟩, ⟨31, 24, .wo, false, .any⟩, ⟨23, 16, .wo, false, .any⟩, ⟨11, 8, .wo, false, .safe 10 14 15⟩, ⟨2, 0, .wo, false, .safe 6 7 0⟩]⟩,
  ⟨0x5901, 1, 0x1, 0x0, 0x0, [⟨35, 34, .ro, false, .any⟩, ⟨32, 32, .ro, false, .any⟩, ⟨31, 0, .ro, false, .any⟩]⟩,
  ⟨0x5902, 1, 0x1, 0x0, 0x0, [⟨71, 64, .ro, false, .any⟩, ⟨63, 56, .ro, false, .any⟩, ⟨55, 48, .ro, false, .any⟩, ⟨47, 40, .ro, false, .any⟩, ⟨39, 36, .ro, false, .any⟩, ⟨0, 0, .w1c, false, .any⟩]⟩,
  ⟨0x5903, 1, 0x1, 0x1F00, 0x0, [⟨12, 8, .rwt, false, .any⟩, ⟨6, 5, .rwt, false, .any⟩, ⟨1, 1, .rwt, false, .any⟩, ⟨0, 0, .rwt, false, .any⟩]⟩,
  ⟨0x5904, 1, 0x1, 0x0, 0x0, [⟨31, 24, .ro, false, .any⟩, ⟨23, 16, .ro, false, .any⟩, ⟨15, 8, .ro, false, .any⟩, ⟨2, 2, .ro, false, .any⟩, ⟨1, 1, .ro, false, .any⟩, ⟨0, 0, .w1c, false, .any⟩]⟩]
/-- The TDC block, base 0x5C00. -/
def rowsTDC : List RegRow := [
  ⟨0x5C00, 2, 0x100, 0x40231000, 0x5C10, [⟨31, 24, .rw, true, .any⟩, ⟨22, 20, .rw, true, .clamp 0 4⟩, ⟨19, 16, .rw, true, .clamp 0 10⟩, ⟨14, 8, .rw, true, .clamp 1 64⟩, ⟨0, 0, .rw, true, .any⟩]⟩,
  ⟨0x5C01, 2, 0x100, 0x20, 0x0, [⟨55, 48, .ro, false, .any⟩, ⟨47, 40, .ro, false, .any⟩, ⟨39, 32, .ro, false, .any⟩, ⟨31, 24, .ro, false, .any⟩, ⟨8, 8, .w1c, false, .any⟩, ⟨6, 6, .ro, false, .any⟩, ⟨5, 5, .ro, false, .any⟩, ⟨4, 4, .ro, false, .any⟩, ⟨3, 3, .ro, false, .any⟩, ⟨2, 0, .ro, false, .any⟩]⟩,
  ⟨0x5C02, 2, 0x100, 0x0, 0x0, [⟨47, 24, .ro, false, .any⟩, ⟨23, 0, .ro, false, .any⟩]⟩,
  ⟨0x5C03, 2, 0x100, 0x0, 0x0, [⟨47, 24, .ro, false, .any⟩, ⟨23, 0, .ro, false, .any⟩]⟩,
  ⟨0x5C04, 2, 0x100, 0x0, 0x0, [⟨48, 48, .ro, false, .any⟩, ⟨47, 0, .ro, false, .any⟩]⟩,
  ⟨0x5C05, 2, 0x100, 0x0, 0x0, [⟨71, 36, .ro, false, .any⟩, ⟨35, 0, .ro, false, .any⟩]⟩,
  ⟨0x5C06, 2, 0x100, 0x0, 0x0, [⟨11, 11, .rw, false, .any⟩, ⟨10, 10, .rw, false, .any⟩, ⟨9, 0, .rw, false, .any⟩]⟩,
  ⟨0x5C07, 2, 0x100, 0x0, 0x0, [⟨35, 0, .ro, false, .any⟩]⟩,
  ⟨0x5C08, 2, 0x100, 0x0, 0x0, [⟨55, 48, .wo, false, .any⟩, ⟨47, 32, .wo, false, .clamp 1 65535⟩, ⟨30, 30, .wo, false, .any⟩, ⟨29, 29, .wo, false, .any⟩, ⟨28, 28, .wo, false, .any⟩, ⟨27, 27, .wo, false, .any⟩, ⟨26, 26, .wo, false, .any⟩, ⟨25, 25, .wo, false, .any⟩, ⟨23, 20, .wo, false, .any⟩, ⟨19, 16, .wo, false, .any⟩, ⟨0, 0, .wo, false, .any⟩]⟩,
  ⟨0x5C09, 2, 0x100, 0x0, 0x0, [⟨1, 0, .ro, false, .any⟩]⟩,
  ⟨0x5C0A, 2, 0x100, 0x0, 0x0, [⟨71, 60, .ro, false, .any⟩, ⟨47, 0, .ro, false, .any⟩]⟩]
/-- The USF block, base 0x6000. -/
def rowsUSF : List RegRow := [
  ⟨0x6000, 1, 0x1, 0x8201, 0x6040, [⟨15, 12, .rw, true, .clamp 1 15⟩, ⟨10, 8, .rw, true, .any⟩, ⟨0, 0, .rw, true, .any⟩]⟩,
  ⟨0x6010, 4, 0x1, 0x481E3E8, 0x6050, [⟨35, 35, .rw, true, .any⟩, ⟨34, 33, .rw, true, .any⟩, ⟨32, 32, .rw, true, .any⟩, ⟨27, 25, .rw, true, .clamp 1 7⟩, ⟨24, 20, .rw, true, .clamp 1 31⟩, ⟨19, 12, .rw, true, .clamp 5 95⟩, ⟨11, 0, .rw, true, .clamp 500 4000⟩]⟩,
  ⟨0x6014, 4, 0x1, 0x1E06400A, 0x6054, [⟨35, 24, .rw, true, .clamp 2 1000⟩, ⟨23, 12, .rw, true, .clamp 2 2000⟩, ⟨11, 0, .rw, true, .any⟩]⟩,
  ⟨0x6018, 4, 0x1, 0x3C0050, 0x0, [⟨35, 28, .ro, false, .any⟩, ⟨23, 16, .rw, false, .clamp 20 90⟩, ⟨15, 15, .rw, false, .any⟩, ⟨6, 0, .rw, false, .clamp 0 120⟩]⟩,
  ⟨0x6020, 1, 0x1, 0x0, 0x0, [⟨71, 0, .wo, false, .any⟩]⟩,
  ⟨0x6021, 1, 0x1, 0x0, 0x0, [⟨9, 8, .ro, false, .any⟩, ⟨7, 0, .ro, false, .any⟩]⟩,
  ⟨0x6022, 1, 0x1, 0xF0000, 0x0, [⟨19, 16, .ro, false, .any⟩, ⟨15, 12, .ro, false, .any⟩, ⟨11, 8, .ro, false, .any⟩, ⟨7, 7, .w1c, false, .any⟩, ⟨6, 6, .w1c, false, .any⟩, ⟨5, 5, .ro, false, .any⟩, ⟨4, 4, .ro, false, .any⟩, ⟨3, 0, .ro, false, .any⟩]⟩,
  ⟨0x6023, 1, 0x1, 0x0, 0x0, [⟨32, 32, .w1c, false, .any⟩, ⟨31, 0, .ro, false, .any⟩]⟩,
  ⟨0x6024, 4, 0x1, 0x0, 0x0, [⟨36, 36, .ro, false, .any⟩, ⟨35, 18, .ro, false, .any⟩, ⟨17, 0, .ro, false, .any⟩]⟩,
  ⟨0x6028, 4, 0x1, 0x0, 0x0, [⟨49, 48, .ro, false, .any⟩, ⟨47, 0, .ro, false, .any⟩]⟩,
  ⟨0x602C, 1, 0x1, 0x14400, 0x0, [⟨23, 20, .ro, false, .any⟩, ⟨19, 12, .rwt, false, .clamp 1 255⟩, ⟨11, 4, .rwt, false, .clamp 16 255⟩, ⟨3, 0, .rwt, false, .any⟩]⟩]
/-- The ADC block, base 0x6400. -/
def rowsADC : List RegRow := [
  ⟨0x6400, 1, 0x1, 0x33211, 0x6440, [⟨18, 16, .rw, true, .safe 7 7 3⟩, ⟨14, 12, .rw, true, .safe 7 7 3⟩, ⟨10, 8, .rw, true, .safe 6 7 2⟩, ⟨4, 4, .rw, true, .any⟩, ⟨0, 0, .rw, true, .any⟩]⟩,
  ⟨0x6410, 16, 0x1, 0xFFF000000001000000, 0x6450, [⟨71, 60, .rw, true, .any⟩, ⟨59, 48, .rw, true, .any⟩, ⟨47, 44, .rw, true, .any⟩, ⟨43, 40, .rw, true, .any⟩, ⟨39, 36, .rw, true, .any⟩, ⟨33, 31, .rw, true, .any⟩, ⟨30, 30, .rw, true, .any⟩, ⟨26, 26, .rw, true, .any⟩, ⟨25, 25, .rw, true, .any⟩, ⟨24, 23, .rw, true, .safe 3 3 2⟩, ⟨22, 20, .rw, true, .safe 5 7 0⟩]⟩,
  ⟨0x6420, 1, 0x1, 0x0, 0x0, [⟨71, 0, .wo, false, .any⟩]⟩,
  ⟨0x6421, 1, 0x1, 0x0, 0x0, [⟨9, 8, .ro, false, .any⟩, ⟨7, 0, .ro, false, .any⟩]⟩,
  ⟨0x6422, 1, 0x1, 0x0, 0x0, [⟨13, 12, .ro, false, .any⟩, ⟨11, 11, .w1c, false, .any⟩, ⟨10, 10, .w1c, false, .any⟩, ⟨7, 6, .ro, false, .any⟩, ⟨5, 4, .ro, false, .any⟩, ⟨3, 0, .ro, false, .any⟩]⟩]
/-- The MET block, base 0x6800. -/
def rowsMET : List RegRow := [
  ⟨0x6BF0, 1, 0x1, 0x530F0000000000, 0x0, [⟨59, 52, .rwt, false, .clamp 1 50⟩, ⟨51, 48, .rwt, false, .clamp 1 15⟩, ⟨47, 40, .rwt, false, .clamp 1 255⟩, ⟨31, 0, .rwt, false, .any⟩]⟩,
  ⟨0x6BF1, 1, 0x1, 0x0, 0x0, [⟨55, 52, .ro, false, .any⟩, ⟨51, 48, .ro, false, .any⟩, ⟨47, 46, .ro, false, .any⟩, ⟨31, 16, .ro, false, .any⟩, ⟨15, 0, .ro, false, .any⟩]⟩,
  ⟨0x6800, 16, 0x10, 0x0, 0x0, [⟨47, 32, .rwt, false, .any⟩, ⟨25, 25, .rwt, false, .any⟩, ⟨24, 24, .rwt, false, .any⟩, ⟨23, 20, .rwt, false, .any⟩, ⟨19, 16, .rwt, false, .clamp 0 7⟩, ⟨15, 12, .rwt, false, .clamp 0 7⟩, ⟨8, 8, .rwt, false, .any⟩, ⟨5, 4, .rwt, false, .any⟩, ⟨2, 0, .rwt, false, .safe 6 7 0⟩]⟩,
  ⟨0x6801, 16, 0x10, 0xFFFFFFFFFFFF, 0x0, [⟨47, 0, .rwt, false, .any⟩]⟩,
  ⟨0x6802, 16, 0x10, 0xFFFFFFFFFFFF, 0x0, [⟨47, 0, .rwt, false, .any⟩]⟩,
  ⟨0x6803, 16, 0x10, 0xFFFFFFFFFFFF, 0x0, [⟨47, 0, .rwt, false, .any⟩]⟩,
  ⟨0x6804, 16, 0x10, 0x0, 0x0, [⟨47, 0, .rwt, false, .any⟩]⟩,
  ⟨0x6805, 16, 0x10, 0x0, 0x0, [⟨71, 36, .rwt, false, .any⟩, ⟨35, 0, .rwt, false, .any⟩]⟩,
  ⟨0x6806, 16, 0x10, 0x18BCD062F3442AFE, 0x0, [⟨65, 44, .rwt, false, .clamp 50000 4000000⟩, ⟨43, 22, .rwt, false, .clamp 50000 200000⟩, ⟨21, 0, .rwt, false, .clamp 250000 300000⟩]⟩,
  ⟨0x6807, 16, 0x10, 0x0, 0x0, [⟨71, 36, .rwt, false, .any⟩, ⟨35, 0, .rwt, false, .any⟩]⟩,
  ⟨0x6808, 16, 0x10, 0x1000000, 0x0, [⟨35, 0, .rwt, false, .any⟩]⟩,
  ⟨0x6809, 16, 0x10, 0x0, 0x0, [⟨47, 0, .ro, false, .any⟩]⟩,
  ⟨0x680A, 16, 0x10, 0x0, 0x0, [⟨59, 56, .ro, false, .any⟩, ⟨55, 48, .ro, false, .any⟩, ⟨47, 0, .ro, false, .any⟩]⟩,
  ⟨0x6A00, 1, 0x1, 0x0, 0x0, [⟨31, 16, .ro, false, .any⟩, ⟨7, 7, .w1c, false, .any⟩, ⟨6, 6, .w1c, false, .any⟩, ⟨5, 5, .w1c, false, .any⟩, ⟨4, 4, .w1c, false, .any⟩, ⟨3, 3, .w1c, false, .any⟩, ⟨2, 2, .w1c, false, .any⟩, ⟨1, 1, .w1c, false, .any⟩, ⟨0, 0, .w1c, false, .any⟩]⟩,
  ⟨0x6A11, 3, 0x1, 0xFFFFFFFFFFFFFFFFFF, 0x0, [⟨71, 0, .rwt, false, .any⟩]⟩,
  ⟨0x6A14, 1, 0x1, 0xFFFFFFFFFFFFFFFFFF, 0x0, [⟨71, 0, .rwt, false, .any⟩]⟩,
  ⟨0x6A15, 1, 0x1, 0x0, 0x0, [⟨71, 52, .ro, false, .any⟩, ⟨51, 32, .ro, false, .any⟩, ⟨31, 26, .ro, false, .any⟩]⟩,
  ⟨0x6A16, 1, 0x1, 0x0, 0x0, [⟨47, 24, .ro, false, .any⟩, ⟨23, 0, .ro, false, .any⟩]⟩,
  ⟨0x6A20, 1, 0x1, 0x989680, 0x0, [⟨47, 0, .rwt, false, .any⟩]⟩,
  ⟨0x6900, 16, 0x10, 0, 0, [⟨71, 0, .ro, false, .any⟩]⟩,
  ⟨0x6901, 16, 0x10, 0, 0, [⟨71, 0, .ro, false, .any⟩]⟩,
  ⟨0x6902, 16, 0x10, 0, 0, [⟨71, 0, .ro, false, .any⟩]⟩,
  ⟨0x6903, 16, 0x10, 0, 0, [⟨71, 0, .ro, false, .any⟩]⟩,
  ⟨0x6904, 16, 0x10, 0, 0, [⟨71, 0, .ro, false, .any⟩]⟩,
  ⟨0x6905, 16, 0x10, 0, 0, [⟨71, 0, .ro, false, .any⟩]⟩,
  ⟨0x6906, 16, 0x10, 0, 0, [⟨71, 0, .ro, false, .any⟩]⟩,
  ⟨0x6907, 16, 0x10, 0, 0, [⟨71, 0, .ro, false, .any⟩]⟩,
  ⟨0x6908, 16, 0x10, 0, 0, [⟨71, 0, .ro, false, .any⟩]⟩,
  ⟨0x6909, 16, 0x10, 0, 0, [⟨71, 0, .ro, false, .any⟩]⟩,
  ⟨0x690A, 16, 0x10, 0, 0, [⟨71, 0, .ro, false, .any⟩]⟩,
  ⟨0x690B, 16, 0x10, 0, 0, [⟨71, 0, .ro, false, .any⟩]⟩,
  ⟨0x690C, 16, 0x10, 0, 0, [⟨71, 0, .ro, false, .any⟩]⟩]
/-- The PLS block, base 0x6C00. -/
def rowsPLS : List RegRow := [
  ⟨0x6C00, 8, 0x1, 0x132320000, 0x0, [⟨71, 32, .rwt, false, .clamp 1 1099511627775⟩, ⟨31, 24, .rwt, false, .clamp 1 255⟩, ⟨23, 16, .rwt, false, .clamp 1 255⟩, ⟨15, 12, .rwt, false, .any⟩, ⟨11, 8, .rwt, false, .safe 11 15 0⟩, ⟨2, 2, .rwt, false, .any⟩, ⟨1, 1, .rwt, false, .any⟩, ⟨0, 0, .rwt, false, .any⟩]⟩,
  ⟨0x6C08, 8, 0x1, 0x0, 0x0, [⟨63, 48, .ro, false, .any⟩, ⟨47, 16, .ro, false, .any⟩, ⟨15, 8, .ro, false, .any⟩, ⟨0, 0, .ro, false, .any⟩]⟩,
  ⟨0x6C10, 1, 0x1, 0x0, 0x0, [⟨15, 8, .w1c, false, .any⟩, ⟨7, 0, .w1c, false, .any⟩]⟩]
/-- The LOOP block, base 0x7000. -/
def rowsLOOP : List RegRow := [
  ⟨0x7000, 1, 0x1, 0x10000, 0x0, [⟨31, 16, .rwt, false, .clamp 1 65534⟩, ⟨8, 8, .rwt, false, .any⟩]⟩,
  ⟨0x7001, 1, 0x1, 0x0, 0x7021, [⟨7, 4, .rws, false, .any⟩, ⟨2, 0, .rws, false, .safe 5 7 0⟩]⟩,
  ⟨0x7002, 1, 0x1, 0x0, 0x7022, [⟨71, 0, .rws, false, .any⟩]⟩,
  ⟨0x7003, 1, 0x1, 0x0, 0x7023, [⟨71, 0, .rws, false, .any⟩]⟩,
  ⟨0x7004, 1, 0x1, 0x0, 0x7024, [⟨9, 0, .rws, false, .clamp 0 600⟩]⟩,
  ⟨0x7005, 1, 0x1, 0x54600E102003, 0x0, [⟨47, 32, .rwt, false, .clamp 21000 22000⟩, ⟨31, 16, .rwt, false, .clamp 3300 3600⟩, ⟨15, 12, .rwt, false, .clamp 1 15⟩, ⟨8, 8, .rwt, false, .any⟩, ⟨4, 4, .rwt, false, .any⟩, ⟨3, 3, .rwt, false, .any⟩, ⟨2, 2, .rwt, false, .any⟩, ⟨1, 1, .rwt, false, .any⟩, ⟨0, 0, .rwt, false, .any⟩]⟩,
  ⟨0x7006, 1, 0x1, 0x0, 0x0, [⟨16, 16, .rwt, false, .any⟩, ⟨15, 0, .rwt, false, .clamp 3300 22000⟩]⟩,
  ⟨0x7007, 1, 0x1, 0x0, 0x0, [⟨71, 0, .rw, false, .any⟩]⟩,
  ⟨0x7008, 1, 0x1, 0x0, 0x0, [⟨49, 32, .ro, false, .any⟩, ⟨31, 16, .ro, false, .any⟩, ⟨15, 15, .ro, false, .any⟩, ⟨14, 14, .ro, false, .any⟩, ⟨13, 13, .ro, false, .any⟩, ⟨12, 12, .ro, false, .any⟩, ⟨2, 0, .ro, false, .any⟩]⟩,
  ⟨0x7009, 1, 0x1, 0x0, 0x0, [⟨5, 5, .w1c, false, .any⟩, ⟨4, 4, .w1c, false, .any⟩, ⟨3, 3, .w1c, false, .any⟩, ⟨2, 2, .w1c, false, .any⟩, ⟨1, 1, .w1c, false, .any⟩, ⟨0, 0, .w1c, false, .any⟩]⟩,
  ⟨0x700A, 1, 0x1, 0x0, 0x0, [⟨71, 48, .ro, false, .any⟩, ⟨47, 24, .ro, false, .any⟩, ⟨23, 0, .ro, false, .any⟩]⟩,
  ⟨0x7010, 1, 0x1, 0x0, 0x0, [⟨22, 16, .ro, false, .any⟩, ⟨5, 0, .ro, false, .any⟩]⟩,
  ⟨0x7011, 1, 0x1, 0x0, 0x0, [⟨13, 8, .rw, false, .any⟩, ⟨5, 0, .rw, false, .any⟩]⟩,
  ⟨0x7012, 1, 0x1, 0x0, 0x0, [⟨71, 0, .ro, false, .any⟩]⟩,
  ⟨0x7013, 1, 0x1, 0x0, 0x0, [⟨71, 0, .ro, false, .any⟩]⟩,
  ⟨0x7014, 1, 0x1, 0x0, 0x0, [⟨15, 0, .ro, false, .any⟩]⟩]
/-- The HOST block, base 0x7400. -/
def rowsHOST : List RegRow := [
  ⟨0x7400, 1, 0x1, 0x0, 0x0, [⟨9, 0, .w1c, false, .any⟩]⟩,
  ⟨0x7401, 1, 0x1, 0x1F, 0x0, [⟨9, 0, .rw, false, .any⟩]⟩,
  ⟨0x7402, 1, 0x1, 0x0, 0x0, [⟨47, 40, .ro, false, .any⟩, ⟨31, 14, .ro, false, .any⟩, ⟨2, 2, .w1c, false, .any⟩, ⟨1, 1, .w1c, false, .any⟩, ⟨0, 0, .w1c, false, .any⟩]⟩,
  ⟨0x7403, 1, 0x1, 0x1, 0x0, [⟨1, 0, .rw, false, .safe 3 3 1⟩]⟩]
/-- The RADIO block, base 0x7800. -/
def rowsRADIO : List RegRow := [
  ⟨0x7800, 1, 0x1, 0x0, 0x0, [⟨63, 0, .ro, false, .any⟩]⟩,
  ⟨0x7801, 1, 0x1, 0xAB0E0830, 0x7821, [⟨31, 24, .rwt, true, .clampS (-110) (-60)⟩, ⟨23, 16, .rwt, true, .clampS (-10) (14)⟩, ⟨15, 8, .rwt, true, .clamp 4 64⟩, ⟨5, 5, .rwt, true, .any⟩, ⟨4, 4, .rwt, true, .any⟩, ⟨3, 2, .rwt, true, .safe 3 3 0⟩, ⟨0, 0, .rwt, true, .any⟩]⟩,
  ⟨0x7802, 1, 0x1, 0xD2B7C023, 0x7822, [⟨31, 12, .rwt, true, .clamp 863000 928000⟩, ⟨10, 10, .rwt, true, .any⟩, ⟨6, 0, .rwt, true, .clamp 1 64⟩]⟩,
  ⟨0x7803, 1, 0x1, 0x0, 0x0, [⟨39, 32, .ro, false, .any⟩, ⟨31, 24, .ro, false, .any⟩, ⟨2, 0, .ro, false, .any⟩]⟩,
  ⟨0x7804, 1, 0x1, 0x0, 0x0, [⟨71, 48, .ro, false, .any⟩, ⟨47, 24, .ro, false, .any⟩, ⟨23, 12, .ro, false, .any⟩, ⟨11, 0, .ro, false, .any⟩]⟩]
/-- The MAC block, base 0x7C00. -/
def rowsMAC : List RegRow := [
  ⟨0x7C00, 1, 0x1, 0xFFFF00E3, 0x7C20, [⟨31, 16, .rwt, true, .any⟩, ⟨7, 5, .rwt, false, .safe 0 4 7⟩, ⟨3, 3, .rwt, false, .any⟩, ⟨2, 2, .rwt, false, .any⟩, ⟨1, 1, .rwt, false, .any⟩, ⟨0, 0, .rwt, false, .any⟩]⟩,
  ⟨0x7C01, 1, 0x1, 0x384003C0E1007D0, 0x0, [⟨63, 48, .rwt, false, .clamp 60 65535⟩, ⟨47, 32, .rwt, false, .clamp 10 3600⟩, ⟨31, 16, .rwt, false, .clamp 60 65535⟩, ⟨15, 0, .rwt, false, .clamp 100 60000⟩]⟩,
  ⟨0x7C02, 1, 0x1, 0x800B4, 0x0, [⟨31, 24, .ro, false, .any⟩, ⟨23, 16, .rwt, false, .clamp 2 64⟩, ⟨15, 0, .rwt, false, .clamp 30 7200⟩]⟩,
  ⟨0x7C03, 1, 0x1, 0x264000007D0, 0x0, [⟨71, 48, .ro, false, .any⟩, ⟨43, 40, .rw, false, .clamp 0 6⟩, ⟨39, 32, .rw, false, .clamp 50 255⟩, ⟨23, 0, .rw, false, .clamp 200 40000⟩]⟩,
  ⟨0x7C04, 1, 0x1, 0x0, 0x0, [⟨63, 48, .ro, false, .any⟩, ⟨47, 32, .ro, false, .any⟩, ⟨31, 24, .ro, false, .any⟩, ⟨11, 11, .ro, false, .any⟩, ⟨10, 10, .ro, false, .any⟩, ⟨9, 9, .ro, false, .any⟩, ⟨8, 8, .ro, false, .any⟩, ⟨2, 0, .ro, false, .any⟩]⟩,
  ⟨0x7C05, 1, 0x1, 0xFFFFFFFF, 0x0, [⟨63, 32, .ro, false, .any⟩, ⟨31, 16, .ro, false, .any⟩, ⟨15, 0, .ro, false, .any⟩]⟩,
  ⟨0x7C06, 1, 0x1, 0x0, 0x0, [⟨39, 0, .ro, false, .any⟩]⟩,
  ⟨0x7C07, 1, 0x1, 0x0, 0x0, [⟨71, 32, .ro, false, .any⟩, ⟨23, 16, .ro, false, .any⟩, ⟨15, 8, .ro, false, .any⟩, ⟨7, 0, .ro, false, .any⟩]⟩,
  ⟨0x7C08, 1, 0x1, 0x0, 0x0, [⟨63, 32, .ro, false, .any⟩, ⟨31, 0, .ro, false, .any⟩]⟩,
  ⟨0x7C09, 1, 0x1, 0x0, 0x0, [⟨71, 32, .ro, false, .any⟩, ⟨31, 8, .ro, false, .any⟩, ⟨1, 1, .ro, false, .any⟩, ⟨0, 0, .ro, false, .any⟩]⟩,
  ⟨0x7C0A, 4, 0x1, 0x0, 0x0, [⟨31, 16, .ro, false, .any⟩, ⟨15, 8, .ro, false, .any⟩, ⟨0, 0, .ro, false, .any⟩]⟩,
  ⟨0x7C0E, 1, 0x1, 0x0, 0x0, [⟨7, 6, .rw, false, .any⟩, ⟨5, 0, .rw, false, .any⟩]⟩,
  ⟨0x7C0F, 1, 0x1, 0x0, 0x0, [⟨63, 48, .ro, false, .any⟩, ⟨47, 32, .ro, false, .any⟩, ⟨31, 16, .ro, false, .any⟩, ⟨5, 0, .ro, false, .any⟩]⟩,
  ⟨0x7C10, 6, 0x1, 0x0, 0x0, [⟨71, 0, .ro, false, .any⟩]⟩,
  ⟨0x7C16, 1, 0x1, 0x0, 0x0, [⟨6, 0, .ro, false, .any⟩]⟩,
  ⟨0x7C17, 1, 0x1, 0x0, 0x0, [⟨71, 56, .ro, false, .any⟩, ⟨55, 40, .ro, false, .any⟩, ⟨39, 24, .ro, false, .any⟩, ⟨23, 12, .ro, false, .any⟩, ⟨11, 0, .ro, false, .any⟩]⟩,
  ⟨0x7C18, 1, 0x1, 0xFFFFFFFFFFFFFFFFFF, 0x0, [⟨71, 0, .rwt, false, .any⟩]⟩,
  ⟨0x7C19, 1, 0x1, 0xFFFFFFFFFFFFFFFFFF, 0x0, [⟨71, 0, .rwt, false, .any⟩]⟩,
  ⟨0x7C1A, 1, 0x1, 0x0, 0x0, [⟨71, 60, .ro, false, .any⟩, ⟨59, 48, .ro, false, .any⟩, ⟨47, 36, .ro, false, .any⟩, ⟨35, 24, .ro, false, .any⟩, ⟨23, 12, .ro, false, .any⟩, ⟨11, 0, .ro, false, .any⟩]⟩,
  ⟨0x7C1B, 1, 0x1, 0x0, 0x0, [⟨8, 8, .w1c, false, .any⟩, ⟨7, 7, .w1c, false, .any⟩, ⟨6, 6, .w1c, false, .any⟩, ⟨5, 5, .w1c, false, .any⟩, ⟨4, 4, .w1c, false, .any⟩, ⟨3, 3, .w1c, false, .any⟩, ⟨2, 2, .w1c, false, .any⟩, ⟨1, 1, .w1c, false, .any⟩, ⟨0, 0, .w1c, false, .any⟩]⟩,
  ⟨0x7C1C, 1, 0x1, 0xFF, 0x0, [⟨7, 0, .rwt, false, .any⟩]⟩]
/-- The WUR block, base 0x8000. -/
def rowsWUR : List RegRow := [
  ⟨0x8000, 1, 0x1, 0xD3FCC00A2001, 0x0, [⟨47, 28, .rw, false, .any⟩, ⟨23, 16, .rw, false, .clamp 1 255⟩, ⟨15, 8, .rw, false, .clamp 8 255⟩, ⟨0, 0, .rw, false, .any⟩]⟩,
  ⟨0x8001, 1, 0x1, 0xFFFFFFFFFFFFFFFF, 0x0, [⟨63, 0, .rw, false, .any⟩]⟩,
  ⟨0x8002, 1, 0x1, 0x0, 0x0, [⟨63, 32, .ro, false, .any⟩, ⟨31, 24, .ro, false, .any⟩, ⟨23, 16, .ro, false, .any⟩, ⟨15, 8, .ro, false, .any⟩, ⟨0, 0, .w1c, false, .any⟩]⟩]
/-- The LBL block, base 0x8400. -/
def rowsLBL : List RegRow := [
  ⟨0x8400, 1, 0x1, 0xE1025860001, 0x0, [⟨47, 32, .rwt, false, .clamp 1 65535⟩, ⟨31, 20, .rwt, false, .clamp 0 3600⟩, ⟨19, 16, .rwt, false, .clamp 0 10⟩, ⟨5, 4, .rwt, false, .any⟩, ⟨1, 1, .rwt, false, .any⟩, ⟨0, 0, .rwt, false, .any⟩]⟩,
  ⟨0x8401, 1, 0x1, 0x0, 0x0, [⟨71, 40, .ro, false, .any⟩, ⟨39, 32, .ro, false, .any⟩, ⟨27, 24, .ro, false, .any⟩, ⟨23, 20, .ro, false, .any⟩, ⟨19, 16, .ro, false, .any⟩, ⟨7, 7, .ro, false, .any⟩, ⟨6, 6, .ro, false, .any⟩, ⟨5, 5, .ro, false, .any⟩, ⟨4, 4, .ro, false, .any⟩, ⟨3, 3, .ro, false, .any⟩, ⟨2, 2, .w1c, false, .any⟩, ⟨1, 1, .w1c, false, .any⟩]⟩,
  ⟨0x8402, 1, 0x1, 0x0, 0x0, [⟨63, 0, .ro, false, .any⟩]⟩,
  ⟨0x8403, 1, 0x1, 0x0, 0x0, [⟨63, 32, .ro, false, .any⟩, ⟨31, 0, .ro, false, .any⟩]⟩,
  ⟨0x8404, 1, 0x1, 0x0, 0x0, [⟨63, 32, .ro, false, .any⟩, ⟨31, 0, .ro, false, .any⟩]⟩,
  ⟨0x8405, 1, 0x1, 0x0, 0x0, [⟨31, 0, .ro, false, .any⟩]⟩,
  ⟨0x8406, 1, 0x1, 0x0, 0x0, [⟨0, 0, .rwt, false, .any⟩]⟩]
/-- The BIST block, base 0x8800. -/
def rowsBIST : List RegRow := [
  ⟨0x8800, 1, 0x1, 0x3FFFF, 0x0, [⟨17, 0, .rwt, false, .any⟩]⟩,
  ⟨0x8801, 1, 0x1, 0xE1000000306, 0x0, [⟨47, 32, .rwt, false, .clamp 60 65535⟩, ⟨11, 8, .rwt, false, .clamp 0 6⟩, ⟨3, 0, .rwt, false, .clamp 1 15⟩]⟩,
  ⟨0x8802, 1, 0x1, 0x0, 0x0, [⟨53, 36, .ro, false, .any⟩, ⟨35, 18, .ro, false, .any⟩, ⟨17, 0, .ro, false, .any⟩]⟩,
  ⟨0x8803, 1, 0x1, 0x0, 0x0, [⟨31, 16, .ro, false, .any⟩, ⟨12, 8, .ro, false, .any⟩, ⟨2, 0, .ro, false, .any⟩]⟩,
  ⟨0x8804, 1, 0x1, 0x0, 0x0, [⟨4, 0, .rw, false, .safe 18 31 0⟩]⟩,
  ⟨0x8805, 1, 0x1, 0x0, 0x0, [⟨71, 48, .ro, false, .any⟩, ⟨47, 32, .ro, false, .any⟩, ⟨31, 24, .ro, false, .any⟩, ⟨23, 16, .ro, false, .any⟩, ⟨15, 0, .ro, false, .any⟩]⟩,
  ⟨0x8806, 1, 0x1, 0x0, 0x0, [⟨5, 5, .w1c, false, .any⟩, ⟨4, 4, .w1c, false, .any⟩, ⟨3, 3, .w1c, false, .any⟩, ⟨2, 2, .w1c, false, .any⟩, ⟨1, 1, .w1c, false, .any⟩, ⟨0, 0, .w1c, false, .any⟩]⟩,
  ⟨0x8807, 1, 0x1, 0x0, 0x0, [⟨64, 64, .w1c, false, .any⟩, ⟨63, 48, .ro, false, .any⟩, ⟨47, 32, .ro, false, .any⟩, ⟨31, 16, .ro, false, .any⟩, ⟨15, 0, .ro, false, .any⟩]⟩,
  ⟨0x8808, 1, 0x1, 0x0, 0x0, [⟨12, 8, .rwt, false, .safe 18 31 0⟩, ⟨0, 0, .rwt, false, .any⟩]⟩]
/-- The DBG block, base 0x8C00. -/
def rowsDBG : List RegRow := [
  ⟨0x8C00, 1, 0x1, 0x0, 0x0, [⟨8, 8, .rw, false, .any⟩, ⟨5, 5, .wo, false, .any⟩, ⟨4, 4, .wo, false, .any⟩, ⟨1, 1, .rw, false, .any⟩, ⟨0, 0, .rw, false, .any⟩]⟩,
  ⟨0x8C01, 1, 0x1, 0x0, 0x0, [⟨8, 8, .ro, false, .any⟩, ⟨6, 4, .ro, false, .any⟩, ⟨2, 0, .ro, false, .any⟩]⟩,
  ⟨0x8C02, 1, 0x1, 0x0, 0x0, [⟨8, 8, .rw, false, .any⟩, ⟨4, 0, .rw, false, .safe 22 31 0⟩]⟩,
  ⟨0x8C03, 1, 0x1, 0x0, 0x0, [⟨71, 0, .rw, false, .any⟩]⟩,
  ⟨0x8C04, 1, 0x1, 0x0, 0x0, [⟨6, 6, .rw, false, .any⟩, ⟨5, 5, .rw, false, .any⟩, ⟨4, 4, .rw, false, .any⟩, ⟨3, 3, .rw, false, .any⟩, ⟨2, 2, .rw, false, .any⟩, ⟨1, 1, .rw, false, .any⟩, ⟨0, 0, .rw, false, .any⟩]⟩,
  ⟨0x8C05, 1, 0x1, 0x0, 0x0, [⟨32, 32, .w1c, false, .any⟩, ⟨31, 24, .ro, false, .any⟩, ⟨19, 10, .ro, false, .any⟩, ⟨9, 0, .ro, false, .any⟩]⟩]
/-- The COLLAR block, base 0x9000. -/
def rowsCOLLAR : List RegRow := [
  ⟨0x9000, 1, 0x1, 0x0, 0x0, [⟨63, 48, .ro, false, .any⟩, ⟨47, 32, .ro, false, .any⟩, ⟨31, 0, .ro, false, .any⟩]⟩,
  ⟨0x9001, 1, 0x1, 0x0, 0x0, [⟨16, 16, .rw, false, .any⟩, ⟨15, 8, .rw, false, .any⟩, ⟨7, 0, .rw, false, .any⟩]⟩,
  ⟨0x9002, 6, 0x1, 0x0, 0x0, [⟨71, 0, .rw, false, .any⟩]⟩,
  ⟨0x9008, 4, 0x1, 0x0, 0x0, [⟨71, 0, .ro, false, .any⟩]⟩,
  ⟨0x900C, 1, 0x1, 0x0, 0x0, [⟨17, 17, .ro, false, .any⟩, ⟨16, 16, .w1c, false, .any⟩, ⟨15, 8, .ro, false, .any⟩, ⟨7, 0, .ro, false, .any⟩]⟩,
  ⟨0x9010, 1, 0x1, 0x0, 0x0, [⟨71, 40, .ro, false, .any⟩, ⟨32, 32, .ro, false, .any⟩, ⟨31, 0, .ro, false, .any⟩]⟩,
  ⟨0x9011, 1, 0x1, 0x0, 0x0, [⟨47, 0, .ro, false, .any⟩]⟩,
  ⟨0x9012, 3, 0x1, 0x0, 0x0, [⟨71, 0, .ro, false, .any⟩]⟩,
  ⟨0x9015, 1, 0x1, 0x0, 0x0, [⟨71, 64, .ro, false, .any⟩, ⟨63, 48, .ro, false, .any⟩, ⟨47, 0, .ro, false, .any⟩]⟩,
  ⟨0x9016, 1, 0x1, 0x0, 0x0, [⟨39, 8, .ro, false, .any⟩, ⟨7, 7, .ro, false, .any⟩, ⟨6, 6, .ro, false, .any⟩, ⟨5, 5, .ro, false, .any⟩, ⟨4, 4, .ro, false, .any⟩, ⟨3, 3, .ro, false, .any⟩, ⟨1, 1, .ro, false, .any⟩, ⟨0, 0, .ro, false, .any⟩]⟩,
  ⟨0x9017, 1, 0x1, 0xA, 0x0, [⟨31, 0, .ro, false, .any⟩]⟩,
  ⟨0x9018, 1, 0x1, 0x0, 0x0, [⟨15, 8, .ro, false, .any⟩, ⟨7, 0, .ro, false, .any⟩]⟩]

/-- The rows of the register block with the given block index (R539). -/
def regRows (blk : Nat) : List RegRow :=
  match blk with
  | 0 => rowsSYS
  | 1 => rowsPWR
  | 2 => rowsCLK
  | 3 => rowsTIDE
  | 4 => rowsTMR
  | 5 => rowsEVT
  | 6 => rowsSEAM
  | 7 => rowsTDC
  | 8 => rowsUSF
  | 9 => rowsADC
  | 10 => rowsMET
  | 11 => rowsPLS
  | 12 => rowsLOOP
  | 13 => rowsHOST
  | 14 => rowsRADIO
  | 15 => rowsMAC
  | 16 => rowsWUR
  | 17 => rowsLBL
  | 18 => rowsBIST
  | 19 => rowsDBG
  | 20 => rowsCOLLAR
  | _ => []

/-- The row `r` holds address `a`. -/
def RegRow.holds (r : RegRow) (a : Nat) : Bool :=
  r.base ≤ a && (a - r.base) % r.stride == 0 && (a - r.base) / r.stride < r.count

/-- The row `r` has `a` as a shadow address (R540). -/
def RegRow.shadows (r : RegRow) (a : Nat) : Bool :=
  r.shadow != 0 && r.shadow ≤ a && (a - r.shadow) % r.stride == 0 && (a - r.shadow) / r.stride < r.count

/-- The block index of a register-space address (R539). -/
def blockIndex (a : Nat) : Nat := (a - 0x4000) / 0x400

/-- The register row at address `a`, where R541 lists one. -/
def rowAt (a : Nat) : Option RegRow :=
  if a < 0x4000 then none else (regRows (blockIndex a)).find? (fun r => r.holds a)

/-- The register whose shadow address is `a` (R540). -/
def shadowOf (a : Nat) : Option Nat :=
  if a < 0x4000 then none
  else match (regRows (blockIndex a)).find? (fun r => r.shadows a) with
    | some r => some (r.base + (a - r.shadow))
    | none => none

/-- The reset word of the register at `a`; 0 where R541 lists none (R12). SEAM_REC carries its block
number, SYS_ID the silicon revision (R34) and RADIO_EUI the factory EUI-64 (R541). -/
def resetWord (a : Nat) : Word :=
  match rowAt a with
  | some r =>
    if a = 0x4000 then BitVec.ofNat 72 (r.reset + Config.siliconRevision.toNat)
    else if a = 0x6A15 then BitVec.ofNat 72 (0xD0200 * 2 ^ 52 + 0xF0000 * 2 ^ 32)
    else if a = 0x7800 then (Config.eui64).setWidth 72
    else if r.base = 0x5800 then BitVec.ofNat 72 (r.reset + (a - 0x5800) * 2 ^ 24) else BitVec.ofNat 72 r.reset
  | none => 0

end Sys2Proof.Machine
end

