-- ==== Sys2Proof/Machine/Fields.lean ====
section
/-!
DEFINITION. The names of the registers and of their fields, as the spec's chapters give them: `F.SYS_MODE_SEAL` is
SYS_MODE.SEAL, `F.TMR_CFG_EN n` is TMRn_CFG.EN.
-/
namespace Sys2Proof.Machine.F

/-- SYS_ID, spec/01_organisation.md. -/
abbrev SYS_ID : Nat := 0x4000
abbrev SYS_ID_PART : Fld := ⟨SYS_ID, 39, 24⟩
abbrev SYS_ID_FAMILY : Fld := ⟨SYS_ID, 23, 16⟩
abbrev SYS_ID_MAJOR : Fld := ⟨SYS_ID, 15, 8⟩
abbrev SYS_ID_MINOR : Fld := ⟨SYS_ID, 7, 0⟩
/-- SYS_ARB, spec/01_organisation.md. -/
abbrev SYS_ARB : Nat := 0x4008
abbrev SYS_ARB_FIELD_ADDR : Fld := ⟨SYS_ARB, 35, 16⟩
abbrev SYS_ARB_WINNER : Fld := ⟨SYS_ARB, 15, 12⟩
abbrev SYS_ARB_LOSER : Fld := ⟨SYS_ARB, 11, 8⟩
abbrev SYS_ARB_COUNT : Fld := ⟨SYS_ARB, 7, 1⟩
abbrev SYS_ARB_CONFLICT : Fld := ⟨SYS_ARB, 0, 0⟩
/-- SYS_MODE, spec/02_power_and_modes.md. -/
abbrev SYS_MODE : Nat := 0x4004
abbrev SYS_MODE_CAUSE : Fld := ⟨SYS_MODE, 35, 28⟩
abbrev SYS_MODE_PREV : Fld := ⟨SYS_MODE, 27, 24⟩
abbrev SYS_MODE_TRANS : Fld := ⟨SYS_MODE, 23, 16⟩
abbrev SYS_MODE_SEAL : Fld := ⟨SYS_MODE, 15, 15⟩
abbrev SYS_MODE_STAGE : Fld := ⟨SYS_MODE, 14, 12⟩
abbrev SYS_MODE_BASE : Fld := ⟨SYS_MODE, 10, 8⟩
abbrev SYS_MODE_FALLBACK : Fld := ⟨SYS_MODE, 7, 7⟩
abbrev SYS_MODE_MODE : Fld := ⟨SYS_MODE, 2, 0⟩
/-- PWR_CFG, spec/02_power_and_modes.md. -/
abbrev PWR_CFG : Nat := 0x4400
abbrev PWR_CFG_POOLC : Fld := ⟨PWR_CFG, 12, 8⟩
abbrev PWR_CFG_BACKUP : Fld := ⟨PWR_CFG, 4, 4⟩
abbrev PWR_CFG_INST : Fld := ⟨PWR_CFG, 0, 0⟩
/-- PWR_STAT, spec/02_power_and_modes.md. -/
abbrev PWR_STAT : Nat := 0x4401
abbrev PWR_STAT_SLACK : Fld := ⟨PWR_STAT, 7, 7⟩
abbrev PWR_STAT_SRC : Fld := ⟨PWR_STAT, 6, 5⟩
abbrev PWR_STAT_CHG : Fld := ⟨PWR_STAT, 4, 4⟩
abbrev PWR_STAT_CELL_OK : Fld := ⟨PWR_STAT, 3, 3⟩
abbrev PWR_STAT_POOL_OK : Fld := ⟨PWR_STAT, 2, 2⟩
abbrev PWR_STAT_SHOT_OK : Fld := ⟨PWR_STAT, 1, 1⟩
abbrev PWR_STAT_VIN_OK : Fld := ⟨PWR_STAT, 0, 0⟩
/-- PWR_MEAS, spec/02_power_and_modes.md. -/
abbrev PWR_MEAS : Nat := 0x4402
abbrev PWR_MEAS_TXMIN_E : Fld := ⟨PWR_MEAS, 47, 42⟩
abbrev PWR_MEAS_ALMIN_E : Fld := ⟨PWR_MEAS, 41, 36⟩
abbrev PWR_MEAS_VLOOPP : Fld := ⟨PWR_MEAS, 35, 24⟩
abbrev PWR_MEAS_VPOOL : Fld := ⟨PWR_MEAS, 23, 12⟩
abbrev PWR_MEAS_VCELL : Fld := ⟨PWR_MEAS, 11, 0⟩
/-- PWR_HARV, spec/02_power_and_modes.md. -/
abbrev PWR_HARV : Nat := 0x4403
abbrev PWR_HARV_NEED : Fld := ⟨PWR_HARV, 39, 20⟩
abbrev PWR_HARV_SURPLUS : Fld := ⟨PWR_HARV, 19, 0⟩
/-- PWR_POOL, spec/02_power_and_modes.md. -/
abbrev PWR_POOL : Nat := 0x4404
abbrev PWR_POOL_TOP : Fld := ⟨PWR_POOL, 35, 30⟩
abbrev PWR_POOL_TXMIN : Fld := ⟨PWR_POOL, 29, 24⟩
abbrev PWR_POOL_ALMIN : Fld := ⟨PWR_POOL, 23, 18⟩
abbrev PWR_POOL_LOW : Fld := ⟨PWR_POOL, 17, 12⟩
abbrev PWR_POOL_RESUME : Fld := ⟨PWR_POOL, 11, 6⟩
abbrev PWR_POOL_CELLCHG : Fld := ⟨PWR_POOL, 5, 4⟩
/-- PWR_CELL, spec/02_power_and_modes.md. -/
abbrev PWR_CELL : Nat := 0x4405
abbrev PWR_CELL_DEAD : Fld := ⟨PWR_CELL, 23, 18⟩
abbrev PWR_CELL_LOW : Fld := ⟨PWR_CELL, 17, 12⟩
abbrev PWR_CELL_LOCK : Fld := ⟨PWR_CELL, 1, 1⟩
abbrev PWR_CELL_CHEM : Fld := ⟨PWR_CELL, 0, 0⟩
/-- PWR_CHG, spec/02_power_and_modes.md. -/
abbrev PWR_CHG : Nat := 0x4406
abbrev PWR_CHG_TMAX : Fld := ⟨PWR_CHG, 19, 12⟩
abbrev PWR_CHG_VEND : Fld := ⟨PWR_CHG, 11, 6⟩
abbrev PWR_CHG_ISEL : Fld := ⟨PWR_CHG, 5, 4⟩
abbrev PWR_CHG_EN : Fld := ⟨PWR_CHG, 0, 0⟩
/-- PWR_EVT, spec/02_power_and_modes.md. -/
abbrev PWR_EVT : Nat := 0x4407
abbrev PWR_EVT_LOCK_HIT : Fld := ⟨PWR_EVT, 7, 7⟩
abbrev PWR_EVT_CHG_DONE : Fld := ⟨PWR_EVT, 6, 6⟩
abbrev PWR_EVT_CELL_DEAD : Fld := ⟨PWR_EVT, 5, 5⟩
abbrev PWR_EVT_CELL_LOW : Fld := ⟨PWR_EVT, 4, 4⟩
abbrev PWR_EVT_FLOOR : Fld := ⟨PWR_EVT, 3, 3⟩
abbrev PWR_EVT_POOL_LOW : Fld := ⟨PWR_EVT, 2, 2⟩
abbrev PWR_EVT_VIN_BACK : Fld := ⟨PWR_EVT, 1, 1⟩
abbrev PWR_EVT_VIN_LOST : Fld := ⟨PWR_EVT, 0, 0⟩
/-- PWR_NEED, spec/02_power_and_modes.md. -/
abbrev PWR_NEED : Nat := 0x4408
abbrev PWR_NEED_SET : Fld := ⟨PWR_NEED, 19, 0⟩
/-- SYS_RST, spec/03_start_and_shutdown.md. -/
abbrev SYS_RST : Nat := 0x400C
abbrev SYS_RST_LAST : Fld := ⟨SYS_RST, 11, 8⟩
abbrev SYS_RST_RESTART : Fld := ⟨SYS_RST, 5, 5⟩
abbrev SYS_RST_WDOG : Fld := ⟨SYS_RST, 4, 4⟩
abbrev SYS_RST_NRST : Fld := ⟨SYS_RST, 3, 3⟩
abbrev SYS_RST_BOR : Fld := ⟨SYS_RST, 2, 2⟩
abbrev SYS_RST_POR_CELL : Fld := ⟨SYS_RST, 1, 1⟩
abbrev SYS_RST_POR_LOOP : Fld := ⟨SYS_RST, 0, 0⟩
/-- SYS_START, spec/03_start_and_shutdown.md. -/
abbrev SYS_START : Nat := 0x4010
abbrev SYS_START_CKPT : Fld := ⟨SYS_START, 39, 36⟩
abbrev SYS_START_QSR : Fld := ⟨SYS_START, 35, 32⟩
abbrev SYS_START_PROV : Fld := ⟨SYS_START, 31, 31⟩
abbrev SYS_START_ABRUPT : Fld := ⟨SYS_START, 30, 30⟩
abbrev SYS_START_TIDE_COLD : Fld := ⟨SYS_START, 29, 29⟩
abbrev SYS_START_FIRST : Fld := ⟨SYS_START, 28, 28⟩
abbrev SYS_START_BIST_SKIP : Fld := ⟨SYS_START, 27, 27⟩
abbrev SYS_START_T3 : Fld := ⟨SYS_START, 23, 12⟩
abbrev SYS_START_T2 : Fld := ⟨SYS_START, 11, 0⟩
/-- SYS_FUSE, spec/03_start_and_shutdown.md. -/
abbrev SYS_FUSE : Nat := 0x4014
abbrev SYS_FUSE_LOCKED : Fld := ⟨SYS_FUSE, 7, 7⟩
abbrev SYS_FUSE_SAFE_I : Fld := ⟨SYS_FUSE, 1, 0⟩
/-- CLK_PLL, spec/04_clock_and_tideline.md. -/
abbrev CLK_PLL : Nat := 0x4800
abbrev CLK_PLL_HFKEEP : Fld := ⟨CLK_PLL, 15, 15⟩
abbrev CLK_PLL_LDCNT : Fld := ⟨CLK_PLL, 11, 8⟩
abbrev CLK_PLL_LDTOL : Fld := ⟨CLK_PLL, 7, 4⟩
abbrev CLK_PLL_BW : Fld := ⟨CLK_PLL, 1, 0⟩
/-- CLK_STAT, spec/04_clock_and_tideline.md. -/
abbrev CLK_STAT : Nat := 0x4801
abbrev CLK_STAT_HFUP : Fld := ⟨CLK_STAT, 23, 16⟩
abbrev CLK_STAT_FENCE_N : Fld := ⟨CLK_STAT, 15, 12⟩
abbrev CLK_STAT_PLL_FAIL : Fld := ⟨CLK_STAT, 11, 11⟩
abbrev CLK_STAT_LF_SUB : Fld := ⟨CLK_STAT, 10, 10⟩
abbrev CLK_STAT_XREF_OK : Fld := ⟨CLK_STAT, 9, 9⟩
abbrev CLK_STAT_SPR_HELD : Fld := ⟨CLK_STAT, 8, 8⟩
abbrev CLK_STAT_SLACK : Fld := ⟨CLK_STAT, 7, 7⟩
abbrev CLK_STAT_LOCK : Fld := ⟨CLK_STAT, 6, 6⟩
abbrev CLK_STAT_RELOCK : Fld := ⟨CLK_STAT, 5, 5⟩
abbrev CLK_STAT_HF_OK : Fld := ⟨CLK_STAT, 4, 4⟩
abbrev CLK_STAT_LF_OK : Fld := ⟨CLK_STAT, 3, 3⟩
abbrev CLK_STAT_SRC : Fld := ⟨CLK_STAT, 1, 0⟩
/-- CLK_SPREAD, spec/04_clock_and_tideline.md. -/
abbrev CLK_SPREAD : Nat := 0x4802
abbrev CLK_SPREAD_DEPTH : Fld := ⟨CLK_SPREAD, 3, 0⟩
/-- CLK_MEAN, spec/04_clock_and_tideline.md. -/
abbrev CLK_MEAN : Nat := 0x4803
abbrev CLK_MEAN_FREQ : Fld := ⟨CLK_MEAN, 31, 0⟩
/-- CLK_SLACK, spec/04_clock_and_tideline.md. -/
abbrev CLK_SLACK : Nat := 0x4804
abbrev CLK_SLACK_GAP : Fld := ⟨CLK_SLACK, 19, 12⟩
abbrev CLK_SLACK_SETTLE : Fld := ⟨CLK_SLACK, 7, 4⟩
/-- CLK_SLKCMD, spec/04_clock_and_tideline.md. -/
abbrev CLK_SLKCMD : Nat := 0x4805
abbrev CLK_SLKCMD_CLOSE : Fld := ⟨CLK_SLKCMD, 13, 13⟩
abbrev CLK_SLKCMD_OPEN : Fld := ⟨CLK_SLKCMD, 12, 12⟩
abbrev CLK_SLKCMD_LEN : Fld := ⟨CLK_SLKCMD, 11, 0⟩
/-- CLK_SLKSTAT, spec/04_clock_and_tideline.md. -/
abbrev CLK_SLKSTAT : Nat := 0x4806
abbrev CLK_SLKSTAT_COUNT : Fld := ⟨CLK_SLKSTAT, 35, 20⟩
abbrev CLK_SLKSTAT_LAST : Fld := ⟨CLK_SLKSTAT, 19, 8⟩
abbrev CLK_SLKSTAT_DIST : Fld := ⟨CLK_SLKSTAT, 4, 4⟩
abbrev CLK_SLKSTAT_CUT : Fld := ⟨CLK_SLKSTAT, 3, 3⟩
abbrev CLK_SLKSTAT_DEFER : Fld := ⟨CLK_SLKSTAT, 2, 2⟩
abbrev CLK_SLKSTAT_OPENER : Fld := ⟨CLK_SLKSTAT, 1, 1⟩
abbrev CLK_SLKSTAT_OPEN : Fld := ⟨CLK_SLKSTAT, 0, 0⟩
/-- CLK_XREF, spec/04_clock_and_tideline.md. -/
abbrev CLK_XREF : Nat := 0x4807
abbrev CLK_XREF_FNOM : Fld := ⟨CLK_XREF, 35, 20⟩
abbrev CLK_XREF_GATE : Fld := ⟨CLK_XREF, 19, 16⟩
abbrev CLK_XREF_EN : Fld := ⟨CLK_XREF, 0, 0⟩
/-- CLK_XERR, spec/04_clock_and_tideline.md. -/
abbrev CLK_XERR : Nat := 0x4808
abbrev CLK_XERR_LFV : Fld := ⟨CLK_XERR, 49, 49⟩
abbrev CLK_XERR_HFV : Fld := ⟨CLK_XERR, 48, 48⟩
abbrev CLK_XERR_LFERR : Fld := ⟨CLK_XERR, 47, 24⟩
abbrev CLK_XERR_HFERR : Fld := ⟨CLK_XERR, 23, 0⟩
/-- CLK_HFCOR, spec/04_clock_and_tideline.md. -/
abbrev CLK_HFCOR : Nat := 0x4809
abbrev CLK_HFCOR_TRIM : Fld := ⟨CLK_HFCOR, 47, 24⟩
abbrev CLK_HFCOR_AGE : Fld := ⟨CLK_HFCOR, 23, 0⟩
/-- CLK_HFERR, spec/04_clock_and_tideline.md. -/
abbrev CLK_HFERR : Nat := 0x480A
abbrev CLK_HFERR_SRC : Fld := ⟨CLK_HFERR, 24, 24⟩
abbrev CLK_HFERR_ERR : Fld := ⟨CLK_HFERR, 23, 0⟩
/-- CLK_EVT, spec/04_clock_and_tideline.md. -/
abbrev CLK_EVT : Nat := 0x480B
abbrev CLK_EVT_LF_LOST : Fld := ⟨CLK_EVT, 5, 5⟩
abbrev CLK_EVT_PLL_FAILED : Fld := ⟨CLK_EVT, 4, 4⟩
abbrev CLK_EVT_FENCE : Fld := ⟨CLK_EVT, 3, 3⟩
abbrev CLK_EVT_XREF_LOST : Fld := ⟨CLK_EVT, 2, 2⟩
abbrev CLK_EVT_XREF_UP : Fld := ⟨CLK_EVT, 1, 1⟩
abbrev CLK_EVT_LOCKED : Fld := ⟨CLK_EVT, 0, 0⟩
/-- TIDE_TICKS, spec/04_clock_and_tideline.md. -/
abbrev TIDE_TICKS : Nat := 0x4C00
abbrev TIDE_TICKS_TICKS : Fld := ⟨TIDE_TICKS, 47, 0⟩
/-- TIDE_SEC, spec/04_clock_and_tideline.md. -/
abbrev TIDE_SEC : Nat := 0x4C01
abbrev TIDE_SEC_SEC : Fld := ⟨TIDE_SEC, 71, 24⟩
abbrev TIDE_SEC_FRAC : Fld := ⟨TIDE_SEC, 23, 0⟩
/-- TIDE_CIVOFS, spec/04_clock_and_tideline.md. -/
abbrev TIDE_CIVOFS : Nat := 0x4C02
abbrev TIDE_CIVOFS_CIVOFS : Fld := ⟨TIDE_CIVOFS, 71, 0⟩
/-- TIDE_WDAY, spec/04_clock_and_tideline.md. -/
abbrev TIDE_WDAY : Nat := 0x4C03
abbrev TIDE_WDAY_PHASE : Fld := ⟨TIDE_WDAY, 36, 20⟩
abbrev TIDE_WDAY_WDAY : Fld := ⟨TIDE_WDAY, 2, 0⟩
/-- TIDE_TRIM, spec/04_clock_and_tideline.md. -/
abbrev TIDE_TRIM : Nat := 0x4C04
abbrev TIDE_TRIM_TRIM : Fld := ⟨TIDE_TRIM, 71, 0⟩
/-- TIDE_AGE, spec/04_clock_and_tideline.md. -/
abbrev TIDE_AGE : Nat := 0x4C05
abbrev TIDE_AGE_AGE : Fld := ⟨TIDE_AGE, 71, 0⟩
/-- TIDE_AGE0, spec/04_clock_and_tideline.md. -/
abbrev TIDE_AGE0 : Nat := 0x4C06
abbrev TIDE_AGE0_EPOCH : Fld := ⟨TIDE_AGE0, 47, 0⟩
/-- TIDE_CTL, spec/04_clock_and_tideline.md. -/
abbrev TIDE_CTL : Nat := 0x4C07
abbrev TIDE_CTL_RELSRC : Fld := ⟨TIDE_CTL, 20, 20⟩
abbrev TIDE_CTL_RELPIN : Fld := ⟨TIDE_CTL, 19, 16⟩
abbrev TIDE_CTL_DEAD : Fld := ⟨TIDE_CTL, 15, 8⟩
abbrev TIDE_CTL_STOPPED : Fld := ⟨TIDE_CTL, 4, 4⟩
abbrev TIDE_CTL_HALT_TO : Fld := ⟨TIDE_CTL, 3, 3⟩
abbrev TIDE_CTL_HALTED : Fld := ⟨TIDE_CTL, 1, 1⟩
abbrev TIDE_CTL_HALT : Fld := ⟨TIDE_CTL, 0, 0⟩
/-- TIDE_ECORR, spec/04_clock_and_tideline.md. -/
abbrev TIDE_ECORR : Nat := 0x4C08
abbrev TIDE_ECORR_SRC : Fld := ⟨TIDE_ECORR, 24, 24⟩
abbrev TIDE_ECORR_E : Fld := ⟨TIDE_ECORR, 23, 0⟩
/-- TMR_CFG, spec/05_timers.md. -/
abbrev TMR_CFG (n : Nat) : Nat := 0x5000 + 0x20 * n
abbrev TMR_CFG_CAPE (n : Nat) : Fld := ⟨TMR_CFG n, 19, 19⟩
abbrev TMR_CFG_OVFE (n : Nat) : Fld := ⟨TMR_CFG n, 18, 18⟩
abbrev TMR_CFG_M1E (n : Nat) : Fld := ⟨TMR_CFG n, 17, 17⟩
abbrev TMR_CFG_M0E (n : Nat) : Fld := ⟨TMR_CFG n, 16, 16⟩
abbrev TMR_CFG_EDGE (n : Nat) : Fld := ⟨TMR_CFG n, 13, 12⟩
abbrev TMR_CFG_TPSEL (n : Nat) : Fld := ⟨TMR_CFG n, 11, 8⟩
abbrev TMR_CFG_FUNIT (n : Nat) : Fld := ⟨TMR_CFG n, 4, 4⟩
abbrev TMR_CFG_SRC (n : Nat) : Fld := ⟨TMR_CFG n, 3, 2⟩
abbrev TMR_CFG_DBGH (n : Nat) : Fld := ⟨TMR_CFG n, 1, 1⟩
abbrev TMR_CFG_EN (n : Nat) : Fld := ⟨TMR_CFG n, 0, 0⟩
/-- TMR_CMD, spec/05_timers.md. -/
abbrev TMR_CMD (n : Nat) : Nat := 0x5001 + 0x20 * n
abbrev TMR_CMD_RESET (n : Nat) : Fld := ⟨TMR_CMD n, 2, 2⟩
abbrev TMR_CMD_STOP (n : Nat) : Fld := ⟨TMR_CMD n, 1, 1⟩
abbrev TMR_CMD_START (n : Nat) : Fld := ⟨TMR_CMD n, 0, 0⟩
/-- TMR_CNT, spec/05_timers.md. -/
abbrev TMR_CNT (n : Nat) : Nat := 0x5002 + 0x20 * n
abbrev TMR_CNT_FRAC (n : Nat) : Fld := ⟨TMR_CNT n, 71, 48⟩
abbrev TMR_CNT_CNTH (n : Nat) : Fld := ⟨TMR_CNT n, 47, 32⟩
abbrev TMR_CNT_CNT (n : Nat) : Fld := ⟨TMR_CNT n, 31, 0⟩
/-- TMR_DIV, spec/05_timers.md. -/
abbrev TMR_DIV (n : Nat) : Nat := 0x5003 + 0x20 * n
abbrev TMR_DIV_DIV (n : Nat) : Fld := ⟨TMR_DIV n, 31, 0⟩
abbrev TMR_DIV_PS (n : Nat) : Fld := ⟨TMR_DIV n, 3, 0⟩
/-- TMR_CMP0, spec/05_timers.md. -/
abbrev TMR_CMP0 (n : Nat) : Nat := 0x5004 + 0x20 * n
abbrev TMR_CMP0_CMP (n : Nat) : Fld := ⟨TMR_CMP0 n, 47, 0⟩
/-- TMR_CMP1, spec/05_timers.md. -/
abbrev TMR_CMP1 (n : Nat) : Nat := 0x5005 + 0x20 * n
abbrev TMR_CMP1_CMP (n : Nat) : Fld := ⟨TMR_CMP1 n, 47, 0⟩
/-- TMR_ACT, spec/05_timers.md. -/
abbrev TMR_ACT (n : Nat) : Nat := 0x5006 + 0x20 * n
abbrev TMR_ACT_LINK (n : Nat) : Fld := ⟨TMR_ACT n, 19, 16⟩
abbrev TMR_ACT_OVL (n : Nat) : Fld := ⟨TMR_ACT n, 11, 10⟩
abbrev TMR_ACT_OVS (n : Nat) : Fld := ⟨TMR_ACT n, 9, 8⟩
abbrev TMR_ACT_M1L (n : Nat) : Fld := ⟨TMR_ACT n, 7, 6⟩
abbrev TMR_ACT_M1S (n : Nat) : Fld := ⟨TMR_ACT n, 5, 4⟩
abbrev TMR_ACT_M0L (n : Nat) : Fld := ⟨TMR_ACT n, 3, 2⟩
abbrev TMR_ACT_M0S (n : Nat) : Fld := ⟨TMR_ACT n, 1, 0⟩
/-- TMR_CAPSEL, spec/05_timers.md. -/
abbrev TMR_CAPSEL (n : Nat) : Nat := 0x5007 + 0x20 * n
abbrev TMR_CAPSEL_EDGEB (n : Nat) : Fld := ⟨TMR_CAPSEL n, 19, 18⟩
abbrev TMR_CAPSEL_EDGEA (n : Nat) : Fld := ⟨TMR_CAPSEL n, 17, 16⟩
abbrev TMR_CAPSEL_CAPB (n : Nat) : Fld := ⟨TMR_CAPSEL n, 14, 8⟩
abbrev TMR_CAPSEL_CAPA (n : Nat) : Fld := ⟨TMR_CAPSEL n, 6, 0⟩
/-- TMR_CAP, spec/05_timers.md. -/
abbrev TMR_CAP (n : Nat) : Nat := 0x5008 + 0x20 * n
abbrev TMR_CAP_VALID (n : Nat) : Fld := ⟨TMR_CAP n, 60, 60⟩
abbrev TMR_CAP_TAG (n : Nat) : Fld := ⟨TMR_CAP n, 59, 56⟩
abbrev TMR_CAP_SEQ (n : Nat) : Fld := ⟨TMR_CAP n, 55, 48⟩
abbrev TMR_CAP_COUNT (n : Nat) : Fld := ⟨TMR_CAP n, 47, 0⟩
/-- TMR_CAPCTL, spec/05_timers.md. -/
abbrev TMR_CAPCTL (n : Nat) : Nat := 0x5009 + 0x20 * n
abbrev TMR_CAPCTL_POP (n : Nat) : Fld := ⟨TMR_CAPCTL n, 8, 8⟩
abbrev TMR_CAPCTL_POPSEQ (n : Nat) : Fld := ⟨TMR_CAPCTL n, 7, 0⟩
/-- TMR_STAT, spec/05_timers.md. -/
abbrev TMR_STAT (n : Nat) : Nat := 0x500A + 0x20 * n
abbrev TMR_STAT_MUWRAP (n : Nat) : Fld := ⟨TMR_STAT n, 31, 24⟩
abbrev TMR_STAT_LOST (n : Nat) : Fld := ⟨TMR_STAT n, 23, 16⟩
abbrev TMR_STAT_LINKLATE (n : Nat) : Fld := ⟨TMR_STAT n, 12, 12⟩
abbrev TMR_STAT_LINKIGN (n : Nat) : Fld := ⟨TMR_STAT n, 11, 11⟩
abbrev TMR_STAT_SUBST (n : Nat) : Fld := ⟨TMR_STAT n, 10, 10⟩
abbrev TMR_STAT_MU (n : Nat) : Fld := ⟨TMR_STAT n, 9, 9⟩
abbrev TMR_STAT_OVR (n : Nat) : Fld := ⟨TMR_STAT n, 8, 8⟩
abbrev TMR_STAT_QN (n : Nat) : Fld := ⟨TMR_STAT n, 7, 5⟩
abbrev TMR_STAT_CAPV (n : Nat) : Fld := ⟨TMR_STAT n, 4, 4⟩
abbrev TMR_STAT_OVF (n : Nat) : Fld := ⟨TMR_STAT n, 3, 3⟩
abbrev TMR_STAT_M1 (n : Nat) : Fld := ⟨TMR_STAT n, 2, 2⟩
abbrev TMR_STAT_M0 (n : Nat) : Fld := ⟨TMR_STAT n, 1, 1⟩
abbrev TMR_STAT_RUN (n : Nat) : Fld := ⟨TMR_STAT n, 0, 0⟩
/-- TMR_SEQ, spec/05_timers.md. -/
abbrev TMR_SEQ (n : Nat) : Nat := 0x5200 + n
abbrev TMR_SEQ_EN (n : Nat) : Fld := ⟨TMR_SEQ n, 32, 32⟩
abbrev TMR_SEQ_LEN (n : Nat) : Fld := ⟨TMR_SEQ n, 31, 20⟩
abbrev TMR_SEQ_OFFS (n : Nat) : Fld := ⟨TMR_SEQ n, 19, 0⟩
/-- TMR_SEQSTAT, spec/05_timers.md. -/
abbrev TMR_SEQSTAT : Nat := 0x5208
abbrev TMR_SEQSTAT_SKIPN : Fld := ⟨TMR_SEQSTAT, 15, 8⟩
abbrev TMR_SEQSTAT_SKIP : Fld := ⟨TMR_SEQSTAT, 4, 4⟩
abbrev TMR_SEQSTAT_NEXT : Fld := ⟨TMR_SEQSTAT, 3, 0⟩
/-- SYS_RGNL, spec/06_programming_model.md. -/
abbrev SYS_RGNL (n : Nat) : Nat := 0x4020 + n
abbrev SYS_RGNL_EN (n : Nat) : Fld := ⟨SYS_RGNL n, 35, 35⟩
abbrev SYS_RGNL_W (n : Nat) : Fld := ⟨SYS_RGNL n, 34, 34⟩
abbrev SYS_RGNL_R (n : Nat) : Fld := ⟨SYS_RGNL n, 33, 33⟩
abbrev SYS_RGNL_LAST (n : Nat) : Fld := ⟨SYS_RGNL n, 29, 20⟩
abbrev SYS_RGNL_FIRST (n : Nat) : Fld := ⟨SYS_RGNL n, 9, 0⟩
/-- SYS_RGNR, spec/06_programming_model.md. -/
abbrev SYS_RGNR (n : Nat) : Nat := 0x4028 + n
abbrev SYS_RGNR_EN (n : Nat) : Fld := ⟨SYS_RGNR n, 35, 35⟩
abbrev SYS_RGNR_W (n : Nat) : Fld := ⟨SYS_RGNR n, 34, 34⟩
abbrev SYS_RGNR_R (n : Nat) : Fld := ⟨SYS_RGNR n, 33, 33⟩
abbrev SYS_RGNR_LAST (n : Nat) : Fld := ⟨SYS_RGNR n, 29, 20⟩
abbrev SYS_RGNR_FIRST (n : Nat) : Fld := ⟨SYS_RGNR n, 9, 0⟩
/-- SYS_RGNSTAT, spec/06_programming_model.md. -/
abbrev SYS_RGNSTAT : Nat := 0x4030
abbrev SYS_RGNSTAT_WCLR : Fld := ⟨SYS_RGNSTAT, 0, 0⟩
/-- DBG_CTL, spec/06_programming_model.md. -/
abbrev DBG_CTL : Nat := 0x8C00
abbrev DBG_CTL_NOSLEEP : Fld := ⟨DBG_CTL, 8, 8⟩
abbrev DBG_CTL_STEPR : Fld := ⟨DBG_CTL, 5, 5⟩
abbrev DBG_CTL_STEPL : Fld := ⟨DBG_CTL, 4, 4⟩
abbrev DBG_CTL_HALTR : Fld := ⟨DBG_CTL, 1, 1⟩
abbrev DBG_CTL_HALTL : Fld := ⟨DBG_CTL, 0, 0⟩
/-- DBG_STAT, spec/06_programming_model.md. -/
abbrev DBG_STAT : Nat := 0x8C01
abbrev DBG_STAT_PAIRED : Fld := ⟨DBG_STAT, 8, 8⟩
abbrev DBG_STAT_STATER : Fld := ⟨DBG_STAT, 6, 4⟩
abbrev DBG_STAT_STATEL : Fld := ⟨DBG_STAT, 2, 0⟩
/-- DBG_WSEL, spec/06_programming_model.md. -/
abbrev DBG_WSEL : Nat := 0x8C02
abbrev DBG_WSEL_ENG : Fld := ⟨DBG_WSEL, 8, 8⟩
abbrev DBG_WSEL_REG : Fld := ⟨DBG_WSEL, 4, 0⟩
/-- DBG_WDATA, spec/06_programming_model.md. -/
abbrev DBG_WDATA : Nat := 0x8C03
abbrev DBG_WDATA_DATA : Fld := ⟨DBG_WDATA, 71, 0⟩
/-- DBG_TRCFG, spec/06_programming_model.md. -/
abbrev DBG_TRCFG : Nat := 0x8C04
abbrev DBG_TRCFG_MODE : Fld := ⟨DBG_TRCFG, 6, 6⟩
abbrev DBG_TRCFG_STREAM : Fld := ⟨DBG_TRCFG, 5, 5⟩
abbrev DBG_TRCFG_SYNC : Fld := ⟨DBG_TRCFG, 4, 4⟩
abbrev DBG_TRCFG_EVT : Fld := ⟨DBG_TRCFG, 3, 3⟩
abbrev DBG_TRCFG_SVC : Fld := ⟨DBG_TRCFG, 2, 2⟩
abbrev DBG_TRCFG_BR : Fld := ⟨DBG_TRCFG, 1, 1⟩
abbrev DBG_TRCFG_EN : Fld := ⟨DBG_TRCFG, 0, 0⟩
/-- DBG_TRSTAT, spec/06_programming_model.md. -/
abbrev DBG_TRSTAT : Nat := 0x8C05
abbrev DBG_TRSTAT_STOPPED : Fld := ⟨DBG_TRSTAT, 32, 32⟩
abbrev DBG_TRSTAT_LOST : Fld := ⟨DBG_TRSTAT, 31, 24⟩
abbrev DBG_TRSTAT_RPTR : Fld := ⟨DBG_TRSTAT, 19, 10⟩
abbrev DBG_TRSTAT_WPTR : Fld := ⟨DBG_TRSTAT, 9, 0⟩
/-- COLLAR_ID, spec/08_collar.md. -/
abbrev COLLAR_ID : Nat := 0x9000
abbrev COLLAR_ID_ROMVER : Fld := ⟨COLLAR_ID, 63, 48⟩
abbrev COLLAR_ID_TRVER : Fld := ⟨COLLAR_ID, 47, 32⟩
abbrev COLLAR_ID_IDSUM : Fld := ⟨COLLAR_ID, 31, 0⟩
/-- COLLAR_MBXCMD, spec/08_collar.md. -/
abbrev COLLAR_MBXCMD : Nat := 0x9001
abbrev COLLAR_MBXCMD_GO : Fld := ⟨COLLAR_MBXCMD, 16, 16⟩
abbrev COLLAR_MBXCMD_TAG : Fld := ⟨COLLAR_MBXCMD, 15, 8⟩
abbrev COLLAR_MBXCMD_SVC : Fld := ⟨COLLAR_MBXCMD, 7, 0⟩
/-- COLLAR_MBXARG, spec/08_collar.md. -/
abbrev COLLAR_MBXARG (n : Nat) : Nat := 0x9002 + n
abbrev COLLAR_MBXARG_VALUE (n : Nat) : Fld := ⟨COLLAR_MBXARG n, 71, 0⟩
/-- COLLAR_MBXRES, spec/08_collar.md. -/
abbrev COLLAR_MBXRES (n : Nat) : Nat := 0x9008 + n
abbrev COLLAR_MBXRES_VALUE (n : Nat) : Fld := ⟨COLLAR_MBXRES n, 71, 0⟩
/-- COLLAR_MBXSTAT, spec/08_collar.md. -/
abbrev COLLAR_MBXSTAT : Nat := 0x900C
abbrev COLLAR_MBXSTAT_BUSY : Fld := ⟨COLLAR_MBXSTAT, 17, 17⟩
abbrev COLLAR_MBXSTAT_DONE : Fld := ⟨COLLAR_MBXSTAT, 16, 16⟩
abbrev COLLAR_MBXSTAT_TAG : Fld := ⟨COLLAR_MBXSTAT, 15, 8⟩
abbrev COLLAR_MBXSTAT_STATUS : Fld := ⟨COLLAR_MBXSTAT, 7, 0⟩
/-- COLLAR_CHTAB, spec/08_collar.md. -/
abbrev COLLAR_CHTAB : Nat := 0x9010
abbrev COLLAR_CHTAB_STRETCH : Fld := ⟨COLLAR_CHTAB, 71, 40⟩
abbrev COLLAR_CHTAB_PAIRED : Fld := ⟨COLLAR_CHTAB, 32, 32⟩
abbrev COLLAR_CHTAB_CARRIER : Fld := ⟨COLLAR_CHTAB, 31, 0⟩
/-- COLLAR_CYCLE, spec/08_collar.md. -/
abbrev COLLAR_CYCLE : Nat := 0x9011
abbrev COLLAR_CYCLE_CYCLE : Fld := ⟨COLLAR_CYCLE, 47, 0⟩
/-- COLLAR_FAULT, spec/08_collar.md. -/
abbrev COLLAR_FAULT (n : Nat) : Nat := 0x9012 + n
abbrev COLLAR_FAULT_WORD (n : Nat) : Fld := ⟨COLLAR_FAULT n, 71, 0⟩
/-- COLLAR_LOGSTAT, spec/08_collar.md. -/
abbrev COLLAR_LOGSTAT : Nat := 0x9015
abbrev COLLAR_LOGSTAT_LOST : Fld := ⟨COLLAR_LOGSTAT, 71, 64⟩
abbrev COLLAR_LOGSTAT_PCOUNT : Fld := ⟨COLLAR_LOGSTAT, 63, 48⟩
abbrev COLLAR_LOGSTAT_NEXT : Fld := ⟨COLLAR_LOGSTAT, 47, 0⟩
/-- COLLAR_IMG, spec/08_collar.md. -/
abbrev COLLAR_IMG : Nat := 0x9016
abbrev COLLAR_IMG_VERSION : Fld := ⟨COLLAR_IMG, 39, 8⟩
abbrev COLLAR_IMG_SESSION : Fld := ⟨COLLAR_IMG, 7, 7⟩
abbrev COLLAR_IMG_REJB : Fld := ⟨COLLAR_IMG, 6, 6⟩
abbrev COLLAR_IMG_REJA : Fld := ⟨COLLAR_IMG, 5, 5⟩
abbrev COLLAR_IMG_VALB : Fld := ⟨COLLAR_IMG, 4, 4⟩
abbrev COLLAR_IMG_VALA : Fld := ⟨COLLAR_IMG, 3, 3⟩
abbrev COLLAR_IMG_ACTR : Fld := ⟨COLLAR_IMG, 1, 1⟩
abbrev COLLAR_IMG_ACTL : Fld := ⟨COLLAR_IMG, 0, 0⟩
/-- COLLAR_POCKET, spec/08_collar.md. -/
abbrev COLLAR_POCKET : Nat := 0x9017
abbrev COLLAR_POCKET_STATE : Fld := ⟨COLLAR_POCKET, 31, 0⟩
/-- COLLAR_LOAD, spec/08_collar.md. -/
abbrev COLLAR_LOAD : Nat := 0x9018
abbrev COLLAR_LOAD_BUSYR : Fld := ⟨COLLAR_LOAD, 15, 8⟩
abbrev COLLAR_LOAD_BUSYL : Fld := ⟨COLLAR_LOAD, 7, 0⟩
/-- SEAM_REC, spec/09_seam_and_events.md. -/
abbrev SEAM_REC (n : Nat) : Nat := 0x5800 + n
abbrev SEAM_REC_BLOCK (n : Nat) : Fld := ⟨SEAM_REC n, 31, 24⟩
abbrev SEAM_REC_SEQ (n : Nat) : Fld := ⟨SEAM_REC n, 23, 16⟩
abbrev SEAM_REC_PRIVATE (n : Nat) : Fld := ⟨SEAM_REC n, 10, 10⟩
abbrev SEAM_REC_STALE (n : Nat) : Fld := ⟨SEAM_REC n, 9, 9⟩
abbrev SEAM_REC_FULL (n : Nat) : Fld := ⟨SEAM_REC n, 8, 8⟩
abbrev SEAM_REC_HOME (n : Nat) : Fld := ⟨SEAM_REC n, 7, 4⟩
abbrev SEAM_REC_OWNER (n : Nat) : Fld := ⟨SEAM_REC n, 3, 0⟩
/-- SEAM_CMD, spec/09_seam_and_events.md. -/
abbrev SEAM_CMD : Nat := 0x5900
abbrev SEAM_CMD_HOME : Fld := ⟨SEAM_CMD, 39, 36⟩
abbrev SEAM_CMD_PRIV : Fld := ⟨SEAM_CMD, 35, 35⟩
abbrev SEAM_CMD_FULL : Fld := ⟨SEAM_CMD, 34, 34⟩
abbrev SEAM_CMD_BLOCK : Fld := ⟨SEAM_CMD, 31, 24⟩
abbrev SEAM_CMD_XSEQ : Fld := ⟨SEAM_CMD, 23, 16⟩
abbrev SEAM_CMD_TO : Fld := ⟨SEAM_CMD, 11, 8⟩
abbrev SEAM_CMD_OP : Fld := ⟨SEAM_CMD, 2, 0⟩
/-- SEAM_CMDRES, spec/09_seam_and_events.md. -/
abbrev SEAM_CMDRES : Nat := 0x5901
abbrev SEAM_CMDRES_RESULT : Fld := ⟨SEAM_CMDRES, 35, 34⟩
abbrev SEAM_CMDRES_DONE : Fld := ⟨SEAM_CMDRES, 32, 32⟩
abbrev SEAM_CMDRES_IMAGE : Fld := ⟨SEAM_CMDRES, 31, 0⟩
/-- SEAM_STAT, spec/09_seam_and_events.md. -/
abbrev SEAM_STAT : Nat := 0x5902
abbrev SEAM_STAT_DROPN : Fld := ⟨SEAM_STAT, 71, 64⟩
abbrev SEAM_STAT_ORPHN : Fld := ⟨SEAM_STAT, 63, 56⟩
abbrev SEAM_STAT_REVN : Fld := ⟨SEAM_STAT, 55, 48⟩
abbrev SEAM_STAT_DROPBLK : Fld := ⟨SEAM_STAT, 47, 40⟩
abbrev SEAM_STAT_DROPBY : Fld := ⟨SEAM_STAT, 39, 36⟩
abbrev SEAM_STAT_CLR : Fld := ⟨SEAM_STAT, 0, 0⟩
/-- SEAM_QCTL, spec/09_seam_and_events.md. -/
abbrev SEAM_QCTL : Nat := 0x5903
abbrev SEAM_QCTL_TARGET : Fld := ⟨SEAM_QCTL, 12, 8⟩
abbrev SEAM_QCTL_UNIT : Fld := ⟨SEAM_QCTL, 6, 5⟩
abbrev SEAM_QCTL_RELEASE : Fld := ⟨SEAM_QCTL, 1, 1⟩
abbrev SEAM_QCTL_REQ : Fld := ⟨SEAM_QCTL, 0, 0⟩
/-- SEAM_QSTAT, spec/09_seam_and_events.md. -/
abbrev SEAM_QSTAT : Nat := 0x5904
abbrev SEAM_QSTAT_LASTTGT : Fld := ⟨SEAM_QSTAT, 31, 24⟩
abbrev SEAM_QSTAT_NREQ : Fld := ⟨SEAM_QSTAT, 23, 16⟩
abbrev SEAM_QSTAT_NREV : Fld := ⟨SEAM_QSTAT, 15, 8⟩
abbrev SEAM_QSTAT_HELD : Fld := ⟨SEAM_QSTAT, 2, 2⟩
abbrev SEAM_QSTAT_BUSY : Fld := ⟨SEAM_QSTAT, 1, 1⟩
abbrev SEAM_QSTAT_DONE : Fld := ⟨SEAM_QSTAT, 0, 0⟩
/-- EVT_RTL, spec/09_seam_and_events.md. -/
abbrev EVT_RTL (n : Nat) : Nat := 0x5400 + n
abbrev EVT_RTL_DIS (n : Nat) : Fld := ⟨EVT_RTL n, 13, 13⟩
abbrev EVT_RTL_SRC (n : Nat) : Fld := ⟨EVT_RTL n, 5, 0⟩
/-- EVT_RTR, spec/09_seam_and_events.md. -/
abbrev EVT_RTR (n : Nat) : Nat := 0x5420 + n
abbrev EVT_RTR_DIS (n : Nat) : Fld := ⟨EVT_RTR n, 13, 13⟩
abbrev EVT_RTR_SRC (n : Nat) : Fld := ⟨EVT_RTR n, 5, 0⟩
/-- EVT_RTC, spec/09_seam_and_events.md. -/
abbrev EVT_RTC (n : Nat) : Nat := 0x5440 + n
abbrev EVT_RTC_DIS (n : Nat) : Fld := ⟨EVT_RTC n, 13, 13⟩
abbrev EVT_RTC_SRC (n : Nat) : Fld := ⟨EVT_RTC n, 5, 0⟩
/-- EVT_PENDL, spec/09_seam_and_events.md. -/
abbrev EVT_PENDL : Nat := 0x5450
abbrev EVT_PENDL_PEND : Fld := ⟨EVT_PENDL, 63, 0⟩
/-- EVT_PENDR, spec/09_seam_and_events.md. -/
abbrev EVT_PENDR : Nat := 0x5451
abbrev EVT_PENDR_PEND : Fld := ⟨EVT_PENDR, 63, 0⟩
/-- EVT_PENDC, spec/09_seam_and_events.md. -/
abbrev EVT_PENDC : Nat := 0x5452
abbrev EVT_PENDC_PEND : Fld := ⟨EVT_PENDC, 31, 0⟩
/-- EVT_OVFL, spec/09_seam_and_events.md. -/
abbrev EVT_OVFL : Nat := 0x5453
abbrev EVT_OVFL_OVF : Fld := ⟨EVT_OVFL, 31, 0⟩
/-- EVT_OVFR, spec/09_seam_and_events.md. -/
abbrev EVT_OVFR : Nat := 0x5454
abbrev EVT_OVFR_OVF : Fld := ⟨EVT_OVFR, 31, 0⟩
/-- EVT_OVFC, spec/09_seam_and_events.md. -/
abbrev EVT_OVFC : Nat := 0x5455
abbrev EVT_OVFC_OVF : Fld := ⟨EVT_OVFC, 15, 0⟩
/-- EVT_SWSET, spec/09_seam_and_events.md. -/
abbrev EVT_SWSET : Nat := 0x5456
abbrev EVT_SWSET_SW : Fld := ⟨EVT_SWSET, 7, 0⟩
/-- TDC_CFG, spec/10_tdc.md. -/
abbrev TDC_CFG (n : Nat) : Nat := 0x5C00 + 0x100 * n
abbrev TDC_CFG_DMAX (n : Nat) : Fld := ⟨TDC_CFG n, 31, 24⟩
abbrev TDC_CFG_CDN (n : Nat) : Fld := ⟨TDC_CFG n, 22, 20⟩
abbrev TDC_CFG_XCYC (n : Nat) : Fld := ⟨TDC_CFG n, 19, 16⟩
abbrev TDC_CFG_CALN (n : Nat) : Fld := ⟨TDC_CFG n, 14, 8⟩
abbrev TDC_CFG_TBASE (n : Nat) : Fld := ⟨TDC_CFG n, 0, 0⟩
/-- TDC_STAT, spec/10_tdc.md. -/
abbrev TDC_STAT (n : Nat) : Nat := 0x5C01 + 0x100 * n
abbrev TDC_STAT_EARLYN (n : Nat) : Fld := ⟨TDC_STAT n, 55, 48⟩
abbrev TDC_STAT_ORDERN (n : Nat) : Fld := ⟨TDC_STAT n, 47, 40⟩
abbrev TDC_STAT_UNRESN (n : Nat) : Fld := ⟨TDC_STAT n, 39, 32⟩
abbrev TDC_STAT_LOSTN (n : Nat) : Fld := ⟨TDC_STAT n, 31, 24⟩
abbrev TDC_STAT_CLR (n : Nat) : Fld := ⟨TDC_STAT n, 8, 8⟩
abbrev TDC_STAT_XBFALL (n : Nat) : Fld := ⟨TDC_STAT n, 6, 6⟩
abbrev TDC_STAT_PROV (n : Nat) : Fld := ⟨TDC_STAT n, 5, 5⟩
abbrev TDC_STAT_QFULL (n : Nat) : Fld := ⟨TDC_STAT n, 4, 4⟩
abbrev TDC_STAT_HELD (n : Nat) : Fld := ⟨TDC_STAT n, 3, 3⟩
abbrev TDC_STAT_STATE (n : Nat) : Fld := ⟨TDC_STAT n, 2, 0⟩
/-- TDC_PCALS, spec/10_tdc.md. -/
abbrev TDC_PCALS (n : Nat) : Nat := 0x5C02 + 0x100 * n
abbrev TDC_PCALS_LAP (n : Nat) : Fld := ⟨TDC_PCALS n, 47, 24⟩
abbrev TDC_PCALS_LAMBDA (n : Nat) : Fld := ⟨TDC_PCALS n, 23, 0⟩
/-- TDC_PCALP, spec/10_tdc.md. -/
abbrev TDC_PCALP (n : Nat) : Nat := 0x5C03 + 0x100 * n
abbrev TDC_PCALP_LAP (n : Nat) : Fld := ⟨TDC_PCALP n, 47, 24⟩
abbrev TDC_PCALP_LAMBDA (n : Nat) : Fld := ⟨TDC_PCALP n, 23, 0⟩
/-- TDC_TNOW, spec/10_tdc.md. -/
abbrev TDC_TNOW (n : Nat) : Nat := 0x5C04 + 0x100 * n
abbrev TDC_TNOW_TB (n : Nat) : Fld := ⟨TDC_TNOW n, 48, 48⟩
abbrev TDC_TNOW_T (n : Nat) : Fld := ⟨TDC_TNOW n, 47, 0⟩
/-- TDC_HITS, spec/10_tdc.md. -/
abbrev TDC_HITS (n : Nat) : Nat := 0x5C05 + 0x100 * n
abbrev TDC_HITS_SHADOW (n : Nat) : Fld := ⟨TDC_HITS n, 71, 36⟩
abbrev TDC_HITS_ACTIVE (n : Nat) : Fld := ⟨TDC_HITS n, 35, 0⟩
/-- TDC_BINSEL, spec/10_tdc.md. -/
abbrev TDC_BINSEL (n : Nat) : Nat := 0x5C06 + 0x100 * n
abbrev TDC_BINSEL_LINE (n : Nat) : Fld := ⟨TDC_BINSEL n, 11, 11⟩
abbrev TDC_BINSEL_BANK (n : Nat) : Fld := ⟨TDC_BINSEL n, 10, 10⟩
abbrev TDC_BINSEL_BIN (n : Nat) : Fld := ⟨TDC_BINSEL n, 9, 0⟩
/-- TDC_BINDATA, spec/10_tdc.md. -/
abbrev TDC_BINDATA (n : Nat) : Nat := 0x5C07 + 0x100 * n
abbrev TDC_BINDATA_W (n : Nat) : Fld := ⟨TDC_BINDATA n, 35, 0⟩
/-- TDC_JOB, spec/10_tdc.md. -/
abbrev TDC_JOB (n : Nat) : Nat := 0x5C08 + 0x100 * n
abbrev TDC_JOB_BLOCK (n : Nat) : Fld := ⟨TDC_JOB n, 55, 48⟩
abbrev TDC_JOB_N (n : Nat) : Fld := ⟨TDC_JOB n, 47, 32⟩
abbrev TDC_JOB_LIST (n : Nat) : Fld := ⟨TDC_JOB n, 30, 30⟩
abbrev TDC_JOB_WIN (n : Nat) : Fld := ⟨TDC_JOB n, 29, 29⟩
abbrev TDC_JOB_PEDGE (n : Nat) : Fld := ⟨TDC_JOB n, 28, 28⟩
abbrev TDC_JOB_SEDGE (n : Nat) : Fld := ⟨TDC_JOB n, 27, 27⟩
abbrev TDC_JOB_PX (n : Nat) : Fld := ⟨TDC_JOB n, 26, 26⟩
abbrev TDC_JOB_SX (n : Nat) : Fld := ⟨TDC_JOB n, 25, 25⟩
abbrev TDC_JOB_PTP (n : Nat) : Fld := ⟨TDC_JOB n, 23, 20⟩
abbrev TDC_JOB_STP (n : Nat) : Fld := ⟨TDC_JOB n, 19, 16⟩
abbrev TDC_JOB_GO (n : Nat) : Fld := ⟨TDC_JOB n, 0, 0⟩
/-- TDC_JOBRES, spec/10_tdc.md. -/
abbrev TDC_JOBRES (n : Nat) : Nat := 0x5C09 + 0x100 * n
abbrev TDC_JOBRES_RESULT (n : Nat) : Fld := ⟨TDC_JOBRES n, 1, 0⟩
/-- TDC_LAST, spec/10_tdc.md. -/
abbrev TDC_LAST (n : Nat) : Nat := 0x5C0A + 0x100 * n
abbrev TDC_LAST_FLAGS (n : Nat) : Fld := ⟨TDC_LAST n, 71, 60⟩
abbrev TDC_LAST_INTERVAL (n : Nat) : Fld := ⟨TDC_LAST n, 47, 0⟩
/-- USF_CFG, spec/11_flow_and_temperature.md. -/
abbrev USF_CFG : Nat := 0x6000
abbrev USF_CFG_PLOSS : Fld := ⟨USF_CFG, 15, 12⟩
abbrev USF_CFG_RAMP : Fld := ⟨USF_CFG, 10, 8⟩
abbrev USF_CFG_CAPCHK : Fld := ⟨USF_CFG, 0, 0⟩
/-- USF_PATH_CFG, spec/11_flow_and_temperature.md. -/
abbrev USF_PATH_CFG (n : Nat) : Nat := 0x6010 + n
abbrev USF_PATH_CFG_EN (n : Nat) : Fld := ⟨USF_PATH_CFG n, 35, 35⟩
abbrev USF_PATH_CFG_PIPE (n : Nat) : Fld := ⟨USF_PATH_CFG n, 34, 33⟩
abbrev USF_PATH_CFG_POL (n : Nat) : Fld := ⟨USF_PATH_CFG n, 32, 32⟩
abbrev USF_PATH_CFG_ZC (n : Nat) : Fld := ⟨USF_PATH_CFG n, 27, 25⟩
abbrev USF_PATH_CFG_NCYC (n : Nat) : Fld := ⟨USF_PATH_CFG n, 24, 20⟩
abbrev USF_PATH_CFG_THR (n : Nat) : Fld := ⟨USF_PATH_CFG n, 19, 12⟩
abbrev USF_PATH_CFG_FREQ (n : Nat) : Fld := ⟨USF_PATH_CFG n, 11, 0⟩
/-- USF_PATH_TIME, spec/11_flow_and_temperature.md. -/
abbrev USF_PATH_TIME (n : Nat) : Nat := 0x6014 + n
abbrev USF_PATH_TIME_GAP (n : Nat) : Fld := ⟨USF_PATH_TIME n, 35, 24⟩
abbrev USF_PATH_TIME_TMAX (n : Nat) : Fld := ⟨USF_PATH_TIME n, 23, 12⟩
abbrev USF_PATH_TIME_BLANK (n : Nat) : Fld := ⟨USF_PATH_TIME n, 11, 0⟩
/-- USF_AGC, spec/11_flow_and_temperature.md. -/
abbrev USF_AGC (n : Nat) : Nat := 0x6018 + n
abbrev USF_AGC_PEAK (n : Nat) : Fld := ⟨USF_AGC n, 35, 28⟩
abbrev USF_AGC_TARGET (n : Nat) : Fld := ⟨USF_AGC n, 23, 16⟩
abbrev USF_AGC_MODE (n : Nat) : Fld := ⟨USF_AGC n, 15, 15⟩
abbrev USF_AGC_GAIN (n : Nat) : Fld := ⟨USF_AGC n, 6, 0⟩
/-- USF_REQ, spec/11_flow_and_temperature.md. -/
abbrev USF_REQ : Nat := 0x6020
abbrev USF_REQ_WORD : Fld := ⟨USF_REQ, 71, 0⟩
/-- USF_REQRES, spec/11_flow_and_temperature.md. -/
abbrev USF_REQRES : Nat := 0x6021
abbrev USF_REQRES_RESULT : Fld := ⟨USF_REQRES, 9, 8⟩
abbrev USF_REQRES_TAG : Fld := ⟨USF_REQRES, 7, 0⟩
/-- USF_STAT, spec/11_flow_and_temperature.md. -/
abbrev USF_STAT : Nat := 0x6022
abbrev USF_STAT_ZPROV : Fld := ⟨USF_STAT, 19, 16⟩
abbrev USF_STAT_LOST : Fld := ⟨USF_STAT, 15, 12⟩
abbrev USF_STAT_SHORTED : Fld := ⟨USF_STAT, 11, 8⟩
abbrev USF_STAT_FLOOR : Fld := ⟨USF_STAT, 7, 7⟩
abbrev USF_STAT_NOECHO : Fld := ⟨USF_STAT, 6, 6⟩
abbrev USF_STAT_HELD : Fld := ⟨USF_STAT, 5, 5⟩
abbrev USF_STAT_QFULL : Fld := ⟨USF_STAT, 4, 4⟩
abbrev USF_STAT_QN : Fld := ⟨USF_STAT, 3, 0⟩
/-- USF_NOECHO, spec/11_flow_and_temperature.md. -/
abbrev USF_NOECHO : Nat := 0x6023
abbrev USF_NOECHO_CLR : Fld := ⟨USF_NOECHO, 32, 32⟩
abbrev USF_NOECHO_COUNT : Fld := ⟨USF_NOECHO, 31, 0⟩
/-- USF_CAP, spec/11_flow_and_temperature.md. -/
abbrev USF_CAP (n : Nat) : Nat := 0x6024 + n
abbrev USF_CAP_VALID (n : Nat) : Fld := ⟨USF_CAP n, 36, 36⟩
abbrev USF_CAP_CAM (n : Nat) : Fld := ⟨USF_CAP n, 35, 18⟩
abbrev USF_CAP_CBM (n : Nat) : Fld := ⟨USF_CAP n, 17, 0⟩
/-- USF_ZOFS, spec/11_flow_and_temperature.md. -/
abbrev USF_ZOFS (n : Nat) : Nat := 0x6028 + n
abbrev USF_ZOFS_SRC (n : Nat) : Fld := ⟨USF_ZOFS n, 49, 48⟩
abbrev USF_ZOFS_DT0 (n : Nat) : Fld := ⟨USF_ZOFS n, 47, 0⟩
/-- USF_ZCTL, spec/11_flow_and_temperature.md. -/
abbrev USF_ZCTL : Nat := 0x602C
abbrev USF_ZCTL_STAT : Fld := ⟨USF_ZCTL, 23, 20⟩
abbrev USF_ZCTL_ZSD : Fld := ⟨USF_ZCTL, 19, 12⟩
abbrev USF_ZCTL_NZ : Fld := ⟨USF_ZCTL, 11, 4⟩
abbrev USF_ZCTL_MASK : Fld := ⟨USF_ZCTL, 3, 0⟩
/-- ADC_CFG, spec/11_flow_and_temperature.md. -/
abbrev ADC_CFG : Nat := 0x6400
abbrev ADC_CFG_ISEL1 : Fld := ⟨ADC_CFG, 18, 16⟩
abbrev ADC_CFG_ISEL0 : Fld := ⟨ADC_CFG, 14, 12⟩
abbrev ADC_CFG_TCONV : Fld := ⟨ADC_CFG, 10, 8⟩
abbrev ADC_CFG_BURN : Fld := ⟨ADC_CFG, 4, 4⟩
abbrev ADC_CFG_AUTOR : Fld := ⟨ADC_CFG, 0, 0⟩
/-- ADC_IN, spec/11_flow_and_temperature.md. -/
abbrev ADC_IN (n : Nat) : Nat := 0x6410 + n
abbrev ADC_IN_HILIM (n : Nat) : Fld := ⟨ADC_IN n, 71, 60⟩
abbrev ADC_IN_LOLIM (n : Nat) : Fld := ⟨ADC_IN n, 59, 48⟩
abbrev ADC_IN_AINL (n : Nat) : Fld := ⟨ADC_IN n, 47, 44⟩
abbrev ADC_IN_AINN (n : Nat) : Fld := ⟨ADC_IN n, 43, 40⟩
abbrev ADC_IN_AINP (n : Nat) : Fld := ⟨ADC_IN n, 39, 36⟩
abbrev ADC_IN_GAIN (n : Nat) : Fld := ⟨ADC_IN n, 33, 31⟩
abbrev ADC_IN_GFIX (n : Nat) : Fld := ⟨ADC_IN n, 30, 30⟩
abbrev ADC_IN_PAIR (n : Nat) : Fld := ⟨ADC_IN n, 26, 26⟩
abbrev ADC_IN_UNITPREF (n : Nat) : Fld := ⟨ADC_IN n, 25, 25⟩
abbrev ADC_IN_WIRE (n : Nat) : Fld := ⟨ADC_IN n, 24, 23⟩
abbrev ADC_IN_KIND (n : Nat) : Fld := ⟨ADC_IN n, 22, 20⟩
/-- ADC_REQ, spec/11_flow_and_temperature.md. -/
abbrev ADC_REQ : Nat := 0x6420
abbrev ADC_REQ_WORD : Fld := ⟨ADC_REQ, 71, 0⟩
/-- ADC_REQRES, spec/11_flow_and_temperature.md. -/
abbrev ADC_REQRES : Nat := 0x6421
abbrev ADC_REQRES_RESULT : Fld := ⟨ADC_REQRES, 9, 8⟩
abbrev ADC_REQRES_TAG : Fld := ⟨ADC_REQRES, 7, 0⟩
/-- ADC_STAT, spec/11_flow_and_temperature.md. -/
abbrev ADC_STAT : Nat := 0x6422
abbrev ADC_STAT_EXCLOST : Fld := ⟨ADC_STAT, 13, 12⟩
abbrev ADC_STAT_RERUN : Fld := ⟨ADC_STAT, 11, 11⟩
abbrev ADC_STAT_RANGED : Fld := ⟨ADC_STAT, 10, 10⟩
abbrev ADC_STAT_STATEB : Fld := ⟨ADC_STAT, 7, 6⟩
abbrev ADC_STAT_STATEA : Fld := ⟨ADC_STAT, 5, 4⟩
abbrev ADC_STAT_QN : Fld := ⟨ADC_STAT, 3, 0⟩
/-- MET_IFCFG, spec/11_flow_and_temperature.md. -/
abbrev MET_IFCFG : Nat := 0x6BF0
abbrev MET_IFCFG_CTOL : Fld := ⟨MET_IFCFG, 59, 52⟩
abbrev MET_IFCFG_NFLT : Fld := ⟨MET_IFCFG, 51, 48⟩
abbrev MET_IFCFG_TSWAP : Fld := ⟨MET_IFCFG, 47, 40⟩
abbrev MET_IFCFG_EXPECT : Fld := ⟨MET_IFCFG, 31, 0⟩
/-- MET_IFSTAT, spec/11_flow_and_temperature.md. -/
abbrev MET_IFSTAT : Nat := 0x6BF1
abbrev MET_IFSTAT_XOPEN : Fld := ⟨MET_IFSTAT, 55, 52⟩
abbrev MET_IFSTAT_XSWAP : Fld := ⟨MET_IFSTAT, 51, 48⟩
abbrev MET_IFSTAT_REFF : Fld := ⟨MET_IFSTAT, 47, 46⟩
abbrev MET_IFSTAT_PSWAP : Fld := ⟨MET_IFSTAT, 31, 16⟩
abbrev MET_IFSTAT_PROBE : Fld := ⟨MET_IFSTAT, 15, 0⟩
/-- MET_CH_DESC, spec/12_energy.md. -/
abbrev MET_CH_DESC (n : Nat) : Nat := 0x6800 + 0x10 * n
abbrev MET_CH_DESC_DMASK (n : Nat) : Fld := ⟨MET_CH_DESC n, 47, 32⟩
abbrev MET_CH_DESC_PEDGE (n : Nat) : Fld := ⟨MET_CH_DESC n, 25, 25⟩
abbrev MET_CH_DESC_GASQ1 (n : Nat) : Fld := ⟨MET_CH_DESC n, 24, 24⟩
abbrev MET_CH_DESC_TPIN (n : Nat) : Fld := ⟨MET_CH_DESC n, 23, 20⟩
abbrev MET_CH_DESC_IN2 (n : Nat) : Fld := ⟨MET_CH_DESC n, 19, 16⟩
abbrev MET_CH_DESC_IN1 (n : Nat) : Fld := ⟨MET_CH_DESC n, 15, 12⟩
abbrev MET_CH_DESC_VLEG (n : Nat) : Fld := ⟨MET_CH_DESC n, 8, 8⟩
abbrev MET_CH_DESC_PIPE (n : Nat) : Fld := ⟨MET_CH_DESC n, 5, 4⟩
abbrev MET_CH_DESC_KIND (n : Nat) : Fld := ⟨MET_CH_DESC n, 2, 0⟩
/-- MET_CH_EMAX, spec/12_energy.md. -/
abbrev MET_CH_EMAX (n : Nat) : Nat := 0x6801 + 0x10 * n
abbrev MET_CH_EMAX_LIMIT (n : Nat) : Fld := ⟨MET_CH_EMAX n, 47, 0⟩
/-- MET_CH_VMAX, spec/12_energy.md. -/
abbrev MET_CH_VMAX (n : Nat) : Nat := 0x6802 + 0x10 * n
abbrev MET_CH_VMAX_LIMIT (n : Nat) : Fld := ⟨MET_CH_VMAX n, 47, 0⟩
/-- MET_CH_MMAX, spec/12_energy.md. -/
abbrev MET_CH_MMAX (n : Nat) : Nat := 0x6803 + 0x10 * n
abbrev MET_CH_MMAX_LIMIT (n : Nat) : Fld := ⟨MET_CH_MMAX n, 47, 0⟩
/-- MET_CH_CV, spec/12_energy.md. -/
abbrev MET_CH_CV (n : Nat) : Nat := 0x6804 + 0x10 * n
abbrev MET_CH_CV_CV (n : Nat) : Fld := ⟨MET_CH_CV n, 47, 0⟩
/-- MET_CH_CUT, spec/12_energy.md. -/
abbrev MET_CH_CUT (n : Nat) : Nat := 0x6805 + 0x10 * n
abbrev MET_CH_CUT_QON (n : Nat) : Fld := ⟨MET_CH_CUT n, 71, 36⟩
abbrev MET_CH_CUT_QOFF (n : Nat) : Fld := ⟨MET_CH_CUT n, 35, 0⟩
/-- MET_CH_REF, spec/12_energy.md. -/
abbrev MET_CH_REF (n : Nat) : Nat := 0x6806 + 0x10 * n
abbrev MET_CH_REF_P1 (n : Nat) : Fld := ⟨MET_CH_REF n, 65, 44⟩
abbrev MET_CH_REF_P2 (n : Nat) : Fld := ⟨MET_CH_REF n, 43, 22⟩
abbrev MET_CH_REF_TB (n : Nat) : Fld := ⟨MET_CH_REF n, 21, 0⟩
/-- MET_CH_PULSE, spec/12_energy.md. -/
abbrev MET_CH_PULSE (n : Nat) : Nat := 0x6807 + 0x10 * n
abbrev MET_CH_PULSE_RHO (n : Nat) : Fld := ⟨MET_CH_PULSE n, 71, 36⟩
abbrev MET_CH_PULSE_PWEIGHT (n : Nat) : Fld := ⟨MET_CH_PULSE n, 35, 0⟩
/-- MET_CH_ZR, spec/12_energy.md. -/
abbrev MET_CH_ZR (n : Nat) : Nat := 0x6808 + 0x10 * n
abbrev MET_CH_ZR_ZR (n : Nat) : Fld := ⟨MET_CH_ZR n, 35, 0⟩
/-- MET_CH_PCNT, spec/12_energy.md. -/
abbrev MET_CH_PCNT (n : Nat) : Nat := 0x6809 + 0x10 * n
abbrev MET_CH_PCNT_COUNT (n : Nat) : Fld := ⟨MET_CH_PCNT n, 47, 0⟩
/-- MET_CH_STAT, spec/12_energy.md. -/
abbrev MET_CH_STAT (n : Nat) : Nat := 0x680A + 0x10 * n
abbrev MET_CH_STAT_NSEG (n : Nat) : Fld := ⟨MET_CH_STAT n, 59, 56⟩
abbrev MET_CH_STAT_FLAGS (n : Nat) : Fld := ⟨MET_CH_STAT n, 55, 48⟩
abbrev MET_CH_STAT_CYCLE (n : Nat) : Fld := ⟨MET_CH_STAT n, 47, 0⟩
/-- MET_STAT, spec/12_energy.md. -/
abbrev MET_STAT : Nat := 0x6A00
abbrev MET_STAT_VFLOWCH : Fld := ⟨MET_STAT, 31, 16⟩
abbrev MET_STAT_LAYOUT : Fld := ⟨MET_STAT, 7, 7⟩
abbrev MET_STAT_LATE : Fld := ⟨MET_STAT, 6, 6⟩
abbrev MET_STAT_REFUSED : Fld := ⟨MET_STAT, 5, 5⟩
abbrev MET_STAT_CLAMP : Fld := ⟨MET_STAT, 4, 4⟩
abbrev MET_STAT_VFLOW : Fld := ⟨MET_STAT, 3, 3⟩
abbrev MET_STAT_SKIP : Fld := ⟨MET_STAT, 2, 2⟩
abbrev MET_STAT_DAYW : Fld := ⟨MET_STAT, 1, 1⟩
abbrev MET_STAT_HOURW : Fld := ⟨MET_STAT, 0, 0⟩
/-- MET_LOGSELD, spec/12_energy.md. -/
abbrev MET_LOGSELD (n : Nat) : Nat := 0x6A11 + n
abbrev MET_LOGSELD_ITEMS (n : Nat) : Fld := ⟨MET_LOGSELD n, 71, 0⟩
/-- MET_LOGSELH, spec/12_energy.md. -/
abbrev MET_LOGSELH : Nat := 0x6A14
abbrev MET_LOGSELH_ITEMS : Fld := ⟨MET_LOGSELH, 71, 0⟩
/-- MET_LOGSTAT, spec/12_energy.md. -/
abbrev MET_LOGSTAT : Nat := 0x6A15
abbrev MET_LOGSTAT_DNEXT : Fld := ⟨MET_LOGSTAT, 71, 52⟩
abbrev MET_LOGSTAT_HNEXT : Fld := ⟨MET_LOGSTAT, 51, 32⟩
abbrev MET_LOGSTAT_LGEN : Fld := ⟨MET_LOGSTAT, 31, 26⟩
/-- MET_LOGCAP, spec/12_energy.md. -/
abbrev MET_LOGCAP : Nat := 0x6A16
abbrev MET_LOGCAP_DAYS : Fld := ⟨MET_LOGCAP, 47, 24⟩
abbrev MET_LOGCAP_HOURS : Fld := ⟨MET_LOGCAP, 23, 0⟩
/-- MET_VIGIL, spec/12_energy.md. -/
abbrev MET_VIGIL : Nat := 0x6A20
abbrev MET_VIGIL_VTHR : Fld := ⟨MET_VIGIL, 47, 0⟩
/-- PLS_CFG, spec/12_energy.md. -/
abbrev PLS_CFG (n : Nat) : Nat := 0x6C00 + n
abbrev PLS_CFG_WEIGHT (n : Nat) : Fld := ⟨PLS_CFG n, 71, 32⟩
abbrev PLS_CFG_WIDTH (n : Nat) : Fld := ⟨PLS_CFG n, 31, 24⟩
abbrev PLS_CFG_GAP (n : Nat) : Fld := ⟨PLS_CFG n, 23, 16⟩
abbrev PLS_CFG_CHAN (n : Nat) : Fld := ⟨PLS_CFG n, 15, 12⟩
abbrev PLS_CFG_ACC (n : Nat) : Fld := ⟨PLS_CFG n, 11, 8⟩
abbrev PLS_CFG_DRIVE (n : Nat) : Fld := ⟨PLS_CFG n, 2, 2⟩
abbrev PLS_CFG_POL (n : Nat) : Fld := ⟨PLS_CFG n, 1, 1⟩
abbrev PLS_CFG_EN (n : Nat) : Fld := ⟨PLS_CFG n, 0, 0⟩
/-- PLS_STAT, spec/12_energy.md. -/
abbrev PLS_STAT (n : Nat) : Nat := 0x6C08 + n
abbrev PLS_STAT_BACKLOG (n : Nat) : Fld := ⟨PLS_STAT n, 63, 48⟩
abbrev PLS_STAT_EMITTED (n : Nat) : Fld := ⟨PLS_STAT n, 47, 16⟩
abbrev PLS_STAT_LOST (n : Nat) : Fld := ⟨PLS_STAT n, 15, 8⟩
abbrev PLS_STAT_ACTIVE (n : Nat) : Fld := ⟨PLS_STAT n, 0, 0⟩
/-- PLS_EVT, spec/12_energy.md. -/
abbrev PLS_EVT : Nat := 0x6C10
abbrev PLS_EVT_LOSTEV : Fld := ⟨PLS_EVT, 15, 8⟩
abbrev PLS_EVT_REBASE : Fld := ⟨PLS_EVT, 7, 0⟩
/-- LOOP_CFG, spec/13_loop_and_host.md. -/
abbrev LOOP_CFG : Nat := 0x7000
abbrev LOOP_CFG_ADDR : Fld := ⟨LOOP_CFG, 31, 16⟩
abbrev LOOP_CFG_APPEN : Fld := ⟨LOOP_CFG, 8, 8⟩
/-- LOOP_MAP, spec/13_loop_and_host.md. -/
abbrev LOOP_MAP : Nat := 0x7001
abbrev LOOP_MAP_CHAN : Fld := ⟨LOOP_MAP, 7, 4⟩
abbrev LOOP_MAP_QTY : Fld := ⟨LOOP_MAP, 2, 0⟩
/-- LOOP_LRV, spec/13_loop_and_host.md. -/
abbrev LOOP_LRV : Nat := 0x7002
abbrev LOOP_LRV_VALUE : Fld := ⟨LOOP_LRV, 71, 0⟩
/-- LOOP_URV, spec/13_loop_and_host.md. -/
abbrev LOOP_URV : Nat := 0x7003
abbrev LOOP_URV_VALUE : Fld := ⟨LOOP_URV, 71, 0⟩
/-- LOOP_OUT, spec/13_loop_and_host.md. -/
abbrev LOOP_OUT : Nat := 0x7004
abbrev LOOP_OUT_DAMP : Fld := ⟨LOOP_OUT, 9, 0⟩
/-- LOOP_ALM, spec/13_loop_and_host.md. -/
abbrev LOOP_ALM : Nat := 0x7005
abbrev LOOP_ALM_IHIGH : Fld := ⟨LOOP_ALM, 47, 32⟩
abbrev LOOP_ALM_ILOW : Fld := ⟨LOOP_ALM, 31, 16⟩
abbrev LOOP_ALM_NALM : Fld := ⟨LOOP_ALM, 15, 12⟩
abbrev LOOP_ALM_FAIL : Fld := ⟨LOOP_ALM, 8, 8⟩
abbrev LOOP_ALM_DIR : Fld := ⟨LOOP_ALM, 4, 4⟩
abbrev LOOP_ALM_DISTRESS : Fld := ⟨LOOP_ALM, 3, 3⟩
abbrev LOOP_ALM_IFAULT : Fld := ⟨LOOP_ALM, 2, 2⟩
abbrev LOOP_ALM_TEMP : Fld := ⟨LOOP_ALM, 1, 1⟩
abbrev LOOP_ALM_FLOW : Fld := ⟨LOOP_ALM, 0, 0⟩
/-- LOOP_FIX, spec/13_loop_and_host.md. -/
abbrev LOOP_FIX : Nat := 0x7006
abbrev LOOP_FIX_EN : Fld := ⟨LOOP_FIX, 16, 16⟩
abbrev LOOP_FIX_IFIX : Fld := ⟨LOOP_FIX, 15, 0⟩
/-- LOOP_PV, spec/13_loop_and_host.md. -/
abbrev LOOP_PV : Nat := 0x7007
abbrev LOOP_PV_VALUE : Fld := ⟨LOOP_PV, 71, 0⟩
/-- LOOP_STAT, spec/13_loop_and_host.md. -/
abbrev LOOP_STAT : Nat := 0x7008
abbrev LOOP_STAT_SETPT : Fld := ⟨LOOP_STAT, 49, 32⟩
abbrev LOOP_STAT_MEAS : Fld := ⟨LOOP_STAT, 31, 16⟩
abbrev LOOP_STAT_CARRIER : Fld := ⟨LOOP_STAT, 15, 15⟩
abbrev LOOP_STAT_TX : Fld := ⟨LOOP_STAT, 14, 14⟩
abbrev LOOP_STAT_SATH : Fld := ⟨LOOP_STAT, 13, 13⟩
abbrev LOOP_STAT_SATL : Fld := ⟨LOOP_STAT, 12, 12⟩
abbrev LOOP_STAT_STATE : Fld := ⟨LOOP_STAT, 2, 0⟩
/-- LOOP_EVT, spec/13_loop_and_host.md. -/
abbrev LOOP_EVT : Nat := 0x7009
abbrev LOOP_EVT_COLL : Fld := ⟨LOOP_EVT, 5, 5⟩
abbrev LOOP_EVT_SAT : Fld := ⟨LOOP_EVT, 4, 4⟩
abbrev LOOP_EVT_ALMOFF : Fld := ⟨LOOP_EVT, 3, 3⟩
abbrev LOOP_EVT_ALMON : Fld := ⟨LOOP_EVT, 2, 2⟩
abbrev LOOP_EVT_FAULT : Fld := ⟨LOOP_EVT, 1, 1⟩
abbrev LOOP_EVT_RX : Fld := ⟨LOOP_EVT, 0, 0⟩
/-- LOOP_CNT, spec/13_loop_and_host.md. -/
abbrev LOOP_CNT : Nat := 0x700A
abbrev LOOP_CNT_RXOK : Fld := ⟨LOOP_CNT, 71, 48⟩
abbrev LOOP_CNT_TXN : Fld := ⟨LOOP_CNT, 47, 24⟩
abbrev LOOP_CNT_OTHER : Fld := ⟨LOOP_CNT, 23, 0⟩
/-- LOOP_PFSTAT, spec/13_loop_and_host.md. -/
abbrev LOOP_PFSTAT : Nat := 0x7010
abbrev LOOP_PFSTAT_NUM : Fld := ⟨LOOP_PFSTAT, 22, 16⟩
abbrev LOOP_PFSTAT_NEXT : Fld := ⟨LOOP_PFSTAT, 5, 0⟩
/-- LOOP_PFSEL, spec/13_loop_and_host.md. -/
abbrev LOOP_PFSEL : Nat := 0x7011
abbrev LOOP_PFSEL_KIND : Fld := ⟨LOOP_PFSEL, 13, 8⟩
abbrev LOOP_PFSEL_ENTRY : Fld := ⟨LOOP_PFSEL, 5, 0⟩
/-- LOOP_PFE0, spec/13_loop_and_host.md. -/
abbrev LOOP_PFE0 : Nat := 0x7012
abbrev LOOP_PFE0_WORD : Fld := ⟨LOOP_PFE0, 71, 0⟩
/-- LOOP_PFE1, spec/13_loop_and_host.md. -/
abbrev LOOP_PFE1 : Nat := 0x7013
abbrev LOOP_PFE1_WORD : Fld := ⟨LOOP_PFE1, 71, 0⟩
/-- LOOP_PFSUM, spec/13_loop_and_host.md. -/
abbrev LOOP_PFSUM : Nat := 0x7014
abbrev LOOP_PFSUM_COUNT : Fld := ⟨LOOP_PFSUM, 15, 0⟩
/-- HOST_IRQ, spec/13_loop_and_host.md. -/
abbrev HOST_IRQ : Nat := 0x7400
abbrev HOST_IRQ_CAUSE : Fld := ⟨HOST_IRQ, 9, 0⟩
/-- HOST_IRQEN, spec/13_loop_and_host.md. -/
abbrev HOST_IRQEN : Nat := 0x7401
abbrev HOST_IRQEN_EN : Fld := ⟨HOST_IRQEN, 9, 0⟩
/-- HOST_STAT, spec/13_loop_and_host.md. -/
abbrev HOST_STAT : Nat := 0x7402
abbrev HOST_STAT_NAKN : Fld := ⟨HOST_STAT, 47, 40⟩
abbrev HOST_STAT_LAST : Fld := ⟨HOST_STAT, 31, 14⟩
abbrev HOST_STAT_CLAMP : Fld := ⟨HOST_STAT, 2, 2⟩
abbrev HOST_STAT_TRUNC : Fld := ⟨HOST_STAT, 1, 1⟩
abbrev HOST_STAT_NAK : Fld := ⟨HOST_STAT, 0, 0⟩
/-- HOST_CFG, spec/13_loop_and_host.md. -/
abbrev HOST_CFG : Nat := 0x7403
abbrev HOST_CFG_SLEW : Fld := ⟨HOST_CFG, 1, 0⟩
/-- RADIO_EUI, spec/14_radio.md. -/
abbrev RADIO_EUI : Nat := 0x7800
abbrev RADIO_EUI_EUI : Fld := ⟨RADIO_EUI, 63, 0⟩
/-- RADIO_PHY, spec/14_radio.md. -/
abbrev RADIO_PHY : Nat := 0x7801
abbrev RADIO_PHY_CCATH : Fld := ⟨RADIO_PHY, 31, 24⟩
abbrev RADIO_PHY_TXPWR : Fld := ⟨RADIO_PHY, 23, 16⟩
abbrev RADIO_PHY_PREAMB : Fld := ⟨RADIO_PHY, 15, 8⟩
abbrev RADIO_PHY_WHITEN : Fld := ⟨RADIO_PHY, 5, 5⟩
abbrev RADIO_PHY_FCS4 : Fld := ⟨RADIO_PHY, 4, 4⟩
abbrev RADIO_PHY_RATE : Fld := ⟨RADIO_PHY, 3, 2⟩
abbrev RADIO_PHY_BAND : Fld := ⟨RADIO_PHY, 0, 0⟩
/-- RADIO_CHPLAN, spec/14_radio.md. -/
abbrev RADIO_CHPLAN : Nat := 0x7802
abbrev RADIO_CHPLAN_F0 : Fld := ⟨RADIO_CHPLAN, 31, 12⟩
abbrev RADIO_CHPLAN_SPACING : Fld := ⟨RADIO_CHPLAN, 10, 10⟩
abbrev RADIO_CHPLAN_NCH : Fld := ⟨RADIO_CHPLAN, 6, 0⟩
/-- RADIO_STAT, spec/14_radio.md. -/
abbrev RADIO_STAT : Nat := 0x7803
abbrev RADIO_STAT_RSSI : Fld := ⟨RADIO_STAT, 39, 32⟩
abbrev RADIO_STAT_LQI : Fld := ⟨RADIO_STAT, 31, 24⟩
abbrev RADIO_STAT_STATE : Fld := ⟨RADIO_STAT, 2, 0⟩
/-- RADIO_CNT, spec/14_radio.md. -/
abbrev RADIO_CNT : Nat := 0x7804
abbrev RADIO_CNT_TXN : Fld := ⟨RADIO_CNT, 71, 48⟩
abbrev RADIO_CNT_RXN : Fld := ⟨RADIO_CNT, 47, 24⟩
abbrev RADIO_CNT_FCSERR : Fld := ⟨RADIO_CNT, 23, 12⟩
abbrev RADIO_CNT_PHYERR : Fld := ⟨RADIO_CNT, 11, 0⟩
/-- MAC_CFG, spec/14_radio.md. -/
abbrev MAC_CFG : Nat := 0x7C00
abbrev MAC_CFG_PANID : Fld := ⟨MAC_CFG, 31, 16⟩
abbrev MAC_CFG_SECLVL : Fld := ⟨MAC_CFG, 7, 5⟩
abbrev MAC_CFG_MAP13757 : Fld := ⟨MAC_CFG, 3, 3⟩
abbrev MAC_CFG_APPEN : Fld := ⟨MAC_CFG, 2, 2⟩
abbrev MAC_CFG_JOINEN : Fld := ⟨MAC_CFG, 1, 1⟩
abbrev MAC_CFG_EN : Fld := ⟨MAC_CFG, 0, 0⟩
/-- MAC_TIMING, spec/14_radio.md. -/
abbrev MAC_TIMING : Nat := 0x7C01
abbrev MAC_TIMING_REPPER : Fld := ⟨MAC_TIMING, 63, 48⟩
abbrev MAC_TIMING_KA : Fld := ⟨MAC_TIMING, 47, 32⟩
abbrev MAC_TIMING_BOMAX : Fld := ⟨MAC_TIMING, 31, 16⟩
abbrev MAC_TIMING_DWELL : Fld := ⟨MAC_TIMING, 15, 0⟩
/-- MAC_ERR, spec/14_radio.md. -/
abbrev MAC_ERR : Nat := 0x7C02
abbrev MAC_ERR_NFAIL : Fld := ⟨MAC_ERR, 31, 24⟩
abbrev MAC_ERR_LIMIT : Fld := ⟨MAC_ERR, 23, 16⟩
abbrev MAC_ERR_SYNCTO : Fld := ⟨MAC_ERR, 15, 0⟩
/-- MAC_DRIFT, spec/14_radio.md. -/
abbrev MAC_DRIFT : Nat := 0x7C03
abbrev MAC_DRIFT_LEARNED : Fld := ⟨MAC_DRIFT, 71, 48⟩
abbrev MAC_DRIFT_K : Fld := ⟨MAC_DRIFT, 43, 40⟩
abbrev MAC_DRIFT_GMIN : Fld := ⟨MAC_DRIFT, 39, 32⟩
abbrev MAC_DRIFT_RES : Fld := ⟨MAC_DRIFT, 23, 0⟩
/-- MAC_STAT, spec/14_radio.md. -/
abbrev MAC_STAT : Nat := 0x7C04
abbrev MAC_STAT_GUARD : Fld := ⟨MAC_STAT, 63, 48⟩
abbrev MAC_STAT_SINCE : Fld := ⟨MAC_STAT, 47, 32⟩
abbrev MAC_STAT_NSYNC : Fld := ⟨MAC_STAT, 31, 24⟩
abbrev MAC_STAT_DESYNC : Fld := ⟨MAC_STAT, 11, 11⟩
abbrev MAC_STAT_QUIET : Fld := ⟨MAC_STAT, 10, 10⟩
abbrev MAC_STAT_DISTRESS : Fld := ⟨MAC_STAT, 9, 9⟩
abbrev MAC_STAT_DRIFTV : Fld := ⟨MAC_STAT, 8, 8⟩
abbrev MAC_STAT_JSTATE : Fld := ⟨MAC_STAT, 2, 0⟩
/-- MAC_ADDR, spec/14_radio.md. -/
abbrev MAC_ADDR : Nat := 0x7C05
abbrev MAC_ADDR_LEASE : Fld := ⟨MAC_ADDR, 63, 32⟩
abbrev MAC_ADDR_PARENT : Fld := ⟨MAC_ADDR, 31, 16⟩
abbrev MAC_ADDR_SHORT : Fld := ⟨MAC_ADDR, 15, 0⟩
/-- MAC_ASN, spec/14_radio.md. -/
abbrev MAC_ASN : Nat := 0x7C06
abbrev MAC_ASN_ASN : Fld := ⟨MAC_ASN, 39, 0⟩
/-- MAC_KEY, spec/14_radio.md. -/
abbrev MAC_KEY : Nat := 0x7C07
abbrev MAC_KEY_SWITCH : Fld := ⟨MAC_KEY, 71, 32⟩
abbrev MAC_KEY_PREV : Fld := ⟨MAC_KEY, 23, 16⟩
abbrev MAC_KEY_NEXT : Fld := ⟨MAC_KEY, 15, 8⟩
abbrev MAC_KEY_CUR : Fld := ⟨MAC_KEY, 7, 0⟩
/-- MAC_FC, spec/14_radio.md. -/
abbrev MAC_FC : Nat := 0x7C08
abbrev MAC_FC_FC : Fld := ⟨MAC_FC, 63, 32⟩
abbrev MAC_FC_HWM : Fld := ⟨MAC_FC, 31, 0⟩
/-- MAC_QUIET, spec/14_radio.md. -/
abbrev MAC_QUIET : Nat := 0x7C09
abbrev MAC_QUIET_START : Fld := ⟨MAC_QUIET, 71, 32⟩
abbrev MAC_QUIET_LEN : Fld := ⟨MAC_QUIET, 31, 8⟩
abbrev MAC_QUIET_GRACE : Fld := ⟨MAC_QUIET, 1, 1⟩
abbrev MAC_QUIET_PEND : Fld := ⟨MAC_QUIET, 0, 0⟩
/-- MAC_SF, spec/14_radio.md. -/
abbrev MAC_SF (n : Nat) : Nat := 0x7C0A + n
abbrev MAC_SF_SIZE (n : Nat) : Fld := ⟨MAC_SF n, 31, 16⟩
abbrev MAC_SF_NLINK (n : Nat) : Fld := ⟨MAC_SF n, 15, 8⟩
abbrev MAC_SF_ACTIVE (n : Nat) : Fld := ⟨MAC_SF n, 0, 0⟩
/-- MAC_LINKSEL, spec/14_radio.md. -/
abbrev MAC_LINKSEL : Nat := 0x7C0E
abbrev MAC_LINKSEL_SF : Fld := ⟨MAC_LINKSEL, 7, 6⟩
abbrev MAC_LINKSEL_INDEX : Fld := ⟨MAC_LINKSEL, 5, 0⟩
/-- MAC_LINK, spec/14_radio.md. -/
abbrev MAC_LINK : Nat := 0x7C0F
abbrev MAC_LINK_NEIGH : Fld := ⟨MAC_LINK, 63, 48⟩
abbrev MAC_LINK_SLOT : Fld := ⟨MAC_LINK, 47, 32⟩
abbrev MAC_LINK_CHOFS : Fld := ⟨MAC_LINK, 31, 16⟩
abbrev MAC_LINK_FLAGS : Fld := ⟨MAC_LINK, 5, 0⟩
/-- MAC_HOP, spec/14_radio.md. -/
abbrev MAC_HOP (n : Nat) : Nat := 0x7C10 + n
abbrev MAC_HOP_ENTRY (n : Nat) : Fld := ⟨MAC_HOP n, 71, 0⟩
/-- MAC_HOPLEN, spec/14_radio.md. -/
abbrev MAC_HOPLEN : Nat := 0x7C16
abbrev MAC_HOPLEN_LEN : Fld := ⟨MAC_HOPLEN, 6, 0⟩
/-- MAC_TS, spec/14_radio.md. -/
abbrev MAC_TS : Nat := 0x7C17
abbrev MAC_TS_SLOT : Fld := ⟨MAC_TS, 71, 56⟩
abbrev MAC_TS_TXOFS : Fld := ⟨MAC_TS, 55, 40⟩
abbrev MAC_TS_RXWAIT : Fld := ⟨MAC_TS, 39, 24⟩
abbrev MAC_TS_ACKDLY : Fld := ⟨MAC_TS, 23, 12⟩
abbrev MAC_TS_ACKWAIT : Fld := ⟨MAC_TS, 11, 0⟩
/-- MAC_REPSEL0, spec/14_radio.md. -/
abbrev MAC_REPSEL0 : Nat := 0x7C18
abbrev MAC_REPSEL0_ITEMS : Fld := ⟨MAC_REPSEL0, 71, 0⟩
/-- MAC_REPSEL1, spec/14_radio.md. -/
abbrev MAC_REPSEL1 : Nat := 0x7C19
abbrev MAC_REPSEL1_ITEMS : Fld := ⟨MAC_REPSEL1, 71, 0⟩
/-- MAC_CNT, spec/14_radio.md. -/
abbrev MAC_CNT : Nat := 0x7C1A
abbrev MAC_CNT_DEFER : Fld := ⟨MAC_CNT, 71, 60⟩
abbrev MAC_CNT_MISSED : Fld := ⟨MAC_CNT, 59, 48⟩
abbrev MAC_CNT_TXFAIL : Fld := ⟨MAC_CNT, 47, 36⟩
abbrev MAC_CNT_REPLAY : Fld := ⟨MAC_CNT, 35, 24⟩
abbrev MAC_CNT_REPLOST : Fld := ⟨MAC_CNT, 23, 12⟩
abbrev MAC_CNT_NACKN : Fld := ⟨MAC_CNT, 11, 0⟩
/-- MAC_EVT, spec/14_radio.md. -/
abbrev MAC_EVT : Nat := 0x7C1B
abbrev MAC_EVT_FCLOW : Fld := ⟨MAC_EVT, 8, 8⟩
abbrev MAC_EVT_ASNERR : Fld := ⟨MAC_EVT, 7, 7⟩
abbrev MAC_EVT_QUIET : Fld := ⟨MAC_EVT, 6, 6⟩
abbrev MAC_EVT_REKEY : Fld := ⟨MAC_EVT, 5, 5⟩
abbrev MAC_EVT_DISTOFF : Fld := ⟨MAC_EVT, 4, 4⟩
abbrev MAC_EVT_DISTON : Fld := ⟨MAC_EVT, 3, 3⟩
abbrev MAC_EVT_PLOST : Fld := ⟨MAC_EVT, 2, 2⟩
abbrev MAC_EVT_LEFT : Fld := ⟨MAC_EVT, 1, 1⟩
abbrev MAC_EVT_JOINED : Fld := ⟨MAC_EVT, 0, 0⟩
/-- MAC_ALM, spec/14_radio.md. -/
abbrev MAC_ALM : Nat := 0x7C1C
abbrev MAC_ALM_EN : Fld := ⟨MAC_ALM, 7, 0⟩
/-- WUR_CFG, spec/14_radio.md. -/
abbrev WUR_CFG : Nat := 0x8000
abbrev WUR_CFG_FREQ : Fld := ⟨WUR_CFG, 47, 28⟩
abbrev WUR_CFG_AWAKE : Fld := ⟨WUR_CFG, 23, 16⟩
abbrev WUR_CFG_SNIFF : Fld := ⟨WUR_CFG, 15, 8⟩
abbrev WUR_CFG_EN : Fld := ⟨WUR_CFG, 0, 0⟩
/-- WUR_GRP, spec/14_radio.md. -/
abbrev WUR_GRP : Nat := 0x8001
abbrev WUR_GRP_GRP : Fld := ⟨WUR_GRP, 63, 0⟩
/-- WUR_STAT, spec/14_radio.md. -/
abbrev WUR_STAT : Nat := 0x8002
abbrev WUR_STAT_LAST : Fld := ⟨WUR_STAT, 63, 32⟩
abbrev WUR_STAT_WAKEN : Fld := ⟨WUR_STAT, 31, 24⟩
abbrev WUR_STAT_FALSEN : Fld := ⟨WUR_STAT, 23, 16⟩
abbrev WUR_STAT_CHKERR : Fld := ⟨WUR_STAT, 15, 8⟩
abbrev WUR_STAT_CLR : Fld := ⟨WUR_STAT, 0, 0⟩
/-- LBL_CFG, spec/15_replacement.md. -/
abbrev LBL_CFG : Nat := 0x8400
abbrev LBL_CFG_IDLE : Fld := ⟨LBL_CFG, 47, 32⟩
abbrev LBL_CFG_KEYWAIT : Fld := ⟨LBL_CFG, 31, 20⟩
abbrev LBL_CFG_VERIFY : Fld := ⟨LBL_CFG, 19, 16⟩
abbrev LBL_CFG_CLK : Fld := ⟨LBL_CFG, 5, 4⟩
abbrev LBL_CFG_AW : Fld := ⟨LBL_CFG, 1, 1⟩
abbrev LBL_CFG_EN : Fld := ⟨LBL_CFG, 0, 0⟩
/-- LBL_STAT, spec/15_replacement.md. -/
abbrev LBL_STAT : Nat := 0x8401
abbrev LBL_STAT_MSEQ : Fld := ⟨LBL_STAT, 71, 40⟩
abbrev LBL_STAT_LAG : Fld := ⟨LBL_STAT, 39, 32⟩
abbrev LBL_STAT_CLASS : Fld := ⟨LBL_STAT, 27, 24⟩
abbrev LBL_STAT_HO : Fld := ⟨LBL_STAT, 23, 20⟩
abbrev LBL_STAT_REASON : Fld := ⟨LBL_STAT, 19, 16⟩
abbrev LBL_STAT_SUSP : Fld := ⟨LBL_STAT, 7, 7⟩
abbrev LBL_STAT_PROT : Fld := ⟨LBL_STAT, 6, 6⟩
abbrev LBL_STAT_VALID1 : Fld := ⟨LBL_STAT, 5, 5⟩
abbrev LBL_STAT_VALID0 : Fld := ⟨LBL_STAT, 4, 4⟩
abbrev LBL_STAT_BUSY : Fld := ⟨LBL_STAT, 3, 3⟩
abbrev LBL_STAT_FAULT : Fld := ⟨LBL_STAT, 2, 2⟩
abbrev LBL_STAT_WROTE : Fld := ⟨LBL_STAT, 1, 1⟩
/-- LBL_HEAD, spec/15_replacement.md. -/
abbrev LBL_HEAD : Nat := 0x8402
abbrev LBL_HEAD_HEADID : Fld := ⟨LBL_HEAD, 63, 0⟩
/-- LBL_SUMS, spec/15_replacement.md. -/
abbrev LBL_SUMS : Nat := 0x8403
abbrev LBL_SUMS_CFGSUM : Fld := ⟨LBL_SUMS, 63, 32⟩
abbrev LBL_SUMS_SITEID : Fld := ⟨LBL_SUMS, 31, 0⟩
/-- LBL_LSUMS, spec/15_replacement.md. -/
abbrev LBL_LSUMS : Nat := 0x8404
abbrev LBL_LSUMS_CFGSUM : Fld := ⟨LBL_LSUMS, 63, 32⟩
abbrev LBL_LSUMS_SITEID : Fld := ⟨LBL_LSUMS, 31, 0⟩
/-- LBL_ID, spec/15_replacement.md. -/
abbrev LBL_ID : Nat := 0x8405
abbrev LBL_ID_DEVID : Fld := ⟨LBL_ID, 31, 0⟩
/-- LBL_CMD, spec/15_replacement.md. -/
abbrev LBL_CMD : Nat := 0x8406
abbrev LBL_CMD_CLAIM : Fld := ⟨LBL_CMD, 0, 0⟩
/-- BIST_EN, spec/16_selftest_and_failover.md. -/
abbrev BIST_EN : Nat := 0x8800
abbrev BIST_EN_EN : Fld := ⟨BIST_EN, 17, 0⟩
/-- BIST_CFG, spec/16_selftest_and_failover.md. -/
abbrev BIST_CFG : Nat := 0x8801
abbrev BIST_CFG_RETRY : Fld := ⟨BIST_CFG, 47, 32⟩
abbrev BIST_CFG_PSCALE : Fld := ⟨BIST_CFG, 11, 8⟩
abbrev BIST_CFG_MAXS : Fld := ⟨BIST_CFG, 3, 0⟩
/-- BIST_DEGR, spec/16_selftest_and_failover.md. -/
abbrev BIST_DEGR : Nat := 0x8802
abbrev BIST_DEGR_RETIRED : Fld := ⟨BIST_DEGR, 53, 36⟩
abbrev BIST_DEGR_HELD : Fld := ⟨BIST_DEGR, 35, 18⟩
abbrev BIST_DEGR_FAILED : Fld := ⟨BIST_DEGR, 17, 0⟩
/-- BIST_RUN, spec/16_selftest_and_failover.md. -/
abbrev BIST_RUN : Nat := 0x8803
abbrev BIST_RUN_SLICE : Fld := ⟨BIST_RUN, 31, 16⟩
abbrev BIST_RUN_ITEM : Fld := ⟨BIST_RUN, 12, 8⟩
abbrev BIST_RUN_STATE : Fld := ⟨BIST_RUN, 2, 0⟩
/-- BIST_ITEMSEL, spec/16_selftest_and_failover.md. -/
abbrev BIST_ITEMSEL : Nat := 0x8804
abbrev BIST_ITEMSEL_ITEM : Fld := ⟨BIST_ITEMSEL, 4, 0⟩
/-- BIST_ITEM, spec/16_selftest_and_failover.md. -/
abbrev BIST_ITEM : Nat := 0x8805
abbrev BIST_ITEM_AGE : Fld := ⟨BIST_ITEM, 71, 48⟩
abbrev BIST_ITEM_NEXT : Fld := ⟨BIST_ITEM, 47, 32⟩
abbrev BIST_ITEM_NFAIL : Fld := ⟨BIST_ITEM, 31, 24⟩
abbrev BIST_ITEM_TRANS : Fld := ⟨BIST_ITEM, 23, 16⟩
abbrev BIST_ITEM_PASSES : Fld := ⟨BIST_ITEM, 15, 0⟩
/-- BIST_EVT, spec/16_selftest_and_failover.md. -/
abbrev BIST_EVT : Nat := 0x8806
abbrev BIST_EVT_ECC : Fld := ⟨BIST_EVT, 5, 5⟩
abbrev BIST_EVT_RETIRED : Fld := ⟨BIST_EVT, 4, 4⟩
abbrev BIST_EVT_RESTORED : Fld := ⟨BIST_EVT, 3, 3⟩
abbrev BIST_EVT_OVERDUE : Fld := ⟨BIST_EVT, 2, 2⟩
abbrev BIST_EVT_TRANSIENT : Fld := ⟨BIST_EVT, 1, 1⟩
abbrev BIST_EVT_FAIL : Fld := ⟨BIST_EVT, 0, 0⟩
/-- BIST_ECC, spec/16_selftest_and_failover.md. -/
abbrev BIST_ECC : Nat := 0x8807
abbrev BIST_ECC_CLR : Fld := ⟨BIST_ECC, 64, 64⟩
abbrev BIST_ECC_NV : Fld := ⟨BIST_ECC, 63, 48⟩
abbrev BIST_ECC_SEAM : Fld := ⟨BIST_ECC, 47, 32⟩
abbrev BIST_ECC_GEN : Fld := ⟨BIST_ECC, 31, 16⟩
abbrev BIST_ECC_COLLAR : Fld := ⟨BIST_ECC, 15, 0⟩
/-- BIST_CMD, spec/16_selftest_and_failover.md. -/
abbrev BIST_CMD : Nat := 0x8808
abbrev BIST_CMD_ITEM : Fld := ⟨BIST_CMD, 12, 8⟩
abbrev BIST_CMD_RUN : Fld := ⟨BIST_CMD, 0, 0⟩
/-- SYS_PADCFG, spec/17_electrical.md. -/
abbrev SYS_PADCFG : Nat := 0x4034
abbrev SYS_PADCFG_DDSLEW : Fld := ⟨SYS_PADCFG, 15, 14⟩
abbrev SYS_PADCFG_LBSLEW : Fld := ⟨SYS_PADCFG, 13, 12⟩
abbrev SYS_PADCFG_TPSLEW : Fld := ⟨SYS_PADCFG, 11, 10⟩
abbrev SYS_PADCFG_TPFILT1 : Fld := ⟨SYS_PADCFG, 7, 6⟩
abbrev SYS_PADCFG_TPFILT0 : Fld := ⟨SYS_PADCFG, 5, 4⟩
abbrev SYS_PADCFG_TPPULL1 : Fld := ⟨SYS_PADCFG, 1, 1⟩
abbrev SYS_PADCFG_TPPULL0 : Fld := ⟨SYS_PADCFG, 0, 0⟩
/-- SYS_PADSTAT, spec/17_electrical.md. -/
abbrev SYS_PADSTAT : Nat := 0x4035
abbrev SYS_PADSTAT_VDDIO_OK : Fld := ⟨SYS_PADSTAT, 16, 16⟩
abbrev SYS_PADSTAT_TPLVL : Fld := ⟨SYS_PADSTAT, 15, 0⟩
/-- SYS_DIETEMP, spec/17_electrical.md. -/
abbrev SYS_DIETEMP : Nat := 0x4036
abbrev SYS_DIETEMP_HOTSEEN : Fld := ⟨SYS_DIETEMP, 17, 17⟩
abbrev SYS_DIETEMP_HOT : Fld := ⟨SYS_DIETEMP, 16, 16⟩
abbrev SYS_DIETEMP_TEMP : Fld := ⟨SYS_DIETEMP, 15, 0⟩

/-- MET_ACCn_k (spec/12_energy.md), VB + k. -/
def MET_ACC (n k : Nat) : Nat := 0x6900 + 0x10 * n + k

end Sys2Proof.Machine.F
end

