-- ==== Sys2Proof/Machine/Store.lean ====
section
/-!
DEFINITION. The one container of the state: a list of (key, value) pairs with strictly rising keys in which no entry
equals what an unlisted key reads as. Memory, the register file and every sparse table are such lists (log 1, log 2).
-/
namespace Sys2Proof.Machine

variable {α : Type}

/-- Read key `k`; an unlisted key reads as `dflt k`. -/
def Store.get (dflt : Nat → α) (s : List (Nat × α)) (k : Nat) : α :=
  match s with
  | [] => dflt k
  | (a, v) :: t => if a = k then v else Store.get dflt t k

/-- Take key `k` off the list. -/
def Store.erase (s : List (Nat × α)) (k : Nat) : List (Nat × α) :=
  s.filter (fun e => e.1 != k)

/-- Put `(k, v)` in front of the first larger key. -/
def Store.insert (s : List (Nat × α)) (k : Nat) (v : α) : List (Nat × α) :=
  match s with
  | [] => [(k, v)]
  | (a, w) :: t => if k < a then (k, v) :: (a, w) :: t else (a, w) :: Store.insert t k v

/-- Write key `k`: writing what an unlisted key reads as removes the entry, so equal contents are equal lists. -/
def Store.set [DecidableEq α] (dflt : Nat → α) (s : List (Nat × α)) (k : Nat) (v : α) : List (Nat × α) :=
  if v = dflt k then Store.erase s k else Store.insert (Store.erase s k) k v

/-- The canonical form: keys strictly rising, no entry equal to the default. -/
def Store.wf [DecidableEq α] (dflt : Nat → α) (s : List (Nat × α)) : Bool :=
  match s with
  | [] => true
  | (a, v) :: t => decide (v ≠ dflt a) && t.all (fun e => decide (a < e.1)) && Store.wf dflt t

end Sys2Proof.Machine
end

