-- ==== Sys2Proof/Machine/State.lean ====
section
/-!
DEFINITION. The state of the block, all of it plain data, and the state right after reset.
Every register of R541 lives in ONE register file, `Dev.regs`, keyed by word address; a register that the list does not
hold reads as its reset word (`resetWord`, Machine/RegMap.lean). Memory is one list of (word address, word) pairs.
What the spec gives the machine beyond its registers and memory stands in the structures below, chapter by chapter.
-/
namespace Sys2Proof.Machine

/-- An order of the command cycle to one control field (R29): the register, the field's bits, the master, the class it counts in (R28, R226), the
value. -/
structure Order where
  addr : Nat
  hi : Nat
  lo : Nat
  master : Master
  cls : Nat
  value : Nat
deriving DecidableEq, Repr

/-- The pending value of deferred or RWS bits of one register (R8, R10): which bits, and their values. -/
structure Pending where
  mask : Word
  value : Word
deriving DecidableEq, Repr

/-- What the supplies measure now (PWR_MEAS shows them at a boundary or wake, R65), in mV; SURPLUS and NEED in µW; the
die temperature in 1/16 °C; the VMAIN source to resume after a slack-water window (R42); whether VPOOL has reached the
shot floor since the start and the second the wait began (R46); the once-per-start records; the pending mode triggers of
R57 (harvest short, harvest restored, pool low, HANDOVER over with its cause, a supply loss held in START by its
shutdown cause); the SEAL opening already logged; LGATE released; the regulator back at the fused safe current after a loop
return (R59, R62); the installation latch, none while not VALID, true for battery (R74); and a battery start confirmed (R75). -/
structure Supply where
  loopp : Nat
  vpool : Nat
  vcell : Nat
  surplus : Nat
  needMeas : Option Nat
  dieTemp : Int
  savedSrc : Nat
  filled : Bool
  waitFrom : Nat
  deepLogged : Bool
  mismatchLogged : Bool
  chgFull : Bool
  cellDead : Bool
  lgate : Bool
  short : Bool
  rich : Bool
  poolLow : Bool
  handoverOver : Option Nat
  startLoss : Option Nat
  sealLogged : Bool
  regulating : Bool
  latch : Option Bool
  cellStart : Bool
deriving DecidableEq, Repr

/-- A waiting slack-water window request: by T0 or by instruction, and its length in µs (R114). -/
structure WinReq where
  t0 : Bool
  len : Nat
deriving DecidableEq, Repr

/-- The slack-water sequencer of the clock block (R113 to R115). -/
structure Slack where
  opening : Option WinReq
  cur : WinReq
  waiting : List WinReq
  poolWait : List WinReq
  gap : Bool
  firstDone : Bool
deriving DecidableEq, Repr

/-- Hidden clock state: a source change waiting for its gate (R104, R105), the step the spread profile stands at
(0 to 99, R109), the PLL fields latched at the last lock (R107), the spread depth in use (R110), the billing seconds of recent fence trips and
whether the lock has held since the last boundary (R112), good EXTREF windows in a row and the presence the TDC
uses (R117), and e_LF − e_HF in ppb as taken at the start of the billing second (R133). -/
structure Clock where
  pendingSrc : Option Nat
  spreadPos : Nat
  pllUse : Word
  trips : List Nat
  depth : Nat
  lockHeld : Bool
  xrefGood : Nat
  xrefTdc : Bool
  secErr : Int
deriving DecidableEq, Repr

/-- Hidden Tideline state, in the always-on domain: the correction phase P and the correction e in ppb (R121, R123),
the tick count and the value at a halt (R125), and the first step after a release. -/
structure Tide where
  phase : Nat
  e : Int
  haltTick : Nat
  haltOld : Word
  firstStep : Option Nat
  relArmed : Bool
deriving DecidableEq, Repr

/-- One entry of a fine channel's capture queue (R146). -/
structure Cap where
  count : Nat
  seq : Nat
  tag : Nat
deriving DecidableEq, Repr

/-- Hidden state of one timer channel: the 32-bit fraction (of a bus channel, the part of a count that its prescaler has
counted, R136; log 97), the capture queue and its next SEQ, whether the channel
wrapped since the last accepted entry (R146), the make-up record S0, F0 and MURES (R150), the link actions latched
in sleep (R151), and the time (LSB 2^-24 s) before S0 for which it was stopped for sleep and not frozen (R152). -/
structure TmrCh where
  frac : Nat
  queue : List Cap
  nextSeq : Nat
  wrapped : Bool
  s0 : Nat
  f0 : Nat
  mures : Nat
  latStop : Bool
  latReset : Bool
  latStart : Bool
  live : Nat
deriving DecidableEq, Repr

/-- A link action on its way to its target (R139): the target channel and the action code. -/
structure Link where
  target : Nat
  act : Nat
deriving DecidableEq, Repr

/-- The flags FL of an engine (R161, R162). -/
structure Flags where
  z : Bool
  n : Bool
  c : Bool
  v : Bool
  s : Bool
deriving DecidableEq, Repr

/-- One level of the loop stack: start, end, remaining count (R161, R218). -/
structure LoopLevel where
  start : BitVec 21
  stop : BitVec 21
  count : Nat
deriving DecidableEq, Repr

/-- What a waiting engine waits for (R186, R189, R190, R192). -/
inductive Wait
  | none
  | waitev (d : WReg) (mask : Nat)
  | doze
  | svc
  | rendezvous (op : YOp)
deriving DecidableEq, Repr

/-- A trap record (R179): cause, instruction address, the instruction's bits, data address, TRAP code, TIDE_TICKS. -/
structure TrapRec where
  cause : Nat
  ia : BitVec 21
  instr : BitVec 36
  daddr : Nat
  tcode : Nat
  ticks : Nat
deriving DecidableEq, Repr

/-- An engine's programming state (R161): the Collar has no ACCB, its copy stays zero. A Sleeve's run state is
DBG_STAT.STATEL or STATER. -/
structure EngState where
  w : Vector Word 16
  acca : Acc144
  accb : Acc144
  fl : Flags
  ia : BitVec 21
  loops : List LoopLevel
  wait : Wait
  trap : Option TrapRec
deriving DecidableEq, Repr

/-- An engine at its start (R182), with the next instruction at `ia`. -/
def EngState.init (ia : BitVec 21) : EngState :=
  ⟨Vector.replicate 16 0, 0, 0, ⟨false, false, false, false, false⟩, ia, [], .none, none⟩

/-- The code-density table of a unit: accumulated weights keyed by line × 1024 + tap (start line 0, stop line 1), and the
samples of each line (R305, R306). -/
structure TdcTable where
  bins : List (Nat × Nat)
  n0 : Nat
  n1 : Nat
deriving DecidableEq, Repr

/-- A job of a TDC unit (R307): where its edges come from and their polarity (TDCu_JOB); the requester's owner code, its block, the pairs asked for, its options; for a USF job the
request's number, path and direction; and what its attempts have brought so far (R308, R309). -/
structure TdcJob where
  startSrc : EdgeSrc
  startFall : Bool
  stopSrc : EdgeSrc
  stopFall : Bool
  usf : Option Nat
  path : Nat
  ebb : Bool
  who : Nat
  block : Nat
  n : Nat
  list : Bool
  win : Bool
  redirect : Bool
  orphan : Bool
  tries : Nat
  xs : List Nat
  ents : List (Nat × Nat)
  nUnres : Nat
  nOrder : Nat
  nOvf : Nat
  nTmo : Nat
  nEarly : Nat
  flags : Nat
deriving DecidableEq, Repr

/-- What the period of a SYSCLK cycle depends on beside its place in the spread profile (R133, R300): the source, the spread depth, the LF error that
holds in the billing second, CLK_HFERR.ERR. -/
structure ClkSet where
  src : Nat
  depth : Nat
  secErr : Int
  err : Int
deriving DecidableEq, Repr

/-- One TDC unit (R294 to R313): the job queue with the open job at its head, the raw position of an open pair's start,
the calibration of the window (whether done, Λ of the start and the stop line as fractions, Δpos as a fraction, T in ps
as a fraction, EXTREF time base), the dither edges of the window, and the active and building tables; the period in ps of the cycle before an open
pair's start was sampled (R297), and the clock's settings since then, the latest last (R300); a fence trip in the open window (R311). -/
structure TdcUnit where
  queue : List TdcJob
  pair : Option Nat
  cal : Bool
  lamS : Nat × Nat
  lamP : Nat × Nat
  dpS : Nat × Nat
  dpP : Nat × Nat
  t : Nat × Nat
  tb : Bool
  dither : Nat
  act : Option TdcTable
  bld : TdcTable
  startT : Nat × Nat
  hist : List ClkSet
  fenced : Bool
deriving DecidableEq, Repr

/-- A request in the USF queue (R318 to R323): its number, the request word's fields, the requester's owner code, the
shots still to launch, and for a waveform the shots taken and the sums of their samples. -/
structure UsfReq where
  id : Nat
  block : Nat
  path : Nat
  ebb : Bool
  wave : Bool
  unit : Nat
  n : Nat
  srate : Nat
  start : Nat
  who : Nat
  orphan : Bool
  left : Nat
  taken : Nat
  sums : List Int
deriving DecidableEq, Repr

/-- One path's hidden state: consecutive windows without a collected pair (R328), consecutive passed tests and boundaries
since the loss (R329), whether the open window held shots of it, the collected shots' PEAK sum and count (R317), and the
collected flood and ebb intervals of the window (R327). -/
structure PathSt where
  loss : Nat
  tests : Nat
  age : Nat
  held : Bool
  peakSum : Nat
  peakN : Nat
  floods : List Nat
  ebbs : List Nat
deriving DecidableEq, Repr

/-- A shot in flight: its request, path, direction, kind, whether its pair was collected (R316), and the burst that drives it: the
half-cycle in SYSCLK cycles and the ramp (R315). -/
structure Shot where
  id : Nat
  path : Nat
  ebb : Bool
  wave : Bool
  got : Bool
  half : Nat
  ramp : Nat
deriving DecidableEq, Repr

/-- The ultrasonic front end (R314 to R329, R342): queue, last TAG of the host port and of the debug port (R319), path in
service, last request served on it and each path's last launch in ns, counted from TIDE_TICKS 0 (R321; log 108), TIDE_TICKS as the window opened, the shot in flight, hidden path states,
zero learning (mask, boundaries left, the means w_k of each path as fractions; R327), the capacitance sweep, and where the last timing
result of each path and direction (path × 2 + direction) stands: its block, its cycle, and what its completion word carries (R253; log 84). -/
structure Usf where
  queue : List UsfReq
  tagHost : Option Nat
  tagDbg : Option Nat
  path : Option Nat
  lastId : Option Nat
  lastLaunch : List (Nat × Nat)
  openTick : Nat
  shot : Option Shot
  paths : List (Nat × PathSt)
  zMask : Nat
  zLeft : Nat
  zw : List (Nat × List (Int × Nat))
  sweep : List Nat
  recheck : List Nat
  results : List (Nat × Nat × Nat × Nat)
deriving DecidableEq, Repr

/-- A request in the ADC queue (R338, R339): its fields, unit, requester, and the conversions done: (flags, VALUE) each,
and the gain of the last one. -/
structure AdcReq where
  block : Nat
  input : Nat
  unit : Nat
  n : Nat
  who : Nat
  orphan : Bool
  redirect : Bool
  convs : List (Nat × Int)
  gain : Nat
deriving DecidableEq, Repr

/-- The ADC block: queue, last TAG of each port, and for each unit the running conversion: true once a window aborted it
(R337); where the last result of each input record stands: its block, its cycle, and what its completion word carries (R253; log 84). -/
structure Adc where
  queue : List AdcReq
  tagHost : Option Nat
  tagDbg : Option Nat
  runA : Option Bool
  runB : Option Bool
  results : List (Nat × Nat × Nat × Nat)
deriving DecidableEq, Repr

/-- The metering block beyond its registers (spec/12_energy.md): the accumulators keyed by channel × 13 + index, each as
integer × 2^24 + residue (R347, R242); the pulse outputs' BASE, EMITTED, phase (0 idle, 1 active, 2 gap) and the tick the
phase ends (R376, R377); the posts applied as (channel, CYCLE); the last period recorded, the layout generation and the
flags of the hourly and daily rings, and whether a selection has changed (R369 to R373); COLLAR_CYCLE at each ring's last
snapshot; the vigil volumes noted at VIGIL entry (R366); each channel's cut state and its PULSE counts at the start of the cycle in progress and of the one before, for the fallback
program (R354, R362); the post being applied belongs to a VIGIL cycle, and the cycle in progress at VIGIL entry (R59, R365). -/
structure Met where
  acc : List (Nat × Nat)
  plsBase : List (Nat × Nat)
  plsEmit : List (Nat × Nat)
  plsPhase : List (Nat × Nat)
  plsDue : List (Nat × Nat)
  posts : List (Nat × Nat)
  perH : Option Nat
  perD : Option Nat
  genH : Nat
  genD : Nat
  newH : Bool
  newD : Bool
  flagsH : Nat
  flagsD : Nat
  snapH : Option Nat
  snapD : Option Nat
  vigil0 : List (Nat × Nat)
  running : List Nat
  pcnt0 : List (Nat × Nat)
  pcnt1 : List (Nat × Nat)
  vigilNow : Bool
  vigilCycle : Nat
deriving DecidableEq, Repr

/-- A loop reply waiting or on its way (R390): the command, the REPLY code, the result bytes, whether it answers an order,
how often it was abandoned (R397), and the block of an application's reply, which goes back once it is sent (R279, R402). -/
structure LReply where
  cmd : Nat
  code : Nat
  data : List Nat
  order : Bool
  tries : Nat
  block : Option Nat
deriving DecidableEq, Repr

/-- What a held partner order asks for (R396, R398, R450): a bit range of a word, a time delivery with the TIDE_SEC it
refers to, or a loop test current. -/
inductive HeldKind
  | field (addr pos width : Nat) (value : Word)
  | time (tm at_ : Word)
  | test (ifix : Nat)
deriving DecidableEq, Repr

/-- A partner order held for the next cycle boundary (R31): the master, what it asks for, the command code, and for a radio
peer the message's sequence number. -/
structure Held where
  master : Master
  kind : HeldKind
  cmd : Nat
  rseq : Nat
deriving DecidableEq, Repr

/-- The loop block beyond its registers (spec/13_loop_and_host.md): primary value x in Q48.24 per second, the damped
current y in µA as a fraction (R381 to R383); the posts in a row for which each alarm condition held, the channel they were of, the
alarm, and the alarm last announced (R385); the second LOOP_FIX.EN was set (R386); the first fallback measurement has been
made (R384); the value of a Sleeve's post that waits for the first full-rate boundary (R86); the Partner Fault Log's entry words, counters and committed counters (R404); replies queued, the one being
sent, the tick its frame ends and the frame's bytes (R390, R395); the reply to send again (R397); the application requests
waiting as (command, RXTAG, tick they were delivered) and the next RXTAG (R402); the commands discarded under quiesce (R403); the blocks given to LOOP with FULL = 1,
each with the owner that gave it (R279, R283). -/
structure Loop where
  x : Int
  y : Int × Nat
  cFlow : Nat
  cTemp : Nat
  cFault : Nat
  alarmOf : Nat
  alarm : Bool
  shown : Bool
  fixFrom : Nat
  firstFb : Bool
  pfl : List (Nat × Word)
  pfsum : List (Nat × Nat)
  pfsumNv : List (Nat × Nat)
  queue : List LReply
  sending : Option LReply
  txEnd : Nat
  frame : List Nat
  resend : Option LReply
  app : List (Nat × Nat × Nat)
  rxtag : Nat
  pool : List Nat
  discards : List Nat
  full : Option (Int × Nat)
  given : List (Nat × Nat)
deriving DecidableEq, Repr

/-- A Pocket slot beyond its state, which COLLAR_POCKET holds: the type of the key (0 HMAC-SHA-256, 1 AES-128, 2 ECDSA
P-256) and its bytes (R255, R256). -/
structure KeySlot where
  ty : Nat
  key : List Nat
deriving DecidableEq, Repr

/-- A frame in the ordinary queue (R427): the Riostey TYPE (0 a keep-alive, R428), destination ORIG, RSEQ, CODE, data
bytes; failed attempts (R426); whether it is a reply; whether it follows from a wake request (R464); the Seam block of an
APP_UP (R456). -/
structure RMsg where
  ty : Nat
  dest : Nat
  rseq : Nat
  code : Nat
  data : List Nat
  tries : Nat
  reply : Bool
  wake : Bool
  block : Option Nat
deriving DecidableEq, Repr

/-- A queued ALARM (R455, R458): its code, RSEQ, TIDE_SEC and detail; failed attempts of this sending, broadcast attempts,
shared links still to skip, and the ASN of its last sending. -/
structure RAlarm where
  code : Nat
  rseq : Nat
  at_ : Word
  detail : Word
  tries : Nat
  casts : Nat
  skip : Nat
  last : Option Nat
deriving DecidableEq, Repr

/-- An originator's last accepted RSEQ and the reply sent to it (R451); the least recently used stands first. -/
structure ROrig where
  addr : Nat
  rseq : Nat
  reply : Option RMsg
deriving DecidableEq, Repr

/-- The radio, MAC and wake-up receiver beyond their registers (spec/14_radio.md): channel being scanned; channel of the last slot's
link (R424); the EB sender a
JOIN_REQ went to (short, EUI), the nonce N and the seconds a join or backoff ends (R434 to R436); the backoff wait, the
hold time of a LEAVE (R438); coordinator and parent EUI; end of the lease and next LEASE_REQ (R437); the links; changes of
SCHEDULE to come as (ASN, remove, link) (R439); BE and the shared links to skip (R426); TIDE_TICKS at the last sync;
whether E was restored by quick start and E as saved (R432); parent lost (R457); both queues; the next RSEQ; originators;
a REPORT due (R453); the slot a quiet period runs from, its end, wake requests that wait for its end and the RSEQs of their WAKE_ACKs then, a grace slotframe due
and its end (R464, R465); the tick that listening after a wake ends and RESYNC listening (R462); replay floors as
((key index, EUI), counter); FC and HWM per handle; HWM of network keys by index (R443, R447); the current key is
exhausted (R445); the second the previous key is erased; the receive pool and the application requests waiting as (command,
RXTAG, originator, RSEQ, tick they were delivered) with its next RXTAG (R402, R450); the blocks given to RADIO with FULL = 1, each with the owner that
gave it (R279, R283); the requests discarded under quiesce as (originator, RSEQ); TIDE_TICKS at the start of the last slot
(R23); the CCM* nonce and the Riostey message of the frame last sent (R441, R448); the last REPORT
asks for a rekey (R445). -/
structure Radio where
  scan : Nat
  chan : Nat
  peer : Option (Nat × Nat)
  nonce : Nat
  due : Nat
  boff : Nat
  hold : Option Nat
  coord : Nat
  parentEui : Nat
  leaseEnd : Nat
  renew : Nat
  links : List RLink
  sched : List (Nat × Bool × RLink)
  be : Nat
  skip : Nat
  lastSync : Nat
  restored : Bool
  savedE : Int
  lost : Bool
  ord : List RMsg
  alarms : List RAlarm
  rseq : Nat
  origs : List ROrig
  reportDue : Bool
  quietFrom : Nat
  quietEnd : Nat
  heldWakes : List Nat
  lateAcks : List Nat
  graceDue : Bool
  graceEnd : Nat
  awakeTill : Option Nat
  resync : Bool
  floors : List ((Nat × Nat) × Nat)
  fc : List (Nat × Nat)
  hwm : List (Nat × Nat)
  hwmIdx : List (Nat × Nat)
  exhausted : Bool
  prevErase : Nat
  pool : List Nat
  app : List (Nat × Nat × Nat × Nat × Nat)
  rxtag : Nat
  given : List (Nat × Nat)
  discards : List (Nat × Nat)
  slotTick : Nat
  txNonce : List Nat
  txMsg : List Nat
  rekeyAsk : Bool
deriving DecidableEq, Repr

/-- Who called a service (R237): a Sleeve, the mailbox with its TAG (used by the debug port or by the host), the loop master with the command, or a radio peer with the RSEQ
and the command. -/
inductive Caller
  | sleeve (right : Bool)
  | mailbox (tag : Nat) (dbg : Bool)
  | loop (cmd : Nat)
  | radio (peer rseq cmd : Nat)
deriving DecidableEq, Repr

/-- A service request that waits or is in service (R235): number, caller, arguments W1 onward. -/
structure SvcReq where
  svc : Nat
  who : Caller
  args : List Word
deriving DecidableEq, Repr

/-- An image update session (R265): the interface that opened it (1 mailbox, 2 loop, 3 radio), whether it is a trusted
image, its declared length, tag, the second of its last IMG_WRITE, whether a verification runs, and who asked for it. -/
structure Session where
  iface : Nat
  trusted : Bool
  total : Nat
  tag : Nat
  last : Nat
  verifying : Bool
  who : Caller
deriving DecidableEq, Repr

/-- A protected parameter written in SERVICE and not yet copied (R257): word address, the field's bits, its old and new value,
the master class, and whether it is a word of the trusted parameter area. -/
structure ParamChange where
  addr : Nat
  hi : Nat
  lo : Nat
  old : Word
  new : Word
  cls : Nat
  param : Bool
deriving DecidableEq, Repr

/-- An orderly shutdown under way (R94 to R96): its cause (R99), the mode it began in, whether step D is excluded, the
level reached, and the end by a restart reset. -/
structure Shutdown where
  cause : Nat
  mode : Nat
  noD : Bool
  level : Nat
  restart : Bool
deriving DecidableEq, Repr

/-- The Collar beyond its registers (spec/08_collar.md, spec/03_start_and_shutdown.md): requests in service order (the head
is in service), the last mailbox TAG, the update session and its next tag, a staged trusted image by its words and whether
it verified, the activation step under way with the images to return to, COLLAR_CYCLE at the last activation, the mode
asked for by MODE_REQ (true PAIRED), PAIRED just left, Sleeves waiting for their slice or to restart, the restarted Sleeves for which the table is to be
restored, catch-up posts as (channel, cycle), Sleeve faults as (Sleeve, second), recent loads, channels stretched with the
cycle of their migration, the changes of protected parameters to copy, the SEQ of the next checkpoint and the
one restored, T1's count from which the fallback program integrates in the cycle in progress (R82), whether the fallback program runs (R253), the last θm per channel, the quick-start record copied at Stage 2, the
TIDE_SEC of the last checkpoint before this start and the outage, an orderly shutdown, the tick of the last watchdog service, whether the always-on domain was lost, the hash of the active image, the next
clean shutdown record's number, a boundary that a reset of T1 asked for, and the Sleeves whose fault without a trap, or whose
retirement at the next fault, is due (R246, R502); the (channel, cycle) pairs to fill at the next boundary (R246); and, kept in the nonvolatile store: a run without step A of a shutdown
since its start (R98), the image marked active (true B, R83), the code-density tables saved at a clean shutdown (R99, R306), and
the changed parameters found outside their range (R258); the version of a trusted image copied at SEAL close whose seal is still to be written (R268). -/
structure Col where
  svcQ : List SvcReq
  mbxTag : Option Nat
  session : Option Session
  sessN : Nat
  trusted : Option (Nat × Bool)
  actStep : Option Nat
  oldImg : Nat × Nat
  actCycle : Option Nat
  modeReq : Option Bool
  leftPaired : Bool
  waitSlice : List Nat
  restart : List Nat
  back : List Nat
  catchup : List (Nat × Nat)
  faults : List (Nat × Nat)
  loadL : List Nat
  loadR : List Nat
  stretchFrom : List (Nat × Nat)
  changes : List ParamChange
  ckSeq : Nat
  fbFrom : Nat
  fb : Bool
  theta : List (Nat × Int)
  qs : Option (List Word)
  lastCk : Nat
  outage : Nat
  shut : Option Shutdown
  wdTick : Nat
  aonLost : Bool
  imgHash : List Nat
  csSeq : Nat
  bndDue : Bool
  bndDur : Nat
  bndRest : Nat
  endedTicks : Nat
  faultDue : List Nat
  retireDue : List Nat
  fillDue : List (Nat × Nat)
  unclean : Bool
  marked : Bool
  savedA : Option TdcTable
  savedB : Option TdcTable
  sealBad : List Nat
  copied : Option Nat
deriving DecidableEq, Repr

/-- A write to the Label under way (R476, R479): a mirror record of MSEQ with its words, and whether it claims the Label or
follows an adoption; or the zero-offset block. -/
inductive LabelJob
  | mirror (mseq : Nat) (words : List Word) (claim : Bool)
  | zero (bytes : List Nat)
deriving DecidableEq, Repr

/-- What the device knows of the Label (spec/15_replacement.md): the words of both slots, the zero-offset block's path words, the
zero-flow offset it gives each path (R326, R473),
writes under way, failed writes in a row, mirrors since the last full read-back, second and accumulators of the last mirror,
the base snapshot with the (HEADID, MSEQ) it belongs to, the second the key wait began, the record to adopt, whether the
first mirror is to claim the Label, the blocks the Collar gave to LABEL (R279), and a zero-offset block that waits for the pool (R43). -/
structure Label where
  slot0 : List Word
  slot1 : List Word
  zeros : List Word
  offs : List (Option Int)
  jobs : List LabelJob
  fails : Nat
  mirrors : Nat
  lastSec : Nat
  lastAcc : List (Nat × Nat)
  base : Option ((Nat × Nat) × List (Nat × Nat))
  keyFrom : Nat
  cand : List Word
  firstClaim : Bool
  blocks : List Nat
  zeroDue : Bool
deriving DecidableEq, Repr

/-- One test item (R491 to R499): second of the last slice, next slice, passes, transients, second of the last complete pass,
whether it is overdue and recorded, the seconds of its failures. -/
structure BItem where
  last : Nat
  next : Nat
  passes : Nat
  trans : Nat
  pass : Nat
  overdue : Bool
  fails : List Nat
deriving DecidableEq, Repr

/-- The BIST controller beyond its registers (spec/16_selftest_and_failover.md): the items; due items; the idle slice in
progress; slices run in this cycle; the unit under isolated test and the one to release at the next boundary; snapshots by
item; windows in a row outside the calibration bounds by unit; boundaries in a row with the loop outside or inside its limit;
suspect pairs; the second of the next qualification by item, and TDC units whose qualification waits for its calibration (R504); the pass BIST_CMD asked for as (item, slices left); spare and
withdrawn Seam blocks with moves to do; addresses corrected once since their span's last slice; nonvolatile addresses already
recorded; (item, slice) of the spans due ahead of the order, and the one in progress out of its turn; the radio off after an AES failure. -/
structure Bist where
  items : List (Nat × BItem)
  due : List Nat
  run : Option Nat
  ran : Nat
  iso : Option Nat
  release : List Nat
  snaps : List (Nat × List (Nat × Word))
  calBad : List (Nat × Nat)
  loopBad : Nat
  loopGood : Nat
  suspect : List Nat
  qual : List (Nat × Nat)
  qcal : List Nat
  cmd : Option (Nat × Nat)
  spares : List Nat
  withdrawn : List Nat
  moves : List (Nat × Nat)
  once : List Nat
  nvSeen : List Nat
  spanDue : List (Nat × Nat)
  runSpan : Option Nat
  radioOff : Bool
deriving DecidableEq, Repr

/-- The pins (spec/17_electrical.md): VDDIO absent (R522), OVERTEMP written in this start (R533), and the Label and debug ports' slew
settings in use, which a change reaches when a transfer on the port ends (R520). -/
structure Pads where
  lost : Bool
  hotLogged : Bool
  lbSlew : Nat
  ddSlew : Nat
deriving DecidableEq, Repr

/-- The host port or the debug port (R407 to R415, R525): selected; whether its transaction has run, and to its end; that a WRITE was cut;
the previous transaction had an error (LASTERR); the word latched by the last read of a QW0 that latches (R122, R153, R350); and the bytes the device
sent last. -/
structure Port where
  open_ : Bool
  done : Option Bool
  wrote : Bool
  err : Bool
  latch : Word
  out : List Nat
deriving DecidableEq, Repr

/-- The quiesce handshake: the target and unit in steps 1 to 6, and requests that wait for it (R283, R286). -/
structure Quiesce where
  now : Option (Nat × Nat)
  wait : List (Nat × Nat)
deriving DecidableEq, Repr

/-- Everything but the queue of commands. `stepDue`: the Sleeves whose single step a write of DBG_CTL asked for (R193);
`busHeld`: the bus channels stopped for sleep and have not resumed (R149, R150); `raised`: router sources raised that some capture input
selects, which reach it when the command ends (R145). -/
structure Dev where
  regs : List (Nat × Word)
  shadow : List (Nat × Pending)
  mem : List (Nat × Word)
  ecc : List (Nat × Bool)
  orders : List Order
  sup : Supply
  slack : Slack
  clk : Clock
  tide : Tide
  tmr : List (Nat × TmrCh)
  links : List Link
  seqPrev : Option Nat
  asleep : Bool
  revertDue : List Nat
  held : List (Nat × Nat)
  engC : EngState
  engL : EngState
  engR : EngState
  collarRun : Nat
  traceHeld : List Word
  traceN : Nat
  sleepTick : Nat
  tdcA : TdcUnit
  tdcB : TdcUnit
  usf : Usf
  adc : Adc
  nextId : Nat
  detect : List (Nat × Nat)
  swapAcc : List (Nat × Nat × Nat)
  met : Met
  loop : Loop
  heldOrders : List Held
  pocket : List (Nat × KeySlot)
  radio : Radio
  freeN : Nat
  col : Col
  label : Label
  bist : Bist
  pads : Pads
  port : Port
  dport : Port
  quiesce : Quiesce
  stepDue : List Eng
  busHeld : Bool
  raised : List Nat
deriving DecidableEq, Repr

/-! ## The values at the first power-on

Registers stand at the reset words of R541 (`regs` lists nothing) and memory lists nothing; what follows is every other
part of the state. Where no rule names a value it is empty, zero or false (log 21). -/

def Supply.init : Supply :=
  ⟨0, 0, 0, 0, none, 0, 0, false, 0, false, false, false, false, false, false, false, false, none, none, false, false, none, false⟩
def Slack.init : Slack := ⟨none, ⟨false, 0⟩, [], [], false, false⟩
def Clock.init : Clock := ⟨none, 0, 0, [], 12, false, 0, false, 0⟩
def Tide.init : Tide := ⟨0, 0, 0, 0, none, false⟩
def TdcTable.empty : TdcTable := ⟨[], 0, 0⟩
def TdcUnit.init : TdcUnit :=
  ⟨[], none, false, (0, 1), (0, 1), (0, 1), (0, 1), (0, 1), false, 0, none, TdcTable.empty, (0, 1), [], false⟩
def Usf.init : Usf := ⟨[], none, none, none, none, [], 0, none, [], 0, 0, [], [], [], []⟩
def Adc.init : Adc := ⟨[], none, none, none, none, []⟩
def Met.init : Met :=
  ⟨[], [], [], [], [], [], none, none, 0, 0, false, false, 0, 0, none, none, [], [], [], [], false, 0⟩
def Loop.init : Loop :=
  ⟨0, (0, 1), 0, 0, 0, 0, false, false, 0, false, [], [], [], [], none, 0, [], none, [], 0, [], [], none, []⟩
def Radio.init : Radio :=
  { scan := 0, chan := 0, peer := none, nonce := 0, due := 0, boff := 0, hold := none, coord := 0xFFFF, parentEui := 0, leaseEnd := 0, renew := 0,
    links := [], sched := [], be := 1, skip := 0, lastSync := 0, restored := false, savedE := 0, lost := false, ord := [],
    alarms := [], rseq := 0, origs := [], reportDue := false, quietFrom := 0, quietEnd := 0, heldWakes := [], lateAcks := [], graceDue := false,
    graceEnd := 0, awakeTill := none, resync := false, floors := [], fc := [], hwm := [], hwmIdx := [],
    exhausted := false, prevErase := 0, pool := [], app := [], rxtag := 0, given := [], discards := [], slotTick := 0, txNonce := [], txMsg := [], rekeyAsk := false }
def Col.init : Col :=
  { svcQ := [], mbxTag := none, session := none, sessN := 0, trusted := none, actStep := none, oldImg := (0, 0), actCycle := none,
    modeReq := none, leftPaired := false, waitSlice := [], restart := [], back := [], catchup := [], faults := [],
    loadL := [], loadR := [], stretchFrom := [], changes := [], ckSeq := 0, fbFrom := 0, fb := false, theta := [], qs := none,
    lastCk := 0, outage := 0, shut := none, wdTick := 0, aonLost := true, imgHash := [],
    csSeq := 0, bndDue := false, bndDur := 0, bndRest := 0, endedTicks := 0, faultDue := [], retireDue := [], fillDue := [], unclean := false, marked := false, savedA := none, savedB := none, sealBad := [], copied := none }
def Label.init : Label :=
  { slot0 := [], slot1 := [], zeros := [], offs := [], jobs := [], fails := 0, mirrors := 0, lastSec := 0, lastAcc := [], base := none,
    keyFrom := 0, cand := [], firstClaim := false, blocks := [], zeroDue := false }
def Bist.init : Bist :=
  { items := [], due := [], run := none, ran := 0, iso := none, release := [], snaps := [], calBad := [], loopBad := 0, loopGood := 0,
    suspect := [], qual := [], qcal := [], cmd := none, spares := [], withdrawn := [], moves := [], once := [], nvSeen := [], spanDue := [], runSpan := none,
    radioOff := false }
def Pads.init : Pads := ⟨false, false, 1, 1⟩
def Port.init : Port := ⟨false, none, false, false, 0, []⟩
def Quiesce.init : Quiesce := ⟨none, []⟩

/-- Everything but the queue, before any supply has arrived. -/
def Dev.init : Dev :=
  { regs := [], shadow := [], mem := [], ecc := [], orders := [], sup := Supply.init, slack := Slack.init, clk := Clock.init,
    tide := Tide.init, tmr := [], links := [], seqPrev := none, asleep := false, revertDue := [], held := [],
    engC := EngState.init 0, engL := EngState.init 0, engR := EngState.init 0, collarRun := 0, traceHeld := [], traceN := 0,
    sleepTick := 0, tdcA := TdcUnit.init, tdcB := TdcUnit.init, usf := Usf.init, adc := Adc.init, nextId := 0, detect := [],
    swapAcc := [], met := Met.init, loop := Loop.init, heldOrders := [], pocket := [], radio := Radio.init, freeN := 0,
    col := Col.init, label := Label.init, bist := Bist.init, pads := Pads.init, port := Port.init, dport := Port.init,
    quiesce := Quiesce.init, stepDue := [], busHeld := false, raised := [] }

/-! ## The machine -/

/-- Nothing stops this block with a fault: every rule of spec/ that speaks of an error says what the device does next (R12 to R14,
R27, R178), so there is no fault to raise. -/
inductive Fault
deriving DecidableEq, Repr

/-- Why a command has no meaning. -/
inductive Refusal
  /-- Raised by an arm of `exec` whose command has no meaning yet; no arm raises it now. Safe: the model stops. -/
  | notModelled (mnemonic : String)
deriving DecidableEq, Repr

/-- The commands that wait, first in first out, and the device. -/
structure State where
  pending : List Instr
  dev : Dev
deriving DecidableEq, Repr

/-- Before any supply has arrived: nothing waits, every register at its reset word (R541), no memory written. -/
def State.reset : State := ⟨[], Dev.init⟩

end Sys2Proof.Machine
end

