-- ==== Sys2Proof/Machine/Update.lean ====
section
/-!
DEFINITION. One named update per field of the state: `d.onClk f` is `d` with its `clk` field changed by `f`. What each
leaves alone is said once in Laws/State.lean.
-/
namespace Sys2Proof.Machine

/-- Change the field `regs`. -/
def Dev.onRegs (d : Dev) (f : (List (Nat × Word)) → (List (Nat × Word))) : Dev := { d with regs := f d.regs }

/-- Change the field `shadow`. -/
def Dev.onShadow (d : Dev) (f : (List (Nat × Pending)) → (List (Nat × Pending))) : Dev := { d with shadow := f d.shadow }

/-- Change the field `mem`. -/
def Dev.onMem (d : Dev) (f : (List (Nat × Word)) → (List (Nat × Word))) : Dev := { d with mem := f d.mem }

/-- Change the field `ecc`. -/
def Dev.onEcc (d : Dev) (f : (List (Nat × Bool)) → (List (Nat × Bool))) : Dev := { d with ecc := f d.ecc }

/-- Change the field `orders`. -/
def Dev.onOrders (d : Dev) (f : (List Order) → (List Order)) : Dev := { d with orders := f d.orders }

/-- Change the field `sup`. -/
def Dev.onSup (d : Dev) (f : Supply → Supply) : Dev := { d with sup := f d.sup }

/-- Change the field `slack`. -/
def Dev.onSlack (d : Dev) (f : Slack → Slack) : Dev := { d with slack := f d.slack }

/-- Change the field `clk`. -/
def Dev.onClk (d : Dev) (f : Clock → Clock) : Dev := { d with clk := f d.clk }

/-- Change the field `tide`. -/
def Dev.onTide (d : Dev) (f : Tide → Tide) : Dev := { d with tide := f d.tide }

/-- Change the field `tmr`. -/
def Dev.onTmr (d : Dev) (f : (List (Nat × TmrCh)) → (List (Nat × TmrCh))) : Dev := { d with tmr := f d.tmr }

/-- Change the field `links`. -/
def Dev.onLinks (d : Dev) (f : (List Link) → (List Link)) : Dev := { d with links := f d.links }

/-- Change the field `seqPrev`. -/
def Dev.onSeqPrev (d : Dev) (f : (Option Nat) → (Option Nat)) : Dev := { d with seqPrev := f d.seqPrev }

/-- Change the field `asleep`. -/
def Dev.onAsleep (d : Dev) (f : Bool → Bool) : Dev := { d with asleep := f d.asleep }

/-- Change the field `revertDue`. -/
def Dev.onRevertDue (d : Dev) (f : (List Nat) → (List Nat)) : Dev := { d with revertDue := f d.revertDue }

/-- Change the field `held`. -/
def Dev.onHeld (d : Dev) (f : (List (Nat × Nat)) → (List (Nat × Nat))) : Dev := { d with held := f d.held }

/-- Change the field `engC`. -/
def Dev.onEngC (d : Dev) (f : EngState → EngState) : Dev := { d with engC := f d.engC }

/-- Change the field `engL`. -/
def Dev.onEngL (d : Dev) (f : EngState → EngState) : Dev := { d with engL := f d.engL }

/-- Change the field `engR`. -/
def Dev.onEngR (d : Dev) (f : EngState → EngState) : Dev := { d with engR := f d.engR }

/-- Change the field `collarRun`. -/
def Dev.onCollarRun (d : Dev) (f : Nat → Nat) : Dev := { d with collarRun := f d.collarRun }

/-- Change the field `traceHeld`. -/
def Dev.onTraceHeld (d : Dev) (f : (List Word) → (List Word)) : Dev := { d with traceHeld := f d.traceHeld }

/-- Change the field `traceN`. -/
def Dev.onTraceN (d : Dev) (f : Nat → Nat) : Dev := { d with traceN := f d.traceN }

/-- Change the field `sleepTick`. -/
def Dev.onSleepTick (d : Dev) (f : Nat → Nat) : Dev := { d with sleepTick := f d.sleepTick }

/-- Change the field `tdcA`. -/
def Dev.onTdcA (d : Dev) (f : TdcUnit → TdcUnit) : Dev := { d with tdcA := f d.tdcA }

/-- Change the field `tdcB`. -/
def Dev.onTdcB (d : Dev) (f : TdcUnit → TdcUnit) : Dev := { d with tdcB := f d.tdcB }

/-- Change the field `usf`. -/
def Dev.onUsf (d : Dev) (f : Usf → Usf) : Dev := { d with usf := f d.usf }

/-- Change the field `adc`. -/
def Dev.onAdc (d : Dev) (f : Adc → Adc) : Dev := { d with adc := f d.adc }

/-- Change the field `nextId`. -/
def Dev.onNextId (d : Dev) (f : Nat → Nat) : Dev := { d with nextId := f d.nextId }

/-- Change the field `detect`. -/
def Dev.onDetect (d : Dev) (f : (List (Nat × Nat)) → (List (Nat × Nat))) : Dev := { d with detect := f d.detect }

/-- Change the field `swapAcc`. -/
def Dev.onSwapAcc (d : Dev) (f : (List (Nat × Nat × Nat)) → (List (Nat × Nat × Nat))) : Dev := { d with swapAcc := f d.swapAcc }

/-- Change the field `met`. -/
def Dev.onMet (d : Dev) (f : Met → Met) : Dev := { d with met := f d.met }

/-- Change the field `loop`. -/
def Dev.onLoop (d : Dev) (f : Loop → Loop) : Dev := { d with loop := f d.loop }

/-- Change the field `heldOrders`. -/
def Dev.onHeldOrders (d : Dev) (f : (List Held) → (List Held)) : Dev := { d with heldOrders := f d.heldOrders }

/-- Change the field `pocket`. -/
def Dev.onPocket (d : Dev) (f : (List (Nat × KeySlot)) → (List (Nat × KeySlot))) : Dev := { d with pocket := f d.pocket }

/-- Change the field `radio`. -/
def Dev.onRadio (d : Dev) (f : Radio → Radio) : Dev := { d with radio := f d.radio }

/-- Change the field `freeN`. -/
def Dev.onFreeN (d : Dev) (f : Nat → Nat) : Dev := { d with freeN := f d.freeN }

/-- Change the field `col`. -/
def Dev.onCol (d : Dev) (f : Col → Col) : Dev := { d with col := f d.col }

/-- Change the field `label`. -/
def Dev.onLabel (d : Dev) (f : Label → Label) : Dev := { d with label := f d.label }

/-- Change the field `bist`. -/
def Dev.onBist (d : Dev) (f : Bist → Bist) : Dev := { d with bist := f d.bist }

/-- Change the field `pads`. -/
def Dev.onPads (d : Dev) (f : Pads → Pads) : Dev := { d with pads := f d.pads }

/-- Change the field `port`. -/
def Dev.onPort (d : Dev) (f : Port → Port) : Dev := { d with port := f d.port }

/-- Change the field `dport`. -/
def Dev.onDport (d : Dev) (f : Port → Port) : Dev := { d with dport := f d.dport }

/-- Change the field `quiesce`. -/
def Dev.onQuiesce (d : Dev) (f : Quiesce → Quiesce) : Dev := { d with quiesce := f d.quiesce }

/-- Change the field `stepDue`. -/
def Dev.onStepDue (d : Dev) (f : (List Eng) → (List Eng)) : Dev := { d with stepDue := f d.stepDue }

/-- Change the field `busHeld`. -/
def Dev.onBusHeld (d : Dev) (f : Bool → Bool) : Dev := { d with busHeld := f d.busHeld }

/-- Change the field `raised`. -/
def Dev.onRaised (d : Dev) (f : (List Nat) → (List Nat)) : Dev := { d with raised := f d.raised }

end Sys2Proof.Machine
end

