-- ==== Sys2Proof/Machine/Ops.lean ====
section
/-!
DEFINITION. The named operations over words, registers and memory that every block uses.
-/
namespace Sys2Proof.Machine

/-! ## Bit fields -/

/-- Bits `hi`..`lo` of a word, as a number (R2). -/
def bitsOf (w : Word) (hi lo : Nat) : Nat := (w.toNat >>> lo) % 2 ^ (hi + 1 - lo)

/-- The word with ones in `hi`..`lo`. -/
def maskOf (hi lo : Nat) : Word := BitVec.ofNat 72 ((2 ^ (hi + 1 - lo) - 1) <<< lo)

/-- `v`, reduced to the field's width, in the place `hi`..`lo`. -/
def placed (hi lo v : Nat) : Word := BitVec.ofNat 72 ((v % 2 ^ (hi + 1 - lo)) <<< lo)

/-- `w` with bits `hi`..`lo` replaced by `v`. -/
def withBits (w : Word) (hi lo v : Nat) : Word := (w &&& ~~~(maskOf hi lo)) ||| placed hi lo v

/-- The bits of `v` where `mask` has ones, those of `w` elsewhere. -/
def mergeMask (w mask v : Word) : Word := (w &&& ~~~mask) ||| (v &&& mask)

/-- Sign extension of an `n`-bit number (R5). -/
def signed (n v : Nat) : Int := if v % 2 ^ n < 2 ^ (n - 1) then (v % 2 ^ n : Nat) else (v % 2 ^ n : Nat) - (2 ^ n : Nat)

/-- Two's complement of an integer in `n` bits. -/
def unsigned (n : Nat) (v : Int) : Nat := (v % (2 ^ n : Nat)).toNat


/-- A word that holds an integer on its own (R5). -/
def Word.ofI (v : Int) : Word := BitVec.ofInt 72 v

/-- A word that holds an unsigned quantity on its own (R5). -/
def Word.ofN (v : Nat) : Word := BitVec.ofNat 72 v

/-- One more, no further than `top`. -/
def satInc (top v : Nat) : Nat := if v < top then v + 1 else top

/-- `v`, no further than `top`. -/
def satTo (top v : Nat) : Nat := min top v

/-- n / d as a whole number where the spec names no rounding: one of the two whole numbers beside it (log 9). -/
def near (n : Int) (d : Nat) : Int := if n % d = 0 then n / d else if Config.roundsUp n d then n / d + 1 else n / d

/-- n / d rounded to nearest where the spec says no more; which way a tie goes is open (log 9). -/
def roundOpen (n : Int) (d : Nat) : Int :=
  if 2 * (n % d) < d then n / d else if (d : Int) < 2 * (n % d) then n / d + 1 else near n d

/-- The quotient n / m of measured quantities as a fraction with a divisor above zero. DESIGN CHOICE 39: over a divisor of zero
it is a free value. -/
def ratio (n m : Nat) : Nat × Nat := if m = 0 then (Config.openQuotient n, 1) else (n, m)

/-! ## Registers -/

/-- The register at word address `a`, as it stands (R8: the value in effect). -/
def Dev.reg (d : Dev) (a : Nat) : Word := Store.get resetWord d.regs a

/-- Store a register. -/
def Dev.setReg (d : Dev) (a : Nat) (w : Word) : Dev := d.onRegs (fun r => Store.set resetWord r a w)

/-- A field's value. -/
def Dev.get (d : Dev) (f : Fld) : Nat := bitsOf (d.reg f.addr) f.hi f.lo

/-- A one-bit field, read as a truth value. -/
def Dev.flag (d : Dev) (f : Fld) : Bool := d.get f == 1

/-- A two's complement field's value. -/
def Dev.getS (d : Dev) (f : Fld) : Int := signed (f.hi + 1 - f.lo) (d.get f)

/-- Store a field, the register's other bits as they were. -/
def Dev.put (d : Dev) (f : Fld) (v : Nat) : Dev := d.setReg f.addr (withBits (d.reg f.addr) f.hi f.lo v)

/-- Store a two's complement field. -/
def Dev.putS (d : Dev) (f : Fld) (v : Int) : Dev := d.put f (unsigned (f.hi + 1 - f.lo) v)

/-- Set or clear a one-bit field. -/
def Dev.putB (d : Dev) (f : Fld) (b : Bool) : Dev := d.put f b.toNat

/-- Count one up in a field that saturates at its largest value. -/
def Dev.bump (d : Dev) (f : Fld) : Dev := d.put f (satInc (2 ^ (f.hi + 1 - f.lo) - 1) (d.get f))


/-- A field's value after R13. -/
def legal (r : Rng) (width v : Nat) : Nat :=
  match r with
  | .any => v
  | .clamp lo hi => max lo (min hi v)
  | .clampS lo hi => unsigned width (max lo (min hi (signed width v)))
  | .safe lo hi code => if lo ≤ v && v ≤ hi then code else v

/-! ## Pending values -/

/-- The pending bits of a register. -/
def Dev.pend (d : Dev) (a : Nat) : Pending := Store.get (fun _ => ⟨0, 0⟩) d.shadow a

/-- Make the bits of `mask` pending with the values of `v`: the last write stands (R11). -/
def Dev.addPend (d : Dev) (a : Nat) (mask v : Word) : Dev :=
  let p := d.pend a
  d.onShadow (fun s => Store.set (fun _ => ⟨0, 0⟩) s a ⟨p.mask ||| mask, mergeMask p.value mask (v &&& mask)⟩)

/-- The pending bits of a register take effect (R8, R10). -/
def Dev.applyPend (d : Dev) (a : Nat) : Dev :=
  let p := d.pend a
  (d.setReg a (mergeMask (d.reg a) p.mask p.value)).onShadow (fun s => Store.erase s a)

/-- Every pending register in the range takes effect. -/
def Dev.applyPendIn (d : Dev) (sel : Nat → Bool) : Dev :=
  (d.shadow.map (·.1)).foldl (fun d a => if sel a then d.applyPend a else d) d

/-- What a read at the shadow address returns: the pending value of each pending field, else the value in effect
(R540). -/
def Dev.shadowRead (d : Dev) (a : Nat) : Word :=
  let p := d.pend a
  mergeMask (d.reg a) p.mask p.value

/-! ## Memory -/

/-- What a word of memory reads as that nothing has written: 0 (SRAM: R170; nonvolatile words: DESIGN CHOICE, log 2);
the Collar ROM reads as its mask contents. -/
def memDflt (a : Nat) : Word := if a < 0x2000 then Config.rom a else 0

/-- A word of memory exists at `a` (R536). -/
def memExists (a : Nat) : Bool :=
  a < 0x4000 || (0x10000 ≤ a && a < 0x20000) || (0x80000 ≤ a && a < 0x100000)

/-- Read a word of memory. -/
def Dev.load (d : Dev) (a : Nat) : Word := Store.get memDflt d.mem a

/-- Write a word of memory; the ROM keeps its contents (R536). A store clears an error mark of the word. -/
def Dev.store (d : Dev) (a : Nat) (w : Word) : Dev :=
  if a < 0x2000 then d
  else (d.onMem (fun m => Store.set memDflt m a w)).onEcc (fun e => Store.erase e a)

/-- Write consecutive words. -/
def Dev.storeAll (d : Dev) (a : Nat) : List Word → Dev
  | [] => d
  | w :: ws => (d.store a w).storeAll (a + 1) ws

/-- Read `n` consecutive words. -/
def Dev.loadAll (d : Dev) (a n : Nat) : List Word := (List.range n).map (fun i => d.load (a + i))

/-- The memory is in its canonical form (log 2). -/
def Memory.wf (m : List (Nat × Word)) : Bool := Store.wf memDflt m

/-! ## Events -/

/-- The sources of R289. -/
abbrev Ev := Nat
namespace Ev
abbrev cycle : Ev := 0
abbrev tmr (n : Nat) : Ev := 1 + n
abbrev slackOpen : Ev := 17
abbrev slackClose : Ev := 18
abbrev clk : Ev := 19
abbrev pwr : Ev := 20
abbrev second : Ev := 21
abbrev hour : Ev := 22
abbrev day : Ev := 23
abbrev tdcDone (u : Nat) : Ev := 24 + u
abbrev usfDone : Ev := 26
abbrev adcDone (u : Nat) : Ev := 27 + u
abbrev instfault : Ev := 29
abbrev met : Ev := 30
abbrev pls : Ev := 31
abbrev loopRx : Ev := 32
abbrev loopTx : Ev := 33
abbrev loopEvt : Ev := 34
abbrev host : Ev := 35
abbrev radioSlot : Ev := 36
abbrev radioRx : Ev := 37
abbrev radioTx : Ev := 38
abbrev mac : Ev := 39
abbrev wurWake : Ev := 40
abbrev lblDone : Ev := 41
abbrev lblFault : Ev := 42
abbrev bistSlice : Ev := 43
abbrev bistFault : Ev := 44
abbrev sealPin : Ev := 45
abbrev arbConflict : Ev := 46
abbrev collarMsg : Ev := 47
abbrev trap : Ev := 48
abbrev mbx : Ev := 49
abbrev seamToCol : Ev := 50
abbrev quiesced : Ev := 51
abbrev dbg : Ev := 52
abbrev partner : Ev := 53
abbrev sw (n : Nat) : Ev := 54 + n
end Ev

/-- A routing register connects to `src` (R293). -/
def routedTo (rt : Word) (src : Nat) : Bool := bitsOf rt 13 13 == 0 && bitsOf rt 5 0 == src

/-- `a` arrivals at one input whose count is `c` (R287, no WAITEV at the same edge). -/
def countAfter (c a : Nat) : Nat := min 3 (c + a)

/-- The inputs of one engine after source `src` is raised `a` times: the counts and the OVF flags (R287). `rt i` is
the routing register of input `i`. -/
def arrive (rt : Nat → Word) (n src a : Nat) (pend ovf : Word) : Word × Word :=
  (List.range n).foldl (fun (po : Word × Word) i =>
    if routedTo (rt i) src then
      let c := bitsOf po.1 (2 * i + 1) (2 * i)
      (withBits po.1 (2 * i + 1) (2 * i) (countAfter c a), if c + a > 3 then withBits po.2 i i 1 else po.2)
    else po) (pend, ovf)

/-- Sources 62 and 63 are never raised, and no source raises anything else (R289). -/
def raisable (src : Nat) : Bool := src < 62

/-- The quiesce target that a source belongs to (R285, R289, R539); the router's own, the Collar's and the Tideline's have none. -/
def sourceTarget (src : Nat) : Option (Nat × Nat) :=
  if 1 ≤ src && src ≤ 16 then some (4, 0)
  else if 17 ≤ src && src ≤ 19 then some (2, 0)
  else if src = 20 then some (1, 0)
  else if src = 24 || src = 25 then some (7, src - 24)
  else if src = 27 || src = 28 then some (9, src - 27)
  else if src = 29 || src = 30 then some (10, 0)
  else if src = 31 then some (11, 0)
  else if 32 ≤ src && src ≤ 34 then some (12, 0)
  else if src = 35 then some (13, 0)
  else if 36 ≤ src && src ≤ 38 then some (14, 0)
  else if src = 39 then some (15, 0)
  else if src = 40 then some (16, 0)
  else if src = 41 || src = 42 then some (17, 0)
  else if src = 43 || src = 44 then some (18, 0)
  else if src = 52 then some (19, 0)
  else none

/-- A source of a held target raises nothing, but for the done events of the quiesce that holds it (R285). -/
def Dev.silent (d : Dev) (src : Nat) : Bool :=
  match sourceTarget src with
  | none => false
  | some t => d.held.contains t && d.quiesce.now != some t

/-- A capture input of some channel selects the router source `src` (R145). -/
def Dev.tapped (d : Dev) (src : Nat) : Bool :=
  (List.range 16).any (fun n => d.get (F.TMR_CAPSEL_CAPA n) == src || (decide (n < 8) && d.get (F.TMR_CAPSEL_CAPB n) == src))

/-- A source that a capture input selects is kept for the captures at the command's end (R145). -/
def Dev.tap (d : Dev) (src : Nat) : Dev := if d.tapped src then d.onRaised (fun l => l ++ [src]) else d

/-- Raise source `src` `a` times at one edge (R287, R289). In PAIRED the Right Sleeve's inputs are held disconnected
(R291). -/
def Dev.raiseN (d : Dev) (src a : Nat) : Dev :=
  if raisable src && !d.silent src then
    let l := arrive (fun i => d.reg (F.EVT_RTL i)) 32 src a (d.reg F.EVT_PENDL) (d.reg F.EVT_OVFL)
    let r := if d.flag F.COLLAR_CHTAB_PAIRED then (d.reg F.EVT_PENDR, d.reg F.EVT_OVFR)
      else arrive (fun i => d.reg (F.EVT_RTR i)) 32 src a (d.reg F.EVT_PENDR) (d.reg F.EVT_OVFR)
    let c := arrive (fun i => d.reg (F.EVT_RTC i)) 16 src a (d.reg F.EVT_PENDC) (d.reg F.EVT_OVFC)
    ((((((d.tap src).setReg F.EVT_PENDL l.1).setReg F.EVT_OVFL l.2).setReg F.EVT_PENDR r.1).setReg F.EVT_OVFR r.2).setReg
      F.EVT_PENDC c.1).setReg F.EVT_OVFC c.2
  else d

/-- Raise a source once. -/
def Dev.raise (d : Dev) (src : Nat) : Dev := d.raiseN src 1

/-- Set a W1C event bit; where it was clear it raises its router source (R69, R131, and each block's like rule). -/
def Dev.event (d : Dev) (f : Fld) (src : Nat) : Dev := if d.flag f then d else (d.put f 1).raise src

/-! Causes of HOST_IRQ (R416). -/
namespace Irq
abbrev start : Nat := 0
abbrev fullRate : Nat := 1
abbrev hold : Nat := 2
abbrev shutdown : Nat := 3
abbrev mbxDone : Nat := 4
abbrev seamGiven : Nat := 5
abbrev mode : Nat := 6
abbrev loopAlarm : Nat := 7
abbrev partner : Nat := 8
abbrev check : Nat := 9
end Irq

/-- A cause of HOST_IRQ is set; where it was clear the HOST event is raised (R289, R416). -/
def Dev.irq (d : Dev) (cause : Nat) : Dev := d.event ⟨F.HOST_IRQ, cause, cause⟩ Ev.host

end Sys2Proof.Machine
end

