-- ==== Sys2Proof/Machine/Log.lean ====
section
/-!
DEFINITION. The legal log: its ring of records and the chain (R259 to R262), written by the Collar.
-/
namespace Sys2Proof.Machine


/-- One record to write: TYPE, SRC (a master class, or 15 for the device), CHAN (127 for none), payloads A and B, and
the payload words of its continuations (R259). -/
structure LogRec where
  ty : Nat
  src : Nat
  chan : Nat
  a : Word
  b : Nat
  conts : List (Word × Word × Nat)
deriving DecidableEq, Repr

/-- The record's address in the ring (R259, R261). -/
def logAddr (seq : Nat) : Nat := 0x88000 + 4 * (seq % 6144)

/-- Word 0 of a record (R259). -/
def logWord0 (ty src mode cont chan seq : Nat) : Word :=
  Word.ofN (ty % 256 * 2 ^ 64 + src % 16 * 2 ^ 60 + mode % 8 * 2 ^ 57 + cont % 4 * 2 ^ 55 + chan % 128 * 2 ^ 48
    + seq % 2 ^ 48)

/-- CHAIN of a record: the leftmost 32 bits of SHA-256 over the previous CHAIN and the record's content, each item as 9 bytes (R260; log 23). -/
@[irreducible] def chainOf (prev : Nat) (w0 w1 w2 : Word) (b : Nat) : Nat :=
  bytesNat ((sha256 (natBytes 9 prev ++ wordBytes w0 ++ wordBytes w1 ++ wordBytes w2 ++ natBytes 9 b)).take 4)

/-- Write one four-word record at the next place of the ring; word 3 last (R259 to R261). -/
def Dev.logOne (d : Dev) (ty src cont chan : Nat) (w1 w2 : Word) (b : Nat) : Dev :=
  let seq := d.get F.COLLAR_LOGSTAT_NEXT
  let prev := if seq = 0 then 0 else bitsOf (d.load (logAddr (seq + 6143) + 3)) 31 0
  let w0 := logWord0 ty src (d.get F.SYS_MODE_MODE) cont chan seq
  let w3 := Word.ofN (b % 2 ^ 40 * 2 ^ 32 + chainOf prev w0 w1 w2 (b % 2 ^ 40))
  let d1 := d.storeAll (logAddr seq) [w0, w1, w2, w3]
  let d2 := d1.put F.COLLAR_LOGSTAT_NEXT (seq + 1)
  if seq < 6144 then d2 else d2.bump F.COLLAR_LOGSTAT_LOST

/-- The continuation records of a record, TYPE 0xFF (R259). -/
def Dev.logConts (d : Dev) (src chan : Nat) : List (Word × Word × Nat) → Dev
  | [] => d
  | (w1, w2, b) :: cs => (d.logOne 0xFF src cs.length chan w1 w2 b).logConts src chan cs

/-- Write a record and its continuations: word 1 carries TIDE_SEC (R259). -/
def Dev.log (d : Dev) (r : LogRec) : Dev :=
  (d.logOne r.ty r.src r.conts.length r.chan (d.reg F.TIDE_SEC) r.a r.b).logConts r.src r.chan r.conts

/-- A record of the device itself that carries no payload. -/
def Dev.note (d : Dev) (ty : Nat) : Dev := d.log ⟨ty, 15, 127, 0, 0, []⟩

/-- A record of the device itself with payloads A and B right-aligned (R5). -/
def Dev.noteAB (d : Dev) (ty chan a b : Nat) : Dev := d.log ⟨ty, 15, chan, Word.ofN a, b, []⟩

/-- A record of the device itself whose payload A names several values: their places are open (log 6). -/
def Dev.noteVals (d : Dev) (ty chan : Nat) (vals : List Nat) : Dev :=
  d.log ⟨ty, 15, chan, Config.payload ty 0 vals, bitsOf (Config.payload ty 1 vals) 71 32, []⟩

/-- The number of records written so far, continuations included. -/
def Dev.logNext (d : Dev) : Nat := d.get F.COLLAR_LOGSTAT_NEXT

end Sys2Proof.Machine
end

