-- ==== Sys2Proof/Machine/Alarm.lean ====
section
/-!
DEFINITION. ALARM-class messages and distress (spec/14_radio.md R455, R457 to R459), which every block may raise.
-/
namespace Sys2Proof.Machine

/-- A value that no rule determines, and the counter one up (log 15). -/
def Dev.free (d : Dev) : Nat × Dev := (Config.freeValue d.freeN, d.onFreeN (· + 1))

/-! Alarm codes (R455). -/
namespace AlarmCode
abbrev loopLost : Nat := 1
abbrev vigilFlow : Nat := 2
abbrev hold : Nat := 3
abbrev instfault : Nat := 4
abbrev cellLow : Nat := 5
abbrev shutdown : Nat := 6
abbrev sealOpen : Nat := 7
abbrev pathLost : Nat := 8
end AlarmCode

/-- DISTRESS_START: the parent is lost, the ALARM queue is not empty and the device is synchronised (R458, R459). -/
def Dev.distressStart (d : Dev) : Dev :=
  if d.radio.lost && !d.radio.alarms.isEmpty && !d.flag F.MAC_STAT_DESYNC && !d.flag F.MAC_STAT_DISTRESS then
    ((d.put F.MAC_STAT_DISTRESS 1).event F.MAC_EVT_DISTON Ev.mac).note 0x55
  else d

/-- DISTRESS_END (R459). -/
def Dev.distressEnd (d : Dev) : Dev :=
  if d.flag F.MAC_STAT_DISTRESS then ((d.put F.MAC_STAT_DISTRESS 0).event F.MAC_EVT_DISTOFF Ev.mac).note 0x56 else d

/-- An ALARM is queued, or replaces the detail of the queued one of its code (R455). The detail word's content no chapter
states (log 6). -/
def Dev.pushAlarm (d : Dev) (code : Nat) (vals : List Nat) : Dev :=
  let detail := Config.payload (256 + code) 0 vals
  if (d.get F.MAC_ALM_EN >>> (code - 1)) % 2 = 0 then d
  else if d.radio.alarms.any (fun a => a.code == code) then
    d.onRadio (fun r => { r with alarms := r.alarms.map (fun a => if a.code = code then { a with detail := detail } else a) })
  else
    let a : RAlarm := ⟨code, d.radio.rseq, d.reg F.TIDE_SEC, detail, 0, 0, 0, none⟩
    (d.onRadio (fun r => { r with alarms := r.alarms ++ [a], rseq := (r.rseq + 1) % 65536 })).distressStart

end Sys2Proof.Machine
end

