-- ==== Sys2Proof/Machine/Clock.lean ====
section
/-!
DEFINITION. SYSCLK and its sources, the PLL, the spread profile, the frequency fence and EXTREF
(spec/04_clock_and_tideline.md R103 to R119).
-/
namespace Sys2Proof.Machine

/-- Billing seconds now. -/
def Dev.seconds (d : Dev) : Nat := d.get F.TIDE_SEC_SEC

/-- The mean frequency of a source in Hz (R109). -/
def meanOf (src depth : Nat) : Nat :=
  match src with
  | 0 => 32768
  | 1 => 32000000
  | _ => 48000 * (2000 - depth)

/-- CLK_MEAN follows each source or depth change (R108, R109). -/
def Dev.updateMean (d : Dev) : Dev := d.put F.CLK_MEAN_FREQ (meanOf (d.get F.CLK_STAT_SRC) d.clk.depth)

/-- DEPTH as written takes effect (R110). -/
def Dev.spreadApply (d : Dev) : Dev :=
  let v := d.get F.CLK_SPREAD_DEPTH
  (d.onClk (fun c => { c with depth := v })).updateMean

/-- The spread profile goes on to place `p` (0 to 99); a written DEPTH takes effect where the way there passes step k = 0. A held profile stays, and
there is none in lean run and in sleep (R22, R109, R110). -/
def Dev.profileAt (d : Dev) (p : Nat) : Dev :=
  if d.get F.CLK_STAT_SRC != 2 || d.flag F.CLK_STAT_SPR_HELD then d
  else
    let q := p % 100
    let x := if q < d.clk.spreadPos || q = 0 then d.spreadApply else d
    x.onClk (fun c => { c with spreadPos := q })

/-- The places of the spread profile between the ticks `t` and `t + n`: an LF tick is 97.65625 steps of 312.5 ns (R109; the crystals' errors left
out, DESIGN CHOICE, log 102). -/
def profileSteps (t n : Nat) : Nat := (t + n) * 3125 / 32 - t * 3125 / 32

/-- The spread profile runs on for `n` LF ticks (R109, R110). -/
def Dev.profileTicks (d : Dev) (n : Nat) : Dev :=
  let p := d.clk.spreadPos + profileSteps (d.get F.TIDE_TICKS_TICKS) n
  if p < 100 then d.profileAt p
  else (d.profileAt 0).profileAt (p % 100)

/-- SUBST of channel `n`: a fine channel that is to count EXTREF counts SYSCLK (R134). -/
def Dev.showSubst (d : Dev) (n : Nat) : Dev :=
  if n < 8 then
    d.putB (F.TMR_STAT_SUBST n)
      (d.get (F.TMR_CFG_SRC n) == 2 && d.flag (F.TMR_STAT_RUN n) && !(d.flag F.CLK_STAT_XREF_OK && d.get F.CLK_STAT_SRC != 0))
  else d

/-- SUBST of every channel. -/
def Dev.updateSubst (d : Dev) : Dev := (List.range 8).foldl (fun d n => d.showSubst n) d

/-- The tree moves to `src`. -/
def Dev.setSrc (d : Dev) (src : Nat) : Dev := ((d.put F.CLK_STAT_SRC src).updateMean).updateSubst

/-- Ask for a source change: deferred to the close of an open slack-water window (R105), else through the gate. -/
def Dev.requestSrc (d : Dev) (src : Nat) : Dev := d.onClk (fun c => { c with pendingSrc := some src })

/-- A lock sequence starts: the tree on the HF crystal, RELOCK set, the PLL fields latched (R107, R108 steps 1, 2). -/
def Dev.startLock (d : Dev) : Dev :=
  let d := ((d.setSrc 1).put F.CLK_STAT_RELOCK 1).put F.CLK_STAT_LOCK 0
  d.onClk (fun c => { c with pllUse := d.reg F.CLK_PLL, pendingSrc := none })

/-- The PLL is released and the tree is on the HF crystal. -/
def Dev.leavePll (d : Dev) : Dev :=
  let d := ((d.setSrc 1).put F.CLK_STAT_RELOCK 0).put F.CLK_STAT_LOCK 0
  d.onClk (fun c => { c with pendingSrc := none })

/-- Full run is left (R59): the tree's change from the PLL waits for the close of an open slack-water window (R105). -/
def Dev.toLean (d : Dev) : Dev :=
  if d.flag F.CLK_SLKSTAT_OPEN && d.get F.CLK_STAT_SRC == 2 then d.requestSrc 1 else d.leavePll

/-- R108 steps 4 to 6: the tree on the PLL, spreading from the top of its profile with the DEPTH written, RELOCK clear. -/
def Dev.finishLock (d : Dev) : Dev :=
  let d := ((d.setSrc 2).put F.CLK_STAT_RELOCK 0).spreadApply
  (d.onClk (fun c => { c with spreadPos := 0, pendingSrc := none })).event F.CLK_EVT_LOCKED Ev.clk

/-- CLK_SWITCH: a requested source change completes; never while a window is open (R104, R105). -/
def Dev.clkSwitch (d : Dev) : Dev :=
  match d.clk.pendingSrc with
  | none => d
  | some s =>
    if d.flag F.CLK_SLKSTAT_OPEN then d
    else if s = 2 && d.flag F.CLK_STAT_LOCK then d.finishLock
    else if s = 1 && d.get F.CLK_STAT_SRC = 2 then d.leavePll
    else (d.onClk (fun c => { c with pendingSrc := none })).setSrc s

/-- PLL_LOCK_DETECT (R107, R108 step 3). -/
def Dev.pllLockDetect (d : Dev) : Dev := if d.flag F.CLK_STAT_RELOCK then d.put F.CLK_STAT_LOCK 1 else d

/-- PLL_SWITCH: 64 reference cycles after lock detect; in a window the change waits for the close (R105, R108). While the PLL is declared failed
the tree stays on the HF crystal: the sequence ends with the lock alone, which then has to hold (R112; DEDUCED, log 103). -/
def Dev.pllSwitch (d : Dev) : Dev :=
  if d.flag F.CLK_STAT_RELOCK && d.flag F.CLK_STAT_LOCK then
    if d.flag F.CLK_STAT_PLL_FAIL then d.put F.CLK_STAT_RELOCK 0
    else if d.flag F.CLK_SLKSTAT_OPEN then d.requestSrc 2 else d.finishLock
  else d

/-- T1's period in LF ticks for a supply regime (R49, R59). -/
def periodOf (base : Nat) : Nat :=
  match base with
  | 1 => 32768
  | 2 => 65536
  | 3 => 131072
  | _ => 262144

/-- The Collar writes T1's CMP0 preload: the new period runs from the next boundary (R155). -/
def Dev.setT1 (d : Dev) (ticks : Nat) : Dev := d.addPend (F.TMR_CMP0 1) (maskOf 47 0) (Word.ofN ticks)

/-- The period T1 is set to, pending value included. -/
def Dev.t1Period (d : Dev) : Nat := bitsOf (d.shadowRead (F.TMR_CMP0 1)) 47 0

/-- The PLL is declared failed: the crystal, T1 no shorter than 2 s, the record (R112). -/
def Dev.pllFail (d : Dev) : Dev :=
  if d.flag F.CLK_STAT_PLL_FAIL then d
  else
    let d := (((d.put F.CLK_STAT_PLL_FAIL 1).event F.CLK_EVT_PLL_FAILED Ev.clk).note 0x24).event F.BIST_EVT_FAIL Ev.bistFault
    let d := d.onClk (fun c => { c with lockHeld := false })
    if d.t1Period < 65536 then d.setT1 65536 else d

/-- PLL_LOCK_TIMEOUT: lock detect has not asserted within 250 µs, the attempt fails (R108, R112). -/
def Dev.pllLockTimeout (d : Dev) : Dev :=
  if d.flag F.CLK_STAT_RELOCK && !d.flag F.CLK_STAT_LOCK then (d.toLean).pllFail else d

/-- FENCE_TRIP: the rate comparator counted `count` edges in 1 µs (R111); three trips in 60 s fail the PLL (R112). -/
def Dev.fenceTrip (d : Dev) (count : Nat) : Dev :=
  if count < 99 || d.get F.CLK_STAT_SRC != 2 then d
  else
    let now := d.seconds
    let trips := now :: d.clk.trips.filter (fun t => now ≤ t + 60)
    let d := if d.flag F.CLK_SLKSTAT_OPEN then d.put F.CLK_SLKSTAT_DIST 1 else d
    let d := (d.setSrc 1).bump F.CLK_STAT_FENCE_N
    let d := (((d.put F.CLK_EVT_FENCE 1).raise Ev.clk).note 0x23)
    let d := d.onClk (fun c => { c with trips := trips })
    let d := if trips.length ≥ 3 then d.pllFail else d
    d.startLock

/-- At a cycle boundary while the PLL is failed: a lock that has held for a full command cycle clears PLL_FAIL, restores the mode's period and
takes the tree to the PLL; else the lock is tried again (R112). A state in lean run has no lock sequence: the attempt waits for full run
(R59, R108; DEDUCED, log 95), and none runs while SYSCLK is still on the LF crystal (R106). `full`: the run state is full run. -/
def Dev.pllBoundary (d : Dev) (full : Bool) (period : Nat) : Dev :=
  if !d.flag F.CLK_STAT_PLL_FAIL || d.asleep || d.get F.CLK_STAT_SRC = 0 || !full then d
  else if d.flag F.CLK_STAT_LOCK && !d.flag F.CLK_STAT_RELOCK then
    if d.clk.lockHeld then
      let d := ((((d.put F.CLK_STAT_PLL_FAIL 0).note 0x25).event F.BIST_EVT_RESTORED Ev.bistFault).setT1 period).onClk (fun c => { c with lockHeld := false })
      if d.flag F.CLK_SLKSTAT_OPEN then d.requestSrc 2 else d.finishLock
    else d.onClk (fun c => { c with lockHeld := true })
  else d.startLock.onClk (fun c => { c with lockHeld := false })

/-! ## Ageing and EXTREF -/

/-- A correction in ppb from a trim and an ageing rate (R123): TRIM + AGE × years, clamped. The spec does not state how
a fraction of a ppb is rounded: a free value then (log 8). -/
def ageing (trim age : Int) (sec epoch : Nat) : Int :=
  let num := trim * 31557600 + age * ((sec - epoch : Nat) : Int)
  let e := if num % 31557600 = 0 then num / 31557600 else Config.ppbRound num
  max (-300000) (min 300000 e)

/-- The HF crystal error in use (R119). -/
def Dev.updateHferr (d : Dev) : Dev :=
  if d.flag F.CLK_XERR_HFV then
    (d.put F.CLK_HFERR_SRC 1).putS F.CLK_HFERR_ERR (d.getS F.CLK_XERR_HFERR)
  else
    (d.put F.CLK_HFERR_SRC 0).putS F.CLK_HFERR_ERR
      (ageing (d.getS F.CLK_HFCOR_TRIM) (d.getS F.CLK_HFCOR_AGE) d.seconds (d.get F.TIDE_AGE0_EPOCH))

/-- EXTREF changes presence; for the TDC the change waits for the end of an open window (R117). Its results are valid
only while it is present (R118). -/
def Dev.setXref (d : Dev) (up : Bool) : Dev :=
  if d.flag F.CLK_STAT_XREF_OK = up then d
  else
    let d := (d.putB F.CLK_STAT_XREF_OK up).updateSubst
    let d := (d.put (if up then F.CLK_EVT_XREF_UP else F.CLK_EVT_XREF_LOST) 1).raise Ev.clk
    let d := if up then d else ((d.put F.CLK_XERR_HFV 0).put F.CLK_XERR_LFV 0).updateHferr
    if d.flag F.CLK_SLKSTAT_OPEN then d else d.onClk (fun c => { c with xrefTdc := up })

/-- XREF_WINDOW: 1,024 LF ticks counted `count` EXTREF edges; four windows within 2 % make EXTREF present, one outside
5 % absent (R117). -/
def Dev.xrefWindow (d : Dev) (count : Nat) : Dev :=
  if !d.flag F.CLK_XREF_EN || d.get F.CLK_STAT_SRC = 0 then d
  else
    let want := 125 * d.get F.CLK_XREF_FNOM
    let off := (4 * count - want) + (want - 4 * count)
    let good := if 50 * off ≤ want then d.clk.xrefGood + 1 else 0
    let d := d.onClk (fun c => { c with xrefGood := satTo 4 good })
    if 20 * off > want then d.setXref false else if good ≥ 4 then d.setXref true else d

/-- XREF_TIMEOUT: no EXTREF edge for 2 µs (R117). -/
def Dev.xrefTimeout (d : Dev) : Dev :=
  if !d.flag F.CLK_XREF_EN || d.get F.CLK_STAT_SRC = 0 then d else (d.onClk (fun c => { c with xrefGood := 0 })).setXref false

/-- XREF_GATE_END: the gate measured both crystals' errors (R118, R119). -/
def Dev.xrefGateEnd (d : Dev) (hf lf : Int) : Dev :=
  if d.flag F.CLK_STAT_XREF_OK && d.get F.CLK_STAT_SRC != 0 then
    ((((d.putS F.CLK_XERR_HFERR hf).putS F.CLK_XERR_LFERR lf).put F.CLK_XERR_HFV 1).put F.CLK_XERR_LFV 1).updateHferr
  else d

/-- LF_READY: 64 regular LF edges (R103). -/
def Dev.lfReady (d : Dev) : Dev := d.put F.CLK_STAT_LF_OK 1

end Sys2Proof.Machine
end

