-- ==== Sys2Proof/Machine/Tideline.lean ====
section
/-!
DEFINITION. The Tideline: ticks, billing seconds, civil offset and weekday (spec/04_clock_and_tideline.md R120 to R130).
-/
namespace Sys2Proof.Machine

/-- K of R121 for a correction e in ppb, in 2^-32 fraction units per tick. -/
def tideK (e : Int) : Int := roundOpen (e * 2199023255552) 1000000000

/-- S of R130 in seconds, and its day number D. -/
def Dev.dayNumber (d : Dev) : Int :=
  let t := (d.reg F.TIDE_SEC).toNat + (d.reg F.TIDE_CIVOFS).toInt
  (t / 16777216 + d.get F.TIDE_WDAY_PHASE) / 86400

/-- The weekday follows the day number from `d0` to `d` (R130). -/
def Dev.followDay (d0 d : Dev) : Dev :=
  let n := d.dayNumber - d0.dayNumber
  if n = 0 then d else d.put F.TIDE_WDAY_WDAY (((d.get F.TIDE_WDAY_WDAY : Int) + n) % 7).toNat

/-- e is formed again, once per billing second (R121, R123); while ticks are substituted it is the HF error (R124). -/
def Dev.recomputeE (d : Dev) : Dev :=
  let d := d.updateHferr
  let e := if d.flag F.CLK_STAT_LF_SUB then d.getS F.CLK_HFERR_ERR
    else ageing (d.reg F.TIDE_TRIM).toInt (d.reg F.TIDE_AGE).toInt d.seconds (d.get F.TIDE_AGE0_EPOCH)
  (d.putS F.TIDE_ECORR_E e).onTide (fun c => { c with e := e })

/-- The errors that the fine channels' steps use for this billing second (R133). -/
def Dev.latchErr (d : Dev) : Dev := d.onClk (fun c => { c with secErr := d.getS F.TIDE_ECORR_E - d.getS F.CLK_HFERR_ERR })

/-- The events of the seconds between `s0` and `s1` of TIDE_SEC (R289): SECOND, HOUR, DAY, once per multiple crossed. -/
def Dev.secondEvents (d : Dev) (s0 s1 : Nat) : Dev :=
  ((d.raiseN Ev.second (s1 - s0)).raiseN Ev.hour (s1 / 3600 - s0 / 3600)).raiseN Ev.day (s1 / 86400 - s0 / 86400)

/-- What a crossed second does in the Tideline itself (R121, R123, R130, R289). -/
def Dev.crossed (d0 d : Dev) : Dev :=
  if d0.seconds < d.seconds then ((d.secondEvents d0.seconds d.seconds).recomputeE).latchErr else d

/-- TIDE_TICKS, the correction phase and TIDE_SEC after `n` LF ticks with one K (R120, R121): the closed form of the loop of R121. TIDE_SEC stands
still while HALTED, and the first tick after a release adds the time since it in place of its step (R125). -/
def Dev.tickBy (d : Dev) (n : Nat) : Dev :=
  if d.flag F.TIDE_CTL_STOPPED || n = 0 then d
  else
    let d := d.put F.TIDE_TICKS_TICKS (d.get F.TIDE_TICKS_TICKS + n)
    let k := tideK d.tide.e
    let p := (d.tide.phase : Int) - n * k
    let x := d.onTide (fun c => { c with phase := (p % 4294967296).toNat })
    if d.flag F.TIDE_CTL_HALTED then x
    else
      let sec : Int := (d.reg F.TIDE_SEC).toNat
      match d.tide.firstStep with
      | none => x.setReg F.TIDE_SEC (BitVec.ofInt 72 (sec + 512 * n + p / 4294967296))
      | some r =>
        let p1 := ((d.tide.phase : Int) - k) / 4294967296
        (x.setReg F.TIDE_SEC (BitVec.ofInt 72 (sec + r + 512 * (n - 1) + (p / 4294967296 - p1)))).onTide (fun c => { c with firstStep := none })

/-- How many ticks take TIDE_SEC to its next whole second or past it with the K in use, one at the least: where none does, no more than `n`. -/
def Dev.ticksToSecond (d : Dev) (n : Nat) : Nat :=
  if d.flag F.TIDE_CTL_STOPPED || d.flag F.TIDE_CTL_HALTED then n
  else if d.tide.firstStep.isSome then 1
  else
    let need : Int := 16777216 - bitsOf (d.reg F.TIDE_SEC) 23 0
    let step := 512 * 4294967296 - tideK d.tide.e
    max 1 (((need * 4294967296 - d.tide.phase + (step - 1)) / step).toNat)

/-- The Tideline runs for `n` LF ticks: time, weekday, and what each crossed second brings, with e and K formed again there (R120 to R130).
`fuel`: how many crossings there are at the most. -/
def Dev.advanceBy (d : Dev) : Nat → Nat → Dev
  | 0, _ => d
  | _ + 1, 0 => d
  | fuel + 1, n =>
    let j := min n (d.ticksToSecond n)
    (Dev.crossed d (Dev.followDay d (d.tickBy j))).advanceBy fuel (n - j)

/-- The Tideline runs for `n` LF ticks. -/
def Dev.advance (d : Dev) (n : Nat) : Dev := d.advanceBy n n

/-- What a read of TIDE_SEC returns: while the chip runs, the value of the last tick plus the SYSCLK time since, no more than a step less one;
in sleep, and while it stands still, the value itself (R122, R125; log 60). -/
def Dev.shownSec (d : Dev) : Word :=
  if d.get F.CLK_STAT_SRC = 0 || d.flag F.TIDE_CTL_HALTED || d.flag F.TIDE_CTL_STOPPED then d.reg F.TIDE_SEC
  else
    let step : Int := match d.tide.firstStep with
      | some r => r
      | none => 512 + ((d.tide.phase : Int) - tideK d.tide.e) / 4294967296
    d.reg F.TIDE_SEC + Word.ofN (Config.sinceTick (d.get F.TIDE_TICKS_TICKS) % max 1 step.toNat)

/-- A halt released: TIDE_SEC holds its value, the next tick adds `rest` units in place of its step, and the Collar
records the set (R125, R126). -/
def Dev.tideRelease (d : Dev) (rest : Nat) (timeout : Bool) : Dev :=
  let dur := d.get F.TIDE_TICKS_TICKS - d.tide.haltTick
  let old := d.tide.haltOld
  let d := (d.put F.TIDE_CTL_HALTED 0).put F.TIDE_CTL_HALT 0
  let d := d.onTide (fun c => { c with firstStep := some rest, relArmed := false })
  let d := if timeout then d.put F.TIDE_CTL_HALT_TO 1 else d
  d.log ⟨0x21, 15, 127, d.reg F.TIDE_SEC, bitsOf (Config.payload 0x21 1 [dur, timeout.toNat]) 71 32, [(old, 0, 0)]⟩

/-- A write of HALT = 1: TIDE_SEC stops at the value it shows (R125 step 1). Written again in a halt it changes nothing, an armed pin release
included (DESIGN CHOICE, log 104). -/
def Dev.tideHalt (d : Dev) : Dev :=
  if d.flag F.TIDE_CTL_HALTED then d
  else
    let v := d.shownSec
    let x := Dev.crossed d (Dev.followDay d (d.setReg F.TIDE_SEC v))
    let x := (x.put F.TIDE_CTL_HALTED 1).put F.TIDE_CTL_HALT 1
    x.onTide (fun c => { c with haltTick := d.get F.TIDE_TICKS_TICKS, haltOld := v, relArmed := false })

/-- A write to TIDE_SEC: stored while HALTED, no lower than the halted value (R125 step 2). -/
def Dev.tideWrite (d : Dev) (v : Word) : Dev :=
  if d.flag F.TIDE_CTL_HALTED then
    Dev.followDay d (d.setReg F.TIDE_SEC (if v.toNat < d.tide.haltOld.toNat then d.tide.haltOld else v))
  else d

/-- A write of HALT = 0: the release with RELSRC = 0, the arming of the pin with RELSRC = 1 (R125 step 3). -/
def Dev.tideHaltClear (d : Dev) (rest : Nat) : Dev :=
  if !d.flag F.TIDE_CTL_HALTED then d.put F.TIDE_CTL_HALT 0
  else if d.flag F.TIDE_CTL_RELSRC then (d.put F.TIDE_CTL_HALT 0).onTide (fun c => { c with relArmed := true })
  else d.tideRelease rest false

/-- TIDE_PIN_RELEASE: a rising edge on the TP pin `pin` (R125 step 3). -/
def Dev.tidePinRelease (d : Dev) (pin rest : Nat) : Dev :=
  if d.flag F.TIDE_CTL_HALTED && d.tide.relArmed && pin == d.get F.TIDE_CTL_RELPIN then d.tideRelease rest false else d

/-- TIDE_HALT_TIMEOUT: a halt has lasted 1 s of ticks (R126). -/
def Dev.tideHaltTimeout (d : Dev) (rest : Nat) : Dev :=
  if d.flag F.TIDE_CTL_HALTED && decide (d.tide.haltTick + 32768 ≤ d.get F.TIDE_TICKS_TICKS) then d.tideRelease rest true else d

/-- The civil offset steps to `v`: the weekday follows, the record carries the signed magnitude and the master's class
(R127, R130). -/
def Dev.stepCivil (d : Dev) (v : Word) (cls : Nat) : Dev :=
  let mag := v.toInt - (d.reg F.TIDE_CIVOFS).toInt
  let d1 := Dev.followDay d (d.setReg F.TIDE_CIVOFS v)
  d1.log ⟨0x22, cls, 127, Word.ofI mag, 0, []⟩

/-- A master delivers its time: `tm` held when TIDE_SEC was `at_` (R127). DEAD counts 10 ms (R127, TIDE_CTL). -/
def Dev.deliverTime (d : Dev) (tm at_ : Word) (cls : Nat) : Dev :=
  let new := tm.toInt - at_.toNat
  let diff := new - (d.reg F.TIDE_CIVOFS).toInt
  let d := if diff.natAbs * 100 ≤ d.get F.TIDE_CTL_DEAD * 16777216 then d else d.stepCivil (Word.ofI new) cls
  d.put F.SYS_START_TIDE_COLD 0

/-- LF_LOSS: no LF edge (R124). `hf`: an HF crystal can run; `gap`: the ticks credited from the RC monitor. -/
def Dev.lfLoss (d : Dev) (hf : Bool) (gap : Nat) : Dev :=
  if d.flag F.CLK_STAT_LF_SUB then d
  else if hf then
    let d := (d.put F.CLK_STAT_LF_OK 0).put F.CLK_STAT_LF_SUB 1
    let d := (d.put F.TIDE_ECORR_SRC 1).event F.CLK_EVT_LF_LOST Ev.clk
    ((d.note 0x26).advance gap).recomputeE
  else (d.put F.CLK_STAT_LF_OK 0).put F.TIDE_CTL_STOPPED 1

/-- LF_RESTORE: LF edges have been regular for 1 s (R124). -/
def Dev.lfRestore (d : Dev) : Dev :=
  if d.flag F.CLK_STAT_LF_SUB then
    let d := ((d.put F.CLK_STAT_LF_SUB 0).put F.CLK_STAT_LF_OK 1).put F.TIDE_ECORR_SRC 0
    (d.note 0x27).recomputeE
  else d

end Sys2Proof.Machine
end

