-- ==== Sys2Proof/Machine/Slack.lean ====
section
/-!
DEFINITION. Slack-water windows as the clock block keeps them (spec/04_clock_and_tideline.md R113 to R115;
spec/01_organisation.md R22, R23; spec/02_power_and_modes.md R42). What the other blocks do when a window opens or closes
stands in Machine/Window.lean.
-/
namespace Sys2Proof.Machine

/-- The addresses of the TDC and USF blocks, whose deferred fields wait for the end of the window (R10, R313, R345). -/
def windowRegs (a : Nat) : Bool := 0x5C00 ≤ a && a < 0x6400

/-- A window length under R13 and R114. -/
def winLen (len : Nat) : Nat := max 20 (min 2000 len)

/-- SYSCLK is not at its run-state source: a source change or a lock sequence is under way, or the chip comes from sleep (R106,
R114). -/
def Dev.clockMoving (d : Dev) : Bool :=
  d.flag F.CLK_STAT_RELOCK || d.clk.pendingSrc.isSome || d.asleep || d.get F.CLK_STAT_SRC == 0

/-- A window request is kept waiting, in arrival order, and DEFER is set (R114). -/
def Dev.deferWin (d : Dev) (r : WinReq) : Dev :=
  (d.onSlack (fun s => { s with waiting := s.waiting ++ [r] })).put F.CLK_SLKSTAT_DEFER 1

/-- A slot in which the device may transmit: a TX link of its network is active at `asn` (R23, R424). -/
def Dev.txSlotAt (d : Dev) (asn : Nat) : Bool :=
  d.radio.links.any (fun l => l.flags % 2 == 1 && 0 < d.get (F.MAC_SF_SIZE l.sf) && asn % d.get (F.MAC_SF_SIZE l.sf) == l.slot)

/-- A window of `len` µs that opened now would overlap a scheduled transmit slot, the running one included (R23). The slots are counted from the last
one that began. -/
def Dev.txSlotIn (d : Dev) (len : Nat) : Bool :=
  if d.radio.links.isEmpty || d.get F.MAC_TS_SLOT = 0 then false
  else
    let us := (d.get F.TIDE_TICKS_TICKS - d.radio.slotTick) * 1000000 / 32768
    let slot := d.get F.MAC_TS_SLOT
    (List.range ((us + len) / slot - us / slot + 1)).any (fun k => d.txSlotAt (d.get F.MAC_ASN_ASN + us / slot + k))

/-- Steps 1 to 3 of R113: the profile holds, the converters stop, the pool feed supplies VMAIN (R42). -/
def Dev.startWin (d : Dev) (r : WinReq) : Dev :=
  let d := (d.put F.CLK_STAT_SPR_HELD 1).put F.PWR_STAT_SLACK 1
  let d := d.onSup (fun s => { s with savedSrc := d.get F.PWR_STAT_SRC })
  (d.put F.PWR_STAT_SRC 1).onSlack (fun s => { s with opening := some r })

/-- A request, taken, deferred, or waiting for the pool (R114, R115). A request that arrives while another one is still
settling is deferred like one in an open window (DEDUCED, log 10). A window of T0's waits for the end of a scheduled transmit slot (R23). CLK held
takes none (R283). -/
def Dev.winRequest (d : Dev) (r : WinReq) : Dev :=
  let r : WinReq := ⟨r.t0, winLen r.len⟩
  if d.held.contains (2, 0) then d
  else if d.flag F.CLK_SLKSTAT_OPEN || d.slack.opening.isSome || d.slack.gap then d.deferWin r
  else if d.clockMoving then d.deferWin r
  else if r.t0 && d.txSlotIn r.len then d.onSlack (fun s => { s with waiting := s.waiting ++ [r] })
  else if d.sup.vpool < 2400 then d.onSlack (fun s => { s with poolWait := s.poolWait ++ [r] })
  else d.startWin r

/-- A T0 request and an instruction request of one SYSCLK cycle are one request of the longer length, opened by T0
(R114). -/
def joinWin (r : WinReq) (other : Option Nat) : WinReq :=
  match other with
  | none => r
  | some l => ⟨true, max (winLen r.len) (winLen l)⟩

/-- Step 4 of R113: the window opens. -/
def Dev.openWin (d : Dev) (r : WinReq) : Dev :=
  let d := (d.put F.CLK_SLKSTAT_OPEN 1).putB F.CLK_SLKSTAT_OPENER (!r.t0)
  let d := (d.put F.CLK_SLKSTAT_COUNT (d.get F.CLK_SLKSTAT_COUNT + 1)).put F.CLK_STAT_SLACK 1
  (d.onSlack (fun s => { s with opening := none, cur := r })).raise Ev.slackOpen

/-- Step 6 of R113 in the clock block: the profile and the converters resume, SLACK_CLOSE is raised, and presence of
EXTREF reaches the TDC (R117). `us`: the window's length. -/
def Dev.closeWin (d : Dev) (us : Nat) : Dev :=
  let d := (d.put F.CLK_SLKSTAT_OPEN 0).put F.CLK_SLKSTAT_LAST us
  let d := ((d.put F.CLK_STAT_SLACK 0).put F.CLK_STAT_SPR_HELD 0).put F.PWR_STAT_SLACK 0
  let d := d.put F.PWR_STAT_SRC d.sup.savedSrc
  let d := d.onClk (fun c => { c with xrefTdc := d.flag F.CLK_STAT_XREF_OK })
  (d.onSlack (fun s => { s with gap := true })).raise Ev.slackClose

/-- The oldest deferred request starts (R114). -/
def Dev.serveWaiting (d : Dev) : Dev :=
  match d.slack.waiting with
  | [] => d
  | r :: rs =>
    if d.flag F.CLK_SLKSTAT_OPEN || d.slack.opening.isSome || d.slack.gap || d.clockMoving || (r.t0 && d.txSlotIn (winLen r.len)) then d
    else (d.onSlack (fun s => { s with waiting := rs })).winRequest r

/-- SLACK_GAP_END: GAP after a close has passed (R114). -/
def Dev.gapEnd (d : Dev) : Dev :=
  if d.flag F.CLK_SLKSTAT_OPEN then d else (d.onSlack (fun s => { s with gap := false })).serveWaiting

/-- With VPOOL back at 2.40 V the requests that waited for it are served in arrival order (R114, R115). -/
def Dev.servePool (d : Dev) : Dev :=
  if d.sup.vpool < 2400 then d
  else d.slack.poolWait.foldl (fun d r => d.winRequest r) (d.onSlack (fun s => { s with poolWait := [] }))

/-- SLACK_POOL_RECOVERED: VPOOL is back at 2.40 V (R115). -/
def Dev.poolRecovered (d : Dev) (vpool : Nat) : Dev := (d.onSup (fun s => { s with vpool := vpool })).servePool

/-- At a cycle boundary a request that still waits for the pool is discarded if VPOOL has not recovered (R115); the first
window of the new cycle is still to come. -/
def Dev.slackBoundary (d : Dev) : Dev :=
  d.servePool.onSlack (fun s => { s with poolWait := [], firstDone := false })

end Sys2Proof.Machine
end

