-- ==== Sys2Proof/Machine/Timers.lean ====
section
/-!
DEFINITION. The sixteen timer channels (spec/05_timers.md R132 to R158).
-/
namespace Sys2Proof.Machine

/-- The hidden state of a channel nobody has touched. -/
def TmrCh.zero : TmrCh := ⟨0, [], 0, false, 0, 0, 0, false, false, false, 0⟩

/-- A channel's hidden state. -/
def Dev.ch (d : Dev) (n : Nat) : TmrCh := Store.get (fun _ => TmrCh.zero) d.tmr n

/-- Change a channel's hidden state. -/
def Dev.onCh (d : Dev) (n : Nat) (f : TmrCh → TmrCh) : Dev :=
  d.onTmr (fun t => Store.set (fun _ => TmrCh.zero) t n (f (Store.get (fun _ => TmrCh.zero) t n)))

/-- T0 to T7 are fine channels, T8 to T15 bus channels (R132). -/
def isFine (n : Nat) : Bool := n < 8

/-- Counter width (R132). -/
def tmrWidth (n : Nat) : Nat := if isFine n then 48 else 32

/-- The counter of a channel. -/
def Dev.tmrCount (d : Dev) (n : Nat) : Nat := bitsOf (d.reg (F.TMR_CNT n)) 47 0

/-- Set a channel's counter and fraction; the register shows the fraction's top 24 bits (TMRn_CNT). -/
def Dev.setCount (d : Dev) (n cnt frac : Nat) : Dev :=
  (d.setReg (F.TMR_CNT n) (Word.ofN ((if isFine n then frac / 256 * 2 ^ 48 else 0) + cnt % 2 ^ tmrWidth n))).onCh n
    (fun c => { c with frac := frac })

/-- The frequency the device assigns to a SYSCLK cycle: from LF with the error that holds in the billing second, from the HF crystal, from the PLL
with spread depth `depth` at place `pos` of the profile (R109, R133). -/
def cycleFreq (src depth : Nat) (secErr : Int) (pos : Nat) : Nat × Nat :=
  match src with
  | 0 => (32768 * (1000000000 + secErr).toNat, 1000000000)
  | 1 => (32000000, 1)
  | _ =>
    let p := pos % 100
    let k := if p < 50 then p else 100 - p
    (96000000 * (50000 - depth * k), 50000)

/-- The frequency of a SYSCLK cycle at place `pos` of the spread profile, as a fraction; a held profile stays at the step it holds (R109, R133). -/
def Dev.fAt (d : Dev) (pos : Nat) : Nat × Nat :=
  cycleFreq (d.get F.CLK_STAT_SRC) d.clk.depth d.clk.secErr (if d.flag F.CLK_STAT_SPR_HELD then d.clk.spreadPos else pos)

/-- The frequency of the current SYSCLK cycle (R133). -/
def Dev.fNow (d : Dev) : Nat × Nat := d.fAt d.clk.spreadPos

/-- INC of a fine channel as 16.32 fixed point, rounded to nearest, for a step at place `pos` of the spread profile (R133). -/
def Dev.incAt (d : Dev) (n pos : Nat) : Nat :=
  let div := max 1 (d.get (F.TMR_DIV_DIV n))
  let perEvent := (roundOpen ((2 ^ 48 : Nat)) div).toNat
  let perCycle (fu : Nat) := let f := d.fAt pos; (roundOpen ((fu * f.2 * 2 ^ 48 : Nat)) (max 1 (f.1 * div))).toNat
  match d.get (F.TMR_CFG_SRC n) with
  | 0 => perCycle (if d.flag (F.TMR_CFG_FUNIT n) then 96000000 else 32000000)
  | 1 => perEvent
  | 2 => if d.flag F.CLK_STAT_XREF_OK && d.get F.CLK_STAT_SRC != 0 then perEvent else perCycle (1000 * d.get F.CLK_XREF_FNOM)
  | _ => perEvent

/-- INC of the current step (R133). -/
def Dev.inc (d : Dev) (n : Nat) : Nat := d.incAt n d.clk.spreadPos

/-- What one source step adds, in units of 2^-32 of a count: INC on a fine channel, one count in 2^PS SYSCLK cycles on a bus channel
(R133, R136). -/
def Dev.stepAdd (d : Dev) (n pos : Nat) : Nat := if isFine n then d.incAt n pos else 2 ^ 32 / 2 ^ d.get (F.TMR_DIV_PS n)

/-- A channel's source steps are SYSCLK cycles (R133, R136). -/
def Dev.onSysclk (d : Dev) (n : Nat) : Bool :=
  !isFine n || d.get (F.TMR_CFG_SRC n) == 0
    || (d.get (F.TMR_CFG_SRC n) == 2 && !(d.flag F.CLK_STAT_XREF_OK && d.get F.CLK_STAT_SRC != 0))

/-- A halted Sleeve freezes the channels set to FREEZE (R152); T1 always runs. -/
def Dev.frozen (d : Dev) (n : Nat) : Bool :=
  n != 1 && !d.flag (F.TMR_CFG_DBGH n) && (d.get F.DBG_STAT_STATEL == 3 || d.get F.DBG_STAT_STATER == 3)

/-- An enabled entry of the sequencer table in effect. -/
def Dev.seqEn (d : Dev) (i : Nat) : Bool := d.flag (F.TMR_SEQ_EN i)

/-- While any entry is enabled the sequencer drives T0's CMP0 (R154). -/
def Dev.seqActive (d : Dev) : Bool := (List.range 8).any (fun i => d.seqEn i)

/-- Load T0's CMP0 with the next enabled entry from index `i` on, skipping entries whose offset is not above the one
served before (R154). -/
def Dev.seqLoad (d : Dev) (i : Nat) : Dev :=
  ((List.range 8).filter (fun j => i ≤ j)).foldl (fun (acc : Dev × Bool) j =>
    let d := acc.1
    if acc.2 || !d.seqEn j then acc
    else
      let offs := d.get (F.TMR_SEQ_OFFS j)
      match d.seqPrev with
      | some p =>
        if offs ≤ p then ((d.put F.TMR_SEQSTAT_SKIP 1).bump F.TMR_SEQSTAT_SKIPN, false)
        else ((d.setReg (F.TMR_CMP0 0) (Word.ofN offs)).put F.TMR_SEQSTAT_NEXT j, true)
      | none => ((d.setReg (F.TMR_CMP0 0) (Word.ofN offs)).put F.TMR_SEQSTAT_NEXT j, true)) (d, false)
    |> fun acc => if acc.2 then acc.1 else (acc.1.put F.TMR_SEQSTAT_NEXT 8).setReg (F.TMR_CMP0 0) 0

/-- Entry `i` is served: its window is requested and the next enabled entry loaded (R154). -/
def Dev.seqServe (d : Dev) (i : Nat) : Dev :=
  let offs := d.get (F.TMR_SEQ_OFFS i)
  let d := d.winRequest ⟨true, d.get (F.TMR_SEQ_LEN i)⟩
  (d.onSeqPrev (fun _ => some offs)).seqLoad (i + 1)

/-- The sequencer at a T1 wrap: the table is copied from its shadow, the lowest enabled entry loaded, and an entry at
offset 0 served at once (R154). T0's CMP0 preload waits until the table is empty. -/
def Dev.seqStart (d : Dev) : Dev :=
  let d := (d.applyPendIn (fun a => 0x5200 ≤ a && a ≤ 0x5207)).onSeqPrev (fun _ => none)
  if !d.seqActive then d.put F.TMR_SEQSTAT_NEXT 8
  else
    let d := (d.addPend (F.TMR_CMP0 0) (maskOf 47 0) (d.shadowRead (F.TMR_CMP0 0))).seqLoad 0
    let i := d.get F.TMR_SEQSTAT_NEXT
    if i < 8 && d.get (F.TMR_SEQ_OFFS i) == 0 then d.seqServe i else d

/-- A wrap copies the preloads, lets the deferred fields take effect and marks the channel wrapped (R141, R144,
R146). T0's CMP0 preload is ignored while the sequencer drives it (R154). -/
def Dev.tmrWrap (d : Dev) (n : Nat) : Dev :=
  let d := if n = 0 && d.seqActive then d else d.applyPend (F.TMR_CMP0 n)
  let d := ((d.applyPend (F.TMR_CMP1 n)).applyPend (F.TMR_CFG n)).applyPend (F.TMR_DIV n)
  (d.onCh n (fun c => { c with wrapped := true })).showSubst n

/-- A reset that is not by the channel's own match: counter, fraction and MURES zero, and a wrap (R140, R141, R150). -/
def Dev.tmrZero (d : Dev) (n : Nat) : Dev := ((d.setCount n 0 0).onCh n (fun c => { c with mures := 0 })).tmrWrap n

/-- Stop and start as R139 resolves them: stop wins, and a start acts only on an enabled channel. -/
def Dev.tmrRun (d : Dev) (n : Nat) (stop start : Bool) : Dev :=
  if stop then (d.put (F.TMR_STAT_RUN n) 0).showSubst n
  else if start && d.flag (F.TMR_CFG_EN n) then (d.put (F.TMR_STAT_RUN n) 1).showSubst n else d

/-- Reset, stop and start that reach a channel at one edge (R139, R140). T0 and T1 are not targets of links (R156). -/
def Dev.tmrAct (d : Dev) (n : Nat) (reset stop start : Bool) : Dev :=
  (if reset then d.tmrZero n else d).tmrRun n stop start

/-- What one step of a channel crosses: the compare matches and the overflow, and counter and fraction after it as one number in units of
2^-32 (R137, R138). -/
structure StepResult where
  m0 : Bool
  m1 : Bool
  ovf : Bool
  value : Nat
deriving DecidableEq, Repr

/-- A compare value is matched by a step from `old` to `new` (counts) that overflows `w` times: a whole lap between two overflows crosses
every compare value (R137, R138, R150). -/
def crosses (old new c w : Nat) : Bool := c != 0 && if w = 0 then decide (old < c) && decide (c ≤ new) else decide (2 ≤ w) || decide (c ≤ new)

/-- One step of `add` from counter and fraction `v` (R137, R138). -/
def stepOf (width c0 c1 v add : Nat) : StepResult :=
  let t := v + add
  let w := t / 2 ^ (width + 32)
  let t' := t % 2 ^ (width + 32)
  let old := v / 2 ^ 32
  let new := t' / 2 ^ 32
  ⟨crosses old new c0 w, crosses old new c1 w, decide (1 ≤ w), t'⟩

/-- Put a link action on its way (R139). -/
def Dev.sendLink (d : Dev) (n act : Nat) : Dev :=
  if act = 0 then d else d.onLinks (fun l => l ++ [⟨d.get (F.TMR_ACT_LINK n), act⟩])

/-- T1 is to wrap: the boundary follows in this command (R155). The counter stands where the wrap found it; `rest` is counter and fraction after it
(R140). -/
def Dev.t1Due (d : Dev) (rest : Nat) (stop start : Bool) : Dev :=
  (d.onCol (fun c => { c with bndDue := true, bndDur := d.tmrCount 1 - rest / 2 ^ 32, bndRest := rest })).tmrRun 1 stop start

/-- The counter of channel `n` takes a step of `add` (units of 2^-32): flags, events, self actions and links; the actions `ext` from elsewhere
reach the channel at the same edge (R137 to R141, R154, R158). Where CMP0 and CMP1 both match with self action reset, CMP0's value is
subtracted; where another reset meets one by the channel's own match, the counter is zero (DESIGN CHOICE, log 99). -/
def Dev.tmrTake (d : Dev) (n add : Nat) (ext : List Nat) : Dev :=
  let c0 := bitsOf (d.reg (F.TMR_CMP0 n)) (tmrWidth n - 1) 0
  let c1 := bitsOf (d.reg (F.TMR_CMP1 n)) (tmrWidth n - 1) 0
  let r := stepOf (tmrWidth n) c0 c1 (d.tmrCount n * 2 ^ 32 + (d.ch n).frac) add
  let seq := n = 0 && d.seqActive
  let a0 := if r.m0 && !seq then d.get (F.TMR_ACT_M0S n) else 0
  let a1 := if r.m1 then d.get (F.TMR_ACT_M1S n) else 0
  let ao := if r.ovf then d.get (F.TMR_ACT_OVS n) else 0
  let l0 := if r.m0 && !seq then d.get (F.TMR_ACT_M0L n) else 0
  let l1 := if r.m1 then d.get (F.TMR_ACT_M1L n) else 0
  let lo := if r.ovf then d.get (F.TMR_ACT_OVL n) else 0
  let ev := (r.m0 && d.flag (F.TMR_CFG_M0E n)).toNat + (r.m1 && d.flag (F.TMR_CFG_M1E n)).toNat
    + (r.ovf && d.flag (F.TMR_CFG_OVFE n)).toNat
  let stop := a0 = 2 || a1 = 2 || ao = 2 || ext.contains 2
  let start := a0 = 3 || a1 = 3 || ao = 3 || ext.contains 3
  let zero := ao = 1 || ext.contains 1
  let d := d.setCount n (r.value / 2 ^ 32) (r.value % 2 ^ 32)
  let d := if r.m0 then d.put (F.TMR_STAT_M0 n) 1 else d
  let d := if r.m1 then d.put (F.TMR_STAT_M1 n) 1 else d
  let d := if r.ovf then d.put (F.TMR_STAT_OVF n) 1 else d
  let d := if ev = 0 then d else d.raiseN (Ev.tmr n) ev
  let d := ((d.sendLink n l0).sendLink n l1).sendLink n lo
  let own := if a0 = 1 then c0 else c1
  if n = 1 && (zero || a0 = 1 || a1 = 1 || r.ovf) then
    d.t1Due (if zero then 0 else if a0 = 1 || a1 = 1 then r.value % (own * 2 ^ 32) else r.value) stop start
  else
  let d := if zero then d.tmrZero n
    else if a0 = 1 || a1 = 1 then (d.setCount n (r.value % (own * 2 ^ 32) / 2 ^ 32) (r.value % 2 ^ 32)).tmrWrap n
    else if r.ovf then d.tmrWrap n else d
  let d := d.tmrRun n stop start
  if seq && r.m0 then d.seqServe (d.get F.TMR_SEQSTAT_NEXT) else d

/-- A step of a channel that runs and is not frozen (R142, R152). -/
def Dev.tmrStep (d : Dev) (n add : Nat) (ext : List Nat) : Dev :=
  if !d.flag (F.TMR_STAT_RUN n) || d.frozen n then d else d.tmrTake n add ext

/-- How many steps of `add` take `v` to `goal` or past it, one at the least (counter and fraction as one number). -/
def stepsTo (v add goal : Nat) : Nat := max 1 ((goal - v + (add - 1)) / max 1 add)

/-- Of `steps` steps of `add` from `v`, those up to and with the first that matches or overflows. -/
def leapOf (width c0 c1 v add steps : Nat) : Nat :=
  let upTo (c j : Nat) : Nat := if v < c * 2 ^ 32 then min j (stepsTo v add (c * 2 ^ 32)) else j
  upTo (2 ^ width) (upTo c1 (upTo c0 steps))

/-- `steps` source steps, each with its effect at its own edge: those without one are added together up to the next that matches or overflows,
`fuel` times at the most. A wrap of T1 and a change of the count source end them. -/
def Dev.tmrLeaps (d : Dev) (n pos : Nat) : Nat → Nat → Dev
  | 0, _ => d
  | _ + 1, 0 => d
  | fuel + 1, steps =>
    if !d.flag (F.TMR_STAT_RUN n) || d.frozen n then d
    else
      let add := d.stepAdd n pos
      let c (a : Nat) : Nat := bitsOf (d.reg a) (tmrWidth n - 1) 0
      let j := leapOf (tmrWidth n) (c (F.TMR_CMP0 n)) (c (F.TMR_CMP1 n)) (d.tmrCount n * 2 ^ 32 + (d.ch n).frac) add steps
      let x := d.tmrStep n (j * add) []
      if x.col.bndDue || x.get (F.TMR_CFG_SRC n) != d.get (F.TMR_CFG_SRC n) then x else x.tmrLeaps n pos fuel (steps - j)

/-- A bus channel is stopped for sleep (R150). -/
def Dev.busAsleep (d : Dev) (n : Nat) : Bool := !isFine n && (d.busHeld || d.get F.CLK_STAT_SRC == 0)

/-- A link action reaches its target: ignored by T0 and T1, latched by a sleeping bus channel (R139, R151, R156). -/
def Dev.linkArrive (d : Dev) (t : Nat) (acts : List Nat) : Dev :=
  if acts.isEmpty then d
  else if t < 2 then d.put (F.TMR_STAT_LINKIGN t) 1
  else if d.busAsleep t then d.onCh t (fun c => { c with
    latReset := c.latReset || acts.contains 1, latStop := c.latStop || acts.contains 2,
    latStart := c.latStart || acts.contains 3 })
  else d.tmrAct t (acts.contains 1) (acts.contains 2) (acts.contains 3)

/-- The link actions on their way to channel `t` (R139). -/
def Dev.linksTo (d : Dev) (t : Nat) : List Nat := (d.links.filter (fun l => l.target == t)).map (·.act)

/-- They are taken off their way. -/
def Dev.dropLinks (d : Dev) (t : Nat) : Dev := d.onLinks (fun l => l.filter (fun k => k.target != t))

/-- One run of steps. A link action on its way to the channel reaches it at its first SYSCLK step, or before a step of another source
(R139; DESIGN CHOICE, log 98). -/
def Dev.tmrSpan (d : Dev) (n steps pos : Nat) : Dev :=
  if steps = 0 then d
  else
    let acts := d.linksTo n
    let d := d.dropLinks n
    let d := if d.onSysclk n then d.profileAt pos else d
    if acts.isEmpty then d.tmrLeaps n pos steps steps
    else if 2 ≤ n && d.onSysclk n && d.flag (F.TMR_STAT_RUN n) && !d.frozen n then
      (d.tmrStep n (d.stepAdd n pos) acts).tmrLeaps n pos (steps - 1) (steps - 1)
    else (d.linkArrive n acts).tmrLeaps n pos steps steps

/-- The steps of a channel that counts; a bus channel does not in sleep, and none does while TMR is held (R149, R150, R283). -/
def Dev.tmrCounts (d : Dev) (n : Nat) (runs : List (Nat × Nat)) : Dev :=
  if d.busAsleep n || d.held.contains (4, 0) then d else runs.foldl (fun d r => d.tmrSpan n r.1 r.2) d

/-- TIMER_COUNT_EDGE: one edge on a fine channel's TP pin or EXTREF (R133). -/
def Dev.tmrEdge (d : Dev) (n : Nat) : Dev :=
  let src := d.get (F.TMR_CFG_SRC n)
  if isFine n && !d.held.contains (4, 0) && (src = 3 || (src = 2 && d.flag F.CLK_STAT_XREF_OK && d.get F.CLK_STAT_SRC != 0)) then d.tmrSpan n 1 0
  else d

/-- `k` LF ticks step the fine channels that count them: those with SRC = LF, and in sleep those that count SYSCLK (R133, R149). T1 stops one
tick short of its period, since the tick that completes it is CYCLE_BOUNDARY (DESIGN CHOICE, log 98). -/
def Dev.lfTicks (d : Dev) (k : Nat) : Dev :=
  if d.held.contains (4, 0) || d.flag F.TIDE_CTL_STOPPED then d
  else
    (List.range 8).foldl (fun d n =>
      if d.flag (F.TMR_STAT_RUN n) && (d.get (F.TMR_CFG_SRC n) == 1 || (d.get F.CLK_STAT_SRC == 0 && d.onSysclk n)) then
        let v := d.tmrCount n * 2 ^ 32 + (d.ch n).frac
        let c := bitsOf (d.reg (F.TMR_CMP0 1)) 47 0 * 2 ^ 32
        let k := if n = 1 && decide (v < c) then min k (stepsTo v (d.stepAdd 1 0) c - 1) else k
        d.tmrSpan n k 0
      else d) d

/-- LINK_ACTION: one SYSCLK period after the event, all link actions on their way to one channel reach it (R139). -/
def Dev.linkAction (d : Dev) : Dev :=
  match d.links with
  | [] => d
  | l :: ls =>
    let acts := l.act :: (ls.filter (fun k => k.target == l.target)).map (·.act)
    (d.dropLinks l.target).linkArrive l.target acts

/-- A change of EN (R142). -/
def Dev.tmrEnable (d : Dev) (n : Nat) (old new : Bool) : Dev :=
  if old == new then d
  else if new then
    let d := if n = 0 && d.seqActive then d else d.applyPend (F.TMR_CMP0 n)
    (d.applyPend (F.TMR_CMP1 n)).put (F.TMR_STAT_RUN n) 1
  else d.put (F.TMR_STAT_RUN n) 0

/-! ## Capture -/

/-- The register shows the head of the queue (R147). -/
def Dev.showCap (d : Dev) (n : Nat) : Dev :=
  let q := (d.ch n).queue
  let w := match q with
    | [] => 0
    | c :: _ => 2 ^ 60 + c.tag * 2 ^ 56 + c.seq * 2 ^ 48 + c.count
  (d.setReg (F.TMR_CAP n) (Word.ofN w)).put (F.TMR_STAT_QN n) q.length

/-- One input of a fine channel captures (R146). -/
def Dev.capOne (d : Dev) (n input : Nat) : Dev :=
  let c := d.ch n
  if c.queue.length ≥ 4 then (d.put (F.TMR_STAT_OVR n) 1).bump (F.TMR_STAT_LOST n)
  else
    let tag := input + (if d.get F.CLK_STAT_SRC = 0 then 2 else 0) + (if c.wrapped then 4 else 0)
    (d.onCh n (fun c => { c with queue := c.queue ++ [⟨d.tmrCount n, c.nextSeq, tag⟩],
                                 nextSeq := (c.nextSeq + 1) % 256, wrapped := false })).showCap n

/-- Inputs A and B of a fine channel capture at one edge, A first; where CAPE is set the source is raised once for each, also for one that a full
queue drops (R146, R158; DEDUCED, log 100). -/
def Dev.capture (d : Dev) (n : Nat) (a b : Bool) : Dev :=
  if !isFine n || d.held.contains (4, 0) then d
  else
    let d := if a then d.capOne n 0 else d
    let d := if b then d.capOne n 1 else d
    if (a || b) && d.flag (F.TMR_CFG_CAPE n) then d.raiseN (Ev.tmr n) (a.toNat + b.toNat) else d

/-- A bus channel captures (R148). -/
def Dev.busCapture (d : Dev) (n : Nat) : Dev :=
  if isFine n || d.held.contains (4, 0) || d.busAsleep n then d
  else
    let d := if d.flag (F.TMR_STAT_CAPV n) then d.put (F.TMR_STAT_OVR n) 1 else d
    let d := (d.setReg (F.TMR_CAP n) (Word.ofN (d.tmrCount n))).put (F.TMR_STAT_CAPV n) 1
    if d.flag (F.TMR_CFG_CAPE n) then d.raise (Ev.tmr n) else d

/-- An edge has the polarity that a field selects: 0 rising, 1 falling, 2 both (EDGE of TMRn_CFG). -/
def edgeIs (sel : Nat) (rising : Bool) : Bool := sel == 2 || (sel == 0) == rising

/-- Capture input A of a channel selects this edge of TP pin `pin`; likewise input B (R145). -/
def Dev.capAPin (d : Dev) (n pin : Nat) (rising : Bool) : Bool :=
  d.get (F.TMR_CAPSEL_CAPA n) == 64 + pin && edgeIs (d.get (F.TMR_CAPSEL_EDGEA n)) rising
def Dev.capBPin (d : Dev) (n pin : Nat) (rising : Bool) : Bool :=
  d.get (F.TMR_CAPSEL_CAPB n) == 64 + pin && edgeIs (d.get (F.TMR_CAPSEL_EDGEB n)) rising

/-- TIMER_CAPTURE: an edge on a TP pin reaches the capture inputs of a fine channel that select it (R145, R146). -/
def Dev.capturePin (d : Dev) (n pin : Nat) (rising : Bool) : Dev := d.capture n (d.capAPin n pin rising) (d.capBPin n pin rising)

/-- BUS_CAPTURE: an edge on a TP pin reaches the capture input of a bus channel that selects it (R145, R148). -/
def Dev.busCapturePin (d : Dev) (n pin : Nat) (rising : Bool) : Dev := if d.capAPin n pin rising then d.busCapture n else d

/-- A router source reaches the capture inputs that select it, channel by channel (R145). -/
def Dev.captureSrc (d : Dev) (src : Nat) : Dev :=
  (List.range 16).foldl (fun d n =>
    if isFine n then d.capture n (d.get (F.TMR_CAPSEL_CAPA n) == src) (d.get (F.TMR_CAPSEL_CAPB n) == src)
    else if d.get (F.TMR_CAPSEL_CAPA n) == src then d.busCapture n else d) d

/-- The router sources raised in a command reach the capture inputs; a capture that raises its own channel's source is seen by the captures of
the next command (R145, R158; DEDUCED, log 100). -/
def Dev.capturesDue (d : Dev) : Dev := d.raised.foldl (fun d src => d.captureSrc src) (d.onRaised (fun _ => []))

/-- CAPTURE_POP: the head goes only when POPSEQ names it (R147). -/
def Dev.capPop (d : Dev) (n seq : Nat) : Dev :=
  match (d.ch n).queue with
  | [] => d
  | c :: q => if c.seq = seq then (d.onCh n (fun c => { c with queue := q })).showCap n else d

/-! ## Sleep -/

/-- The bus channels' numbers. -/
def busChannels : List Nat := [8, 9, 10, 11, 12, 13, 14, 15]

/-- A bus channel stops for sleep (R150). -/
def Dev.busStop (d : Dev) (n : Nat) : Dev :=
  d.onCh n (fun c => { c with s0 := (d.reg F.TIDE_SEC).toNat, f0 := d.get F.CLK_MEAN_FREQ, live := 0 })

/-- The time since S0 for which a stopped bus channel was not frozen, so far (R150, R152; LSB 2^-24 s). -/
def Dev.busSpan (d : Dev) (n : Nat) : Nat :=
  (d.ch n).live + (if d.frozen n then 0 else (d.reg F.TIDE_SEC).toNat - (d.ch n).s0)

/-- Before a channel's freeze can change, the time that counts for its make-up is noted (R152). -/
def Dev.busMark (d : Dev) : Dev :=
  if d.busHeld then
    busChannels.foldl (fun d n => let v := d.busSpan n; let t := (d.reg F.TIDE_SEC).toNat; d.onCh n (fun c => { c with live := v, s0 := t })) d
  else d

/-- One SYSCLK cycle in the units the make-up residue is held in, 2^-24 × 10^-9 cycle: the residue is exact (R150). -/
def muUnit : Nat := 16777216 * 1000000000

/-- The wraps that a step of `mu` counts of a bus channel spans: overflows, and the resets by the channel's own match (R140, R141, R150). -/
def Dev.wrapsOf (d : Dev) (n mu : Nat) : Nat :=
  let c (k : Nat) : Nat := bitsOf (d.reg k) 31 0
  let t := d.tmrCount n + mu
  let r := stepOf 32 (c (F.TMR_CMP0 n)) (c (F.TMR_CMP1 n)) (d.tmrCount n * 2 ^ 32) (mu * 2 ^ 32)
  let own := if r.m0 && d.get (F.TMR_ACT_M0S n) == 1 then c (F.TMR_CMP0 n) else if r.m1 && d.get (F.TMR_ACT_M1S n) == 1 then c (F.TMR_CMP1 n) else 0
  t / 2 ^ 32 + (if own = 0 then 0 else t % 2 ^ 32 / own)

/-- Make-up of one bus channel at resume (R150), then the latched link actions (R151). The time it was frozen makes none
(R152). A channel that was enabled or started while stopped for sleep is made up from the S0 of the sleep entry, and one that was stopped
meanwhile gets none (DESIGN CHOICE, log 101). -/
def Dev.makeUp (d : Dev) (n : Nat) : Dev :=
  let c := d.ch n
  let ps := d.get (F.TMR_DIV_PS n)
  let span := d.busSpan n
  let d := if !d.flag (F.TMR_STAT_RUN n) || (d.frozen n && span = 0) then d
    else
      let cyc := span * c.f0 * (1000000000 + d.getS F.CLK_HFERR_ERR).toNat + c.mures
      let mu := cyc / (2 ^ ps * muUnit)
      let wraps := d.wrapsOf n mu
      let d := d.onCh n (fun c => { c with mures := cyc - mu * (2 ^ ps * muUnit) })
      ((d.tmrTake n (mu * 2 ^ 32) []).put (F.TMR_STAT_MUWRAP n) (satTo 255 wraps)).put (F.TMR_STAT_MU n) 1
  if c.latStop || c.latReset || c.latStart then
    let d := d.onCh n (fun c => { c with latStop := false, latReset := false, latStart := false })
    (d.tmrAct n c.latReset c.latStop c.latStart).put (F.TMR_STAT_LINKLATE n) 1
  else d

/-- The T1 period of the cycle that ends is kept: a post of that cycle covers it (R240). -/
def Dev.endPeriod (d : Dev) : Dev := d.onCol (fun c => { c with endedTicks := bitsOf (d.reg (F.TMR_CMP0 1)) 47 0 })

/-- T1 wraps: its counter starts over, or keeps what a match left over (R140), its preloads are copied, T0 is reset and started and the sequencer begins
(R141, R154, R155). -/
def Dev.t1Wrap (d : Dev) : Dev :=
  let v := d.col.bndRest
  let d := ((d.endPeriod.tmrZero 1).setCount 1 (v / 2 ^ 32) (v % 2 ^ 32)).onCol (fun c => { c with bndRest := 0 })
  let d := (d.seqStart).setCount 0 0 0
  (d.tmrWrap 0).tmrRun 0 false true

end Sys2Proof.Machine
end

