-- ==== Sys2Proof/Machine/Power.lean ====
section
/-!
DEFINITION. The supplies, the tide pool, the backup cell and its charger (spec/02_power_and_modes.md R37 to R55, R65 to
R69). Voltages are in mV.
-/
namespace Sys2Proof.Machine

/-- A threshold code: V = 2.20 V + 0.05 V × n (R54, PWR_POOL). -/
def codeMv (n : Nat) : Nat := 2200 + 50 * n

/-- The code of a voltage, rounded down (R67). -/
def mvCode (v : Nat) : Nat := (v - 2200) / 50

/-- The shot floor (R41). -/
abbrev shotFloor : Nat := 3000

/-- A battery installation (PWR_CFG.INST). -/
def Dev.battery (d : Dev) : Bool := d.flag F.PWR_CFG_INST

/-- The supply regime under SERVICE and HANDOVER, else the mode itself (R60). -/
def Dev.regime (d : Dev) : Nat :=
  let m := d.get F.SYS_MODE_MODE
  if m = 5 || m = 6 then d.get F.SYS_MODE_BASE else m

/-- The run state is full run: LOOP, Stage 3 of a start on a loop installation, and the BIST of a shutdown (R19, R59, R85, R94). -/
def Dev.fullRun (d : Dev) : Bool :=
  d.regime == 1 || d.col.shut.isSome || (d.get F.SYS_MODE_MODE == 0 && d.get F.SYS_MODE_STAGE == 3 && !d.battery)

/-- A backup cell that can carry the device: fitted, above DEAD, DEAD not confirmed (R59). -/
def Dev.usableCell (d : Dev) : Bool :=
  d.flag F.PWR_CFG_BACKUP && !d.sup.cellDead && codeMv (d.get F.PWR_CELL_DEAD) < d.sup.vcell

/-- Shots are allowed: VPOOL is at or above the shot floor (R41, R46). -/
def Dev.shotOk (d : Dev) : Bool := d.sup.filled && shotFloor ≤ d.sup.vpool

/-- VCELL in mV as PWR_MEAS shows it. -/
def Dev.shownCell (d : Dev) : Nat := 2 * d.get F.PWR_MEAS_VCELL

/-- The limits of R67, as codes: (ALMIN_E, TXMIN_E). -/
def Dev.limits (d : Dev) : Nat × Nat :=
  let almin := d.get F.PWR_POOL_ALMIN
  let txmin := d.get F.PWR_POOL_TXMIN
  let r := d.regime
  if r = 3 || r = 4 then
    let plim := min (codeMv (d.get F.PWR_POOL_TOP)) (d.shownCell - 100)
    let al := max 3050 (min (codeMv almin) (plim - 300))
    let tx := max al (min (codeMv txmin) (plim - 200))
    (mvCode al, mvCode tx)
  else if r = 2 then (almin, d.get F.PWR_POOL_RESUME)
  else (almin, txmin)

/-- VPOOL allows a frame: an ALARM-class frame at ALMIN_E, any other at TXMIN_E (R43, R45, R66, R67). -/
def Dev.txAllowed (d : Dev) (alarm : Bool) : Bool := codeMv (if alarm then d.limits.1 else d.limits.2) ≤ d.sup.vpool

/-- SURPLUS as PWR_HARV reports it: zero in CELL and VIGIL (R47). -/
def Dev.surplusNow (d : Dev) : Nat := if d.regime = 3 || d.regime = 4 then 0 else d.sup.surplus

/-- NEED as PWR_HARV reports it (R47). -/
def Dev.needNow (d : Dev) : Nat :=
  if d.get F.PWR_NEED_SET = 0 then d.sup.needMeas.getD 0 else d.get F.PWR_NEED_SET

/-- NEED has been measured or set (R59). -/
def Dev.needKnown (d : Dev) : Bool := d.sup.needMeas.isSome || d.get F.PWR_NEED_SET != 0

/-- PWR_MEAS follows the supplies (R65), and its limits with them (R67). -/
def Dev.updateMeas (d : Dev) : Dev :=
  let d := ((d.put F.PWR_MEAS_VLOOPP (satTo 4095 (d.sup.loopp / 20))).put F.PWR_MEAS_VPOOL (satTo 4095 (d.sup.vpool / 2))).put
    F.PWR_MEAS_VCELL (satTo 4095 (d.sup.vcell / 2))
  let l := d.limits
  (d.put F.PWR_MEAS_ALMIN_E l.1).put F.PWR_MEAS_TXMIN_E l.2

/-- PWR_HARV follows the harvest (R47). -/
def Dev.updateHarv (d : Dev) : Dev :=
  (d.put F.PWR_HARV_SURPLUS (satTo 1048575 d.surplusNow)).put F.PWR_HARV_NEED (satTo 1048575 d.needNow)

/-- The charger's end voltage (R52). -/
def Dev.vend (d : Dev) : Nat := 2500 + 50 * d.get F.PWR_CHG_VEND

/-- All the conditions of R51 and R52 for the trickle charger hold. A cell that CELL_LOW found below 2.00 V is not charged again before the next start
(R53; log 109). -/
def Dev.charging (d : Dev) : Bool :=
  d.flag F.PWR_CELL_CHEM && d.flag F.PWR_CHG_EN && (d.get F.SYS_MODE_BASE == 1 || d.get F.SYS_MODE_BASE == 2)
    && d.vend + 300 ≤ d.sup.vpool && d.sup.dieTemp ≤ 16 * d.get F.PWR_CHG_TMAX && 2000 ≤ d.sup.vcell && !d.sup.deepLogged && !d.sup.chgFull

/-- A cell is fitted: on a battery installation, and on a loop installation that declares one (PWR_CFG). -/
def Dev.cellFitted (d : Dev) : Bool := d.battery || d.flag F.PWR_CFG_BACKUP

/-- What feeds VMAIN while the buck does not: the pool feed, which is open below 2.20 V, else the cell switch (R39, R43). With neither, SRC keeps the
code of the pool feed until the brown-out (log 120). -/
def Dev.standbySrc (d : Dev) : Nat := if decide (d.sup.vpool < 2200) && d.cellFitted then 2 else 1

/-- The pool feed opens below 2.20 V, and the cell switch takes VMAIN over (R39, R43); a slack-water window has the pool feed in every mode (R42). -/
def Dev.settleSrc (d : Dev) : Dev :=
  if !d.flag F.PWR_STAT_SLACK && d.get F.PWR_STAT_SRC == 1 then d.put F.PWR_STAT_SRC d.standbySrc else d

/-- The status bits that follow from the supplies: PWR_STAT and PWR_CELL.LOCK (R51, R52). -/
def Dev.settlePower (d : Dev) : Dev :=
  let d := d.settleSrc
  ((((d.putB F.PWR_STAT_CHG d.charging).putB F.PWR_STAT_CELL_OK (decide (codeMv (d.get F.PWR_CELL_DEAD) < d.sup.vcell))).putB
    F.PWR_STAT_POOL_OK (decide (2200 ≤ d.sup.vpool))).putB F.PWR_STAT_SHOT_OK (decide (shotFloor ≤ d.sup.vpool))).putB
    F.PWR_CELL_LOCK (!d.flag F.PWR_CELL_CHEM)

/-- VMAIN moves to `src`; in a slack-water window the change shows when it closes (R42). -/
def Dev.setVmain (d : Dev) (src : Nat) : Dev :=
  if d.flag F.PWR_STAT_SLACK then d.onSup (fun s => { s with savedSrc := src }) else d.put F.PWR_STAT_SRC src

/-- The VMAIN source, in a slack-water window the one to resume (R42). -/
def Dev.vmainSrc (d : Dev) : Nat := if d.flag F.PWR_STAT_SLACK then d.sup.savedSrc else d.get F.PWR_STAT_SRC

/-- LOOPP_FALL: LOOPP fell through 7.5 V; the pool feed, or the cell switch where that is open, takes VMAIN over from the buck or the start regulator
(R37, R39, R43). -/
def Dev.looppFall (d : Dev) (loopp : Nat) : Dev :=
  if d.flag F.PWR_STAT_VIN_OK && loopp < 7500 then
    let d := d.onSup (fun s => { s with loopp := loopp })
    if d.vmainSrc = 2 then d else d.setVmain d.standbySrc
  else d

/-- A fall of LOOPP that ended before the loss was confirmed: the buck carries VMAIN again (R37, R39). -/
def Dev.buckBack (d : Dev) : Dev :=
  if d.flag F.PWR_STAT_VIN_OK && 7500 ≤ d.sup.loopp && (d.vmainSrc = 1 || d.vmainSrc = 2) then d.setVmain 0 else d

/-- LOOPP_ON_BATTERY (R63). -/
def Dev.looppOnBattery (d : Dev) (loopp : Nat) : Dev :=
  if d.battery && 8000 < loopp && !d.sup.mismatchLogged then
    (d.onSup (fun s => { s with mismatchLogged := true })).note 0x07
  else d

/-- CELL_LOW: below LOW, or below 2.00 V, where CELL_DEEP is written once per start (R53, R54). -/
def Dev.cellLow (d : Dev) (vcell : Nat) : Dev :=
  let d := d.onSup (fun s => { s with vcell := vcell })
  if vcell < codeMv (d.get F.PWR_CELL_LOW) || vcell < 2000 then
    let d := (d.event F.PWR_EVT_CELL_LOW Ev.pwr).pushAlarm AlarmCode.cellLow [vcell / 2]
    if vcell < 2000 && !d.sup.deepLogged then
      (d.onSup (fun s => { s with deepLogged := true })).noteAB 0x2B 127 (vcell / 2) 0
    else d
  else d

/-- POOL_FILL: VPOOL first reaches the shot floor after a start; before the end of Stage 2 there is no wait yet and no record (R46). -/
def Dev.poolFill (d : Dev) (vpool : Nat) : Dev :=
  let d := d.onSup (fun s => { s with vpool := vpool })
  if vpool < shotFloor || d.sup.filled || d.get F.SYS_MODE_STAGE < 3 then d
  else (d.onSup (fun s => { s with filled := true })).noteAB 0x08 127 0 (d.seconds - d.sup.waitFrom)

/-- POOL_FLOOR_FALL: VPOOL fell below the shot floor (R41). -/
def Dev.poolFloorFall (d : Dev) (vpool : Nat) : Dev :=
  let d := d.onSup (fun s => { s with vpool := vpool })
  if vpool < shotFloor then d.event F.PWR_EVT_FLOOR Ev.pwr else d

/-- POOL_LOW: VPOOL fell below PWR_POOL.LOW; the change to LOOP-LEAN is pending (R57, R59). -/
def Dev.poolLow (d : Dev) (vpool : Nat) : Dev :=
  let d := d.onSup (fun s => { s with vpool := vpool })
  if vpool < codeMv (d.get F.PWR_POOL_LOW) then
    (d.event F.PWR_EVT_POOL_LOW Ev.pwr).onSup (fun s => { s with poolLow := true })
  else d

/-- HARVEST_SHORT: SURPLUS below NEED for 60 s continuously (R59). -/
def Dev.harvestShort (d : Dev) (surplus : Nat) : Dev :=
  let d := d.onSup (fun s => { s with surplus := surplus })
  if d.regime = 1 && d.needKnown && surplus < d.needNow then d.onSup (fun s => { s with short := true }) else d

/-- HARVEST_RESTORED: SURPLUS at least 1.25 NEED for 60 s with the pool at or above RESUME (R59). -/
def Dev.harvestRestored (d : Dev) (surplus : Nat) : Dev :=
  let d := d.onSup (fun s => { s with surplus := surplus })
  if d.regime = 2 && 5 * d.needNow ≤ 4 * surplus && codeMv (d.get F.PWR_POOL_RESUME) ≤ d.sup.vpool then
    d.onSup (fun s => { s with rich := true })
  else d

/-- CHARGE_DONE: VCELL reached VEND (R52). -/
def Dev.chargeDone (d : Dev) (vcell : Nat) : Dev :=
  let run := d.charging
  let d := d.onSup (fun s => { s with vcell := vcell })
  if run && d.vend ≤ vcell then (d.onSup (fun s => { s with chgFull := true })).event F.PWR_EVT_CHG_DONE Ev.pwr else d

/-- CHARGE_RESTART: VCELL fell 0.10 V below VEND (R52). -/
def Dev.chargeRestart (d : Dev) (vcell : Nat) : Dev :=
  let d := d.onSup (fun s => { s with vcell := vcell })
  if vcell + 100 ≤ d.vend then d.onSup (fun s => { s with chgFull := false }) else d

/-- A write of EN = 1 under the chemistry lock (R51). -/
def Dev.lockHit (d : Dev) : Dev :=
  if d.flag F.PWR_CELL_CHEM then d
  else (d.event F.PWR_EVT_LOCK_HIT Ev.pwr).noteAB 0x2A 127 (d.sup.vcell / 2) 0

/-- A value between two limits, the lower one standing where they cross. -/
def clampN (lo hi v : Nat) : Nat := max lo (min hi v)

/-- The clamps of R68 on a PWR_POOL word, in the order TOP, ALMIN, LOW, RESUME, TXMIN, each against the values in force
after the ones before it. -/
def clampPool (w : Word) : Word :=
  let top := clampN 24 56 (bitsOf w 35 30)
  let almin := clampN 17 36 (bitsOf w 23 18)
  let low := clampN 17 46 (bitsOf w 17 12)
  let resume := clampN (low + 2) top (bitsOf w 11 6)
  let txmin := clampN almin top (bitsOf w 29 24)
  withBits (withBits (withBits (withBits (withBits w 35 30 top) 23 18 almin) 17 12 low) 11 6 resume) 29 24 txmin


/-! ## T1's period -/

/-- T1's period for the mode (R49, R59; 4 s while no regime has been reached, R78), no shorter than 2 s while the PLL is failed (R112). -/
def Dev.modePeriod (d : Dev) : Nat :=
  let p := if d.regime = 0 || d.regime = 7 then 131072 else periodOf d.regime
  if d.flag F.CLK_STAT_PLL_FAIL then max 65536 p else p

/-- T1 re-armed: the period in effect now, the counter from zero (R59; DEDUCED, log 11). -/
def Dev.rearmT1 (d : Dev) (ticks : Nat) : Dev :=
  let d := ((d.endPeriod).setReg (F.TMR_CMP0 1) (Word.ofN ticks)).onShadow (fun s => Store.erase s (F.TMR_CMP0 1))
  ((d.setCount 1 0 0).put (F.TMR_CFG_EN 1) 1).put (F.TMR_STAT_RUN 1) 1

end Sys2Proof.Machine
end

