-- ==== Sys2Proof/Machine/Seam.lean ====
section
/-!
DEFINITION. The Seam's ownership records and acts, and ARM on task inputs (spec/09_seam_and_events.md R269 to R293).
The records live in the SEAM_REC registers.
-/
namespace Sys2Proof.Machine

/-! Owner codes (R270). -/
namespace Own
abbrev collar : Nat := 0
abbrev sleeveL : Nat := 1
abbrev sleeveR : Nat := 2
abbrev host : Nat := 3
abbrev loop : Nat := 4
abbrev radio : Nat := 5
abbrev tdc : Nat := 6
abbrev usf : Nat := 7
abbrev adc : Nat := 8
abbrev label : Nat := 9
abbrev none : Nat := 15
end Own

/-- An owner code that R270 defines. -/
def ownDefined (c : Nat) : Bool := c ≤ 9 || c == 15

/-- The first word of block `b` (R269). -/
def blockAddr (b : Nat) : Nat := 0x1C000 + 64 * (b % 256)

/-- The block that holds a Seam word (R269). -/
def blockOf (a : Nat) : Nat := (a - 0x1C000) / 64

/-- A Seam word address (R269). -/
def isSeam (a : Nat) : Bool := 0x1C000 ≤ a && a < 0x20000

def Dev.owner (d : Dev) (b : Nat) : Nat := d.get (F.SEAM_REC_OWNER b)
def Dev.home (d : Dev) (b : Nat) : Nat := d.get (F.SEAM_REC_HOME b)
def Dev.full (d : Dev) (b : Nat) : Bool := d.flag (F.SEAM_REC_FULL b)
def Dev.priv (d : Dev) (b : Nat) : Bool := d.flag (F.SEAM_REC_PRIVATE b)

/-- The device is in PAIRED (COLLAR_CHTAB). -/
def Dev.paired (d : Dev) : Bool := d.flag F.COLLAR_CHTAB_PAIRED

/-- The owner that an act names: in PAIRED the pair acts as SLEEVE_L and SLEEVE_R owns nothing, so a block that an act would bring to SLEEVE_R
goes to SLEEVE_L (R187; DEDUCED, log 106). -/
def Dev.ownerFor (d : Dev) (c : Nat) : Nat := if d.paired && c == Own.sleeveR then Own.sleeveL else c

/-- SEQ of a block, one up (R274). -/
def Dev.seqUp (d : Dev) (b : Nat) : Dev := d.put (F.SEAM_REC_SEQ b) (d.get (F.SEAM_REC_SEQ b) + 1)

/-- A block given with FULL = 1 tells COLLAR and HOST (R289, R416). -/
def Dev.giveEvents (d : Dev) (dest : Nat) (full : Bool) : Dev :=
  if full && dest == Own.collar then d.raise Ev.seamToCol
  else if full && dest == Own.host then (d.put ⟨F.HOST_IRQ, Irq.seamGiven, Irq.seamGiven⟩ 1).raise Ev.host else d

/-- The owner codes whose unit is held under quiesce (R276, R283); an owner code that serves several
units is held when all of them are (R284). -/
def Dev.heldOwner (d : Dev) (dest : Nat) : Bool :=
  (dest == Own.sleeveL && d.held.any (fun h => h.1 == 24)) || (dest == Own.sleeveR && d.held.any (fun h => h.1 == 25))
    || (dest == Own.host && d.held.any (fun h => h.1 == 13)) || (dest == Own.loop && d.held.any (fun h => h.1 == 12))
    || (dest == Own.radio && d.held.any (fun h => h.1 == 14 || h.1 == 15))
    || (dest == Own.tdc && d.held.contains (7, 0) && d.held.contains (7, 1))
    || (dest == Own.usf && [0, 1, 2, 3].all (fun u => d.held.contains (8, u)))
    || (dest == Own.adc && d.held.contains (9, 0) && d.held.contains (9, 1))
    || (dest == Own.label && d.held.any (fun h => h.1 == 17))

/-- CLAIM (R274). -/
def Dev.claimBlock (d : Dev) (b claimer : Nat) : Dev :=
  (((d.put (F.SEAM_REC_OWNER b) claimer).put (F.SEAM_REC_FULL b) 0).put (F.SEAM_REC_STALE b) 0).seqUp b

/-- A given block reaches a hardware owner: one given empty to LOOP or RADIO joins its receive pool, in the order given; one given with FULL = 1
is a request of `by_`, the owner that gave it. LABEL takes blocks from the Collar only (R279, R402; log 107). -/
def Dev.blockTaken (d : Dev) (by_ b dest : Nat) (full : Bool) : Dev :=
  let put (l : List (Nat × Nat)) : List (Nat × Nat) := l.filter (fun g => g.1 != b) ++ [(b, by_)]
  if dest = Own.loop then
    d.onLoop (fun l => if full then { l with given := put l.given } else { l with pool := l.pool.filter (· != b) ++ [b] })
  else if dest = Own.radio then
    d.onRadio (fun r => if full then { r with given := put r.given } else { r with pool := r.pool.filter (· != b) ++ [b] })
  else if dest = Own.label && by_ = Own.collar && full then
    d.onLabel (fun l => { l with blocks := l.blocks.filter (· != b) ++ [b] })
  else d

/-- GIVE (R274, R276): a block given to a held owner is noted, and reverts at the next edge. -/
def Dev.giveBlock (d : Dev) (b dest : Nat) (full : Bool) : Dev :=
  let by_ := d.owner b
  let dest := d.ownerFor dest
  let d := (((d.put (F.SEAM_REC_OWNER b) dest).putB (F.SEAM_REC_FULL b) full).put (F.SEAM_REC_STALE b) 0).seqUp b
  let d := (d.giveEvents dest full).blockTaken by_ b dest full
  if d.heldOwner dest then d.onRevertDue (fun l => l ++ [b]) else d

/-- Reversion (R274); SEAM_STAT.REVN counts it. -/
def Dev.revertBlock (d : Dev) (b : Nat) : Dev :=
  let home := d.ownerFor (d.home b)
  let dest := if home = d.owner b then Own.none else home
  (((d.put (F.SEAM_REC_OWNER b) dest).put (F.SEAM_REC_STALE b) 1).seqUp b).bump F.SEAM_STAT_REVN

/-- HELD_GIVE_REVERT: the blocks given to held owners revert (R276). -/
def Dev.heldGiveRevert (d : Dev) : Dev :=
  (d.revertDue.foldl (fun d b => if d.heldOwner (d.owner b) then d.revertBlock b else d) d).onRevertDue
    (fun _ => [])

/-- The completion word of a hardware owner (R280). -/
def completionWord (status own low : Nat) : Word := Word.ofN (status % 256 * 2 ^ 64 + own % 256 * 2 ^ 56 + low % 2 ^ 56)

/-- The record image of a block (R220): the SEAM_REC word. -/
def Dev.image (d : Dev) (b : Nat) : Word := d.reg (F.SEAM_REC b)

/-- A data write by owner code `who` to a Seam word: it lands only in a block the writer owns, else it is dropped and
counted (R169, R272). -/
def Dev.seamWrite (d : Dev) (who a : Nat) (w : Word) : Dev :=
  let b := blockOf a
  if d.owner b = who then d.store a w
  else ((d.bump F.SEAM_STAT_DROPN).put F.SEAM_STAT_DROPBLK b).put F.SEAM_STAT_DROPBY who

/-- Consecutive words of a block written by owner code `who`, each checked as it comes (R272). -/
def Dev.seamWriteAll (d : Dev) (who a : Nat) : List Word → Dev
  | [] => d
  | w :: ws => (d.seamWrite who a w).seamWriteAll who (a + 1) ws

/-- Owner code `who` writes up to 64 words of a block from its first word on. -/
def Dev.fillBlock (d : Dev) (b who : Nat) (ws : List Word) : Dev := d.seamWriteAll who (blockAddr b) (ws.take 64)

/-- GIVE by owner code `who`: only the owner hands a block on (R274). -/
def Dev.handBlock (d : Dev) (b who dest : Nat) (full : Bool) : Dev := if d.owner b = who then d.giveBlock b dest full else d

/-- A hardware owner returns block `b` to `dest` with its completion word, where the block is still its own (R272, R274, R277, R279, R280). -/
def Dev.returnBlock (d : Dev) (b dest : Nat) (full : Bool) (status own low : Nat) : Dev :=
  (d.seamWrite own (blockAddr b + 63) (completionWord status own low)).handBlock b own dest full

/-- A block goes back to its requester, or to its HOME while the requester is held (R277, R283 step 3). -/
def Dev.giveBack (d : Dev) (b who : Nat) (status own low : Nat) : Dev :=
  d.returnBlock b (if d.heldOwner who then d.home b else who) true status own low

/-- Owner code `who` may read block `b` (R273). -/
def Dev.mayRead (d : Dev) (who b : Nat) : Bool := !d.priv b || d.owner b == who || who == Own.collar

/-! ## SEAM_CMD -/

/-- The outcome of a SEAM_CMD (SEAM_CMDRES): RESULT, DONE and the image after the command. -/
def Dev.seamResult (d : Dev) (b result : Nat) : Dev :=
  ((d.put F.SEAM_CMDRES_RESULT result).put F.SEAM_CMDRES_DONE 1).put F.SEAM_CMDRES_IMAGE (d.image b).toNat

/-- CLAIM through SEAM_CMD by owner code `who` (R274, R281). -/
def Dev.seamClaim (d : Dev) (who b xseq : Nat) : Dev :=
  if d.get (F.SEAM_REC_SEQ b) != xseq then d.seamResult b 2
  else if d.owner b != Own.none then d.seamResult b 1
  else (d.claimBlock b who).seamResult b 0

/-- GIVE through SEAM_CMD (R274, R281). -/
def Dev.seamGive (d : Dev) (who b xseq dest : Nat) (full : Bool) : Dev :=
  if d.get (F.SEAM_REC_SEQ b) != xseq then d.seamResult b 2
  else if d.owner b != who then d.seamResult b 1
  else (d.giveBlock b dest full).seamResult b 0

/-- QUERY through SEAM_CMD (R281). -/
def Dev.seamQuery (d : Dev) (b xseq : Nat) : Dev :=
  if d.get (F.SEAM_REC_SEQ b) != xseq then d.seamResult b 2 else d.seamResult b 0

/-- REVERT through SEAM_CMD: from the Collar only (R274, R281, R282). -/
def Dev.seamRevert (d : Dev) (who b xseq : Nat) : Dev :=
  if who != Own.collar then d.seamResult b 3
  else if d.get (F.SEAM_REC_SEQ b) != xseq then d.seamResult b 2
  else (d.revertBlock b).seamResult b 0

/-- SETHOME through SEAM_CMD: from the Collar only, XSEQ ignored (R274, R281, R282). -/
def Dev.seamSetHome (d : Dev) (who b home : Nat) (priv : Bool) : Dev :=
  if who != Own.collar then d.seamResult b 3
  else ((d.put (F.SEAM_REC_HOME b) home).putB (F.SEAM_REC_PRIVATE b) priv).seamResult b 0

/-! ## Task inputs -/

/-- Clear one input's pending count and OVF flag. -/
def Dev.clearInput (d : Dev) (pend ovf i : Nat) : Dev :=
  (d.setReg pend (withBits (d.reg pend) (2 * i + 1) (2 * i) 0)).setReg ovf (withBits (d.reg ovf) i i 0)

/-- ARM: route one input and clear its count and OVF; input 0 stays on CYCLE (R226, R290, R293). `rt` is the routing
register, `pend` and `ovf` the engine's count and flag registers. -/
def Dev.armInput (d : Dev) (rt pend ovf i src : Nat) (dis : Bool) : Dev :=
  let d := if i = 0 then d.setReg rt 0 else d.setReg rt (Word.ofN (dis.toNat * 2 ^ 13 + src % 64))
  d.clearInput pend ovf i

/-- Disconnect a Sleeve's inputs 1 to 31 and clear all counts (R291): `rt` its first routing register. -/
def Dev.disconnect (d : Dev) (rt pend ovf : Nat) : Dev :=
  ((List.range 32).foldl (fun d i => if i = 0 then d.setReg rt 0 else d.setReg (rt + i) 0x2000) d |>.setReg pend 0).setReg ovf 0

/-- The Collar's routing of Stage 2 (R292). -/
def collarRoutes : List Nat := [0, 48, 50, 49, 20, 19, 41, 44, 22, 23, 45, 39, 51, 43, 29, 42]

/-- Route the Collar's inputs (R292). -/
def Dev.routeCollar (d : Dev) : Dev :=
  (List.range 16).foldl (fun d i => d.armInput (F.EVT_RTC i) F.EVT_PENDC F.EVT_OVFC i (collarRoutes.getD i 0) false) d

/-- SW_EVENT_SET: each 1 raises its source once (R289). -/
def Dev.swSet (d : Dev) (bits : Nat) : Dev :=
  (List.range 8).foldl (fun d n => if (bits >>> n) % 2 = 1 then d.raise (Ev.sw n) else d) d

end Sys2Proof.Machine
end

