-- ==== Sys2Proof/Machine/Tdc.lean ====
section
/-!
DEFINITION. The time-to-digital converters TDC-A (unit 0) and TDC-B (unit 1): calibration, pairs, code density, jobs and
result blocks (spec/10_tdc.md R294 to R313). Exact quantities are fractions (numerator, denominator).
-/
namespace Sys2Proof.Machine

/-! ## Units, tables, fractions -/

/-- A unit. -/
def Dev.tdc (d : Dev) (u : Nat) : TdcUnit := if u = 0 then d.tdcA else d.tdcB

/-- Change a unit. -/
def Dev.tdcSet (d : Dev) (u : Nat) (f : TdcUnit → TdcUnit) : Dev := if u = 0 then d.onTdcA f else d.onTdcB f

/-- A unit that accepts work: not held under quiesce (R284, R312). -/
def Dev.tdcUp (d : Dev) (u : Nat) : Bool := !d.held.contains (7, u)

/-- n / d rounded to nearest, ties upward (R297, R308). -/
def nearest (n : Int) (d : Nat) : Int := (2 * n + d) / (2 * d)

/-- The accumulated weight of a bin. -/
def TdcTable.weight (t : TdcTable) (line tap : Nat) : Nat := Store.get (fun _ => 0) t.bins (line * 1024 + tap)

/-- The weights of the taps of a line below `tap`, summed. -/
def TdcTable.below (t : TdcTable) (line tap : Nat) : Nat :=
  (t.bins.filter (fun b => line * 1024 ≤ b.1 && b.1 < line * 1024 + tap)).foldl (fun s b => s + b.2) 0

/-- λ of a raw position on a line, as a fraction (the shape of R305, or 1/1,024 per tap while no table is active). -/
def lapPos (act : Option TdcTable) (line pos : Nat) : Nat × Nat :=
  match act with
  | none => (pos / 1024 * 2048 + 2 * (pos % 1024) + 1, 2048)
  | some t =>
    let all := t.below line 1024
    ratio (pos / 1024 * (2 * all) + 2 * t.below line (pos % 1024) + t.weight line (pos % 1024)) (2 * all)

/-- λ in periods: λ / Λ. -/
def inPeriods (lam big : Nat × Nat) : Nat × Nat := ratio (lam.1 * big.2) (lam.2 * big.1)

/-- The clock's settings now. -/
def Dev.clkSet (d : Dev) : ClkSet := ⟨d.get F.CLK_STAT_SRC, d.clk.depth, d.clk.secErr, d.getS F.CLK_HFERR_ERR⟩

/-- The period in ps of a SYSCLK cycle under the settings `s` at place `pos` of the spread profile, corrected by CLK_HFERR.ERR (R109, R133,
R300, R302). -/
def ClkSet.periodPs (s : ClkSet) (pos : Nat) : Nat × Nat :=
  let f := cycleFreq s.src s.depth s.secErr pos
  (1000000000000 * 1000000000 * f.2, f.1 * (1000000000 + s.err).toNat)

/-- The settings that the cycles of an open pair run under are kept, the latest last (R300). -/
def Dev.tdcNote (d : Dev) (u : Nat) : Dev :=
  if (d.tdc u).pair.isNone || (d.tdc u).hist.getLast? = some d.clkSet then d
  else d.tdcSet u (fun c => { c with hist := c.hist ++ [d.clkSet] })

/-! ## Calibration -/

/-- Λ of a line: the mean of λ(P₂) − λ(P₁), as a fraction (R301 step 4). -/
def lapPeriod (act : Option TdcTable) (line : Nat) (ps : List (Nat × Nat)) : Nat × Nat :=
  let ds := ps.map (fun (p : Nat × Nat) => ((lapPos act line p.2).1 : Int) - (lapPos act line p.1).1)
  ratio (ds.foldl (· + ·) 0).toNat ((lapPos act line 0).2 * ps.length)

/-- Δpos of a line, as a fraction (R301 step 4). -/
def posPeriod (ps : List (Nat × Nat)) : Nat × Nat :=
  ratio ((ps.map (fun (p : Nat × Nat) => (p.2 : Int) - p.1)).foldl (· + ·) 0).toNat ps.length

/-- T from the EXTREF stamp: M / (F_X × I_p) in ps, I_p = C − λ_p/Λ_p + λ_s/Λ_s in periods (R303). -/
def xrefPeriod (m fx c : Nat) (fs fp : Nat × Nat) : Nat × Nat :=
  let ip : Int := (c : Int) * (fs.2 * fp.2) - fp.1 * fs.2 + fs.1 * fp.2
  ratio (1000000000000 * m * (fs.2 * fp.2)) (fx * ip.toNat)

/-- The laps and the period of a calibration reach the registers, rounded to their LSB (R301, TDCu_PCALS, TDCu_TNOW). -/
def Dev.showCal (d : Dev) (u : Nat) : Dev :=
  let t := (d.tdc u).t
  let whole (r : Nat × Nat) : Nat := (near r.1 r.2).toNat
  let lapOf (l : Nat × Nat) : Nat := satTo (2 ^ 24 - 1) (whole (ratio (256 * t.1 * l.2) (t.2 * l.1)))
  let q20 (l : Nat × Nat) : Nat := satTo (2 ^ 24 - 1) (whole (ratio (l.1 * 2 ^ 20) l.2))
  let s := (d.tdc u).lamS
  let p := (d.tdc u).lamP
  let d := (((d.put (F.TDC_PCALS_LAP u) (lapOf s)).put (F.TDC_PCALS_LAMBDA u) (q20 s)).put (F.TDC_PCALP_LAP u)
    (lapOf p)).put (F.TDC_PCALP_LAMBDA u) (q20 p)
  (d.put (F.TDC_TNOW_T u) (satTo (2 ^ 48 - 1) (whole (ratio (t.1 * 65536) t.2)))).putB (F.TDC_TNOW_TB u)
    (d.tdc u).tb

/-- The unit has a job queued or a pair open, or a path's test shots are due, which the units stamp (R301, R329). -/
def Dev.tdcBusy (d : Dev) (u : Nat) : Bool :=
  !(d.tdc u).queue.isEmpty || (d.tdc u).pair.isSome || d.usf.paths.any (fun p => decide (64 ≤ p.2.age))

/-- The period calibration of a window is done (R301 to R303): CALN launches on each line, and the EXTREF stamp where that is the time base. It runs
when the unit has work in an open window and is not calibrated there yet; after a fence trip the unit waits for the next window (R311). -/
def Dev.tdcCalibrate (d : Dev) (u : Nat) (o : CalObs) : Dev :=
  let n := d.get (F.TDC_CFG_CALN u)
  let want := d.flag (F.TDC_CFG_TBASE u)
  let ext := want && d.clk.xrefTdc
  if !d.flag F.CLK_SLKSTAT_OPEN || !d.tdcUp u || (d.tdc u).cal || (d.tdc u).fenced || !d.tdcBusy u then d
  else if o.start.length < n || o.stop.length < n || (ext && o.xref.isNone) then d
  else
    let act := (d.tdc u).act
    let ls := lapPeriod act 0 (o.start.take n)
    let lp := lapPeriod act 1 (o.stop.take n)
    let t := match o.xref with
      | some (ps, pp, c) => if ext then xrefPeriod (2 ^ d.get (F.TDC_CFG_XCYC u)) (1000 * d.get F.CLK_XREF_FNOM) c
          (inPeriods (lapPos act 0 ps) ls) (inPeriods (lapPos act 1 pp) lp) else d.clkSet.periodPs d.clk.spreadPos
      | none => d.clkSet.periodPs d.clk.spreadPos
    let ds := posPeriod (o.start.take n)
    let dp := posPeriod (o.stop.take n)
    let d := d.tdcSet u (fun c => { c with cal := true, lamS := ls, lamP := lp, dpS := ds, dpP := dp, t := t, tb := ext })
    (d.putB (F.TDC_STAT_XBFALL u) (want && !ext)).showCal u

/-- A window opens for a unit: its dither edges count from 0, and it may calibrate (R301, R304). -/
def Dev.tdcOpen (d : Dev) (u : Nat) : Dev := d.tdcSet u (fun c => { c with dither := 0, fenced := false })

/-! ## Code density -/

/-- The coverage m_j of R305. -/
def coverage (reach tap : Nat) : Nat := if tap + 1 ≤ reach then (reach - tap - 1) / 1024 + 1 else 0

/-- `reach` of R305: twice Δpos in full run, Δpos in lean run, rounded to nearest. -/
def reachOf (full : Bool) (dp : Nat × Nat) : Nat := (roundOpen ((if full then 2 else 1) * dp.1) (max 1 dp.2)).toNat

/-- One sample at `tap` of a line is weighted into the table (R305). -/
def TdcTable.sample (t : TdcTable) (line tap reach : Nat) : TdcTable :=
  let m := coverage reach tap
  if m = 0 then t
  else
    let bins := Store.set (fun _ => 0) t.bins (line * 1024 + tap) (t.weight line tap + 60 / m)
    if line = 0 then { t with bins := bins, n0 := t.n0 + 1 } else { t with bins := bins, n1 := t.n1 + 1 }

/-- The sample counts reach TDCu_HITS. -/
def Dev.showHits (d : Dev) (u : Nat) : Dev :=
  let c := d.tdc u
  (d.put (F.TDC_HITS_SHADOW u) (min c.bld.n0 c.bld.n1)).put (F.TDC_HITS_ACTIVE u)
    (match c.act with | none => 0 | some t => min t.n0 t.n1)

/-- TDC_DITHER_SAMPLE: one dither edge, sampled on both lines; the raw positions of its samples, one in lean run, two in
full run (R304, R305). -/
def Dev.tdcDither (d : Dev) (u : Nat) (starts stops : List Nat) : Dev :=
  let c := d.tdc u
  if !d.flag F.CLK_SLKSTAT_OPEN || !d.tdcUp u || !c.cal || c.pair.isSome || !c.queue.isEmpty
      || c.dither ≥ 64 * d.get (F.TDC_CFG_DMAX u) then d
  else
    let full := d.get F.CLK_STAT_SRC == 2
    let k := if full then 2 else 1
    let put (line : Nat) (r : Nat) (t : TdcTable) (ps : List Nat) : TdcTable :=
      (ps.take k).foldl (fun t p => t.sample line (p % 1024) r) t
    let t := put 1 (reachOf full c.dpP) (put 0 (reachOf full c.dpS) c.bld starts) stops
    (d.tdcSet u (fun c => { c with bld := t, dither := c.dither + 1 })).showHits u

/-- At the end of a window: the table that reached its count becomes active, both lines together (R306). -/
def Dev.tdcPromote (d : Dev) (u : Nat) : Dev :=
  let c := d.tdc u
  let want := if c.act.isNone then 2 ^ 20 else 2 ^ (20 + d.get (F.TDC_CFG_CDN u))
  if want ≤ min c.bld.n0 c.bld.n1 then
    (d.tdcSet u (fun c => { c with act := some c.bld, bld := TdcTable.empty })).showHits u
  else d

/-- TDCu_BINDATA: the weight of the selected bin. -/
def Dev.binData (d : Dev) (u : Nat) : Nat :=
  let line := d.get (F.TDC_BINSEL_LINE u)
  let tap := d.get (F.TDC_BINSEL_BIN u)
  let w := if d.flag (F.TDC_BINSEL_BANK u) then (d.tdc u).bld.weight line tap
    else match (d.tdc u).act with
      | none => 0
      | some t => t.weight line tap
  satTo (2 ^ 36 - 1) w

/-! ## Jobs -/

/-- Flags of R310. -/
abbrev tfProv : Nat := 1
abbrev tfUnres : Nat := 2
abbrev tfOrder : Nat := 4
abbrev tfOvf : Nat := 8
abbrev tfTmo : Nat := 16
abbrev tfNoSlack : Nat := 32
abbrev tfXbFall : Nat := 64
abbrev tfShort : Nat := 128
abbrev tfDist : Nat := 256
abbrev tfRedirect : Nat := 512

/-- A job with no attempt yet. -/
def TdcJob.new (usf : Option Nat) (path : Nat) (ebb : Bool) (who block n : Nat) (list win redirect orphan : Bool) : TdcJob :=
  ⟨.usf, false, .usf, false, usf, path, ebb, who, block, n, list, win, redirect, orphan, 0, [], [], 0, 0, 0, 0, 0, 0⟩

/-- The flags of a finished job (R309). -/
def TdcJob.finalFlags (j : TdcJob) : Nat :=
  (j.flags ||| (if j.xs.length < j.n then tfShort else 0)) ||| (if j.redirect then tfRedirect else 0)

/-- MEAN of R308. -/
def tdcMean (xs : List Nat) : Nat :=
  if xs.isEmpty then 0 else (nearest ((xs.foldl (· + ·) 0 : Nat) * 65536) xs.length).toNat

/-- VAR of R308: (n Σx² − (Σx)²) / n², rounded and saturated. -/
def tdcVar (xs : List Nat) : Nat :=
  let n := xs.length
  if n = 0 then 0
  else
    let s := xs.foldl (· + ·) 0
    let q := xs.foldl (fun a x => a + x * x) 0
    satTo (2 ^ 72 - 1) (nearest ((n * q : Nat) - (s * s : Nat)) (n * n)).toNat

/-- The entry words of a result block (R309): 55 of them. -/
def tdcEntries (j : TdcJob) : List Word :=
  (List.range 55).map (fun i =>
    if j.list then
      match j.ents[i]? with
      | some e => Word.ofN (e.1 * 2 ^ 60 + e.2)
      | none => 0
    else 0)

/-- Words 0 to 62 of a job's result block (R309). -/
def Dev.tdcBlock (d : Dev) (u : Nat) (j : TdcJob) : List Word :=
  let sat16 := satTo 65535
  [ Word.ofN (2 ^ 64 + j.finalFlags * 2 ^ 52 + u * 2 ^ 48 + j.n * 2 ^ 32 + sat16 j.xs.length * 2 ^ 16),
    Word.ofN (sat16 j.nUnres * 2 ^ 48 + sat16 j.nOrder * 2 ^ 32 + sat16 j.nOvf * 2 ^ 16 + sat16 j.nTmo),
    Word.ofN (sat16 j.nEarly * 2 ^ 56 + d.get (F.TDC_TNOW_TB u) * 2 ^ 48 + d.get (F.TDC_TNOW_T u)),
    Word.ofN (tdcMean j.xs),
    Word.ofN (j.xs.foldl min (j.xs.headD 0)), Word.ofN (j.xs.foldl max 0),
    Word.ofN (tdcVar j.xs),
    Word.ofN (d.get (F.TDC_PCALS_LAP u) * 2 ^ 24 + d.get (F.TDC_PCALP_LAP u)) ] ++ tdcEntries j

/-- The low 56 bits of a completion word that carries a unit and the time (R309, R323, R339). -/
def Dev.doneLow (d : Dev) (unit : Nat) : Nat := unit * 2 ^ 52 + (d.reg F.TIDE_SEC).toNat % 2 ^ 48

/-- A finished job leaves the queue and its USF request the front end's queue. -/
def Dev.dropJob (d : Dev) (u : Nat) (j : TdcJob) : Dev :=
  let d := d.tdcSet u (fun c => { c with queue := c.queue.tail, pair := none, hist := [] })
  match j.usf with
  | none => d
  | some i => d.onUsf (fun s => { s with queue := s.queue.filter (fun r => r.id != i) })

/-- The jobs at the head of the queue whose requester did not own the block: nothing is stamped, the done event is raised
and SEAM_STAT.ORPHN counts (R278, R307). -/
def Dev.tdcServeN (d : Dev) (u : Nat) : Nat → Dev
  | 0 => d
  | k + 1 =>
    match (d.tdc u).queue with
    | [] => d
    | j :: _ =>
      if j.orphan then (((d.dropJob u j).raise (Ev.tdcDone u)).bump F.SEAM_STAT_ORPHN).tdcServeN u k else d

/-- Serve the head of the queue. -/
def Dev.tdcServe (d : Dev) (u : Nat) : Dev := d.tdcServeN u 8

/-- Where the last timing result of a path and direction stands is kept for a FALLBACK_FILL (R253; log 84). -/
def Dev.pathResult (d : Dev) (j : TdcJob) (low : Nat) : Dev :=
  let c := d.get F.COLLAR_CYCLE_CYCLE
  let k := 2 * j.path + j.ebb.toNat
  if j.usf.isNone then d else d.onUsf (fun s => { s with results := Store.insert (Store.erase s.results k) k (j.block, c, low) })

/-- TDC_JOB_DONE: the head job's statistics block, the gift to the requester, the done event (R308, R309). -/
def Dev.tdcFinish (d : Dev) (u : Nat) : Dev :=
  match (d.tdc u).queue with
  | [] => d
  | j :: _ =>
    let d := (d.fillBlock j.block Own.tdc (d.tdcBlock u j)).pathResult j (d.doneLow u)
    let d := (d.dropJob u j).giveBack j.block j.who 0 Own.tdc (d.doneLow u)
    (d.raise (Ev.tdcDone u)).tdcServe u

/-- Change the head job. -/
def TdcUnit.onHead (c : TdcUnit) (f : TdcJob → TdcJob) : TdcUnit :=
  match c.queue with
  | [] => c
  | j :: js => { c with queue := f j :: js }

/-- A path's hidden state, and its change. -/
def PathSt.zero : PathSt := ⟨0, 0, 0, false, 0, 0, [], []⟩
def Dev.pathSt (d : Dev) (p : Nat) : PathSt := Store.get (fun _ => PathSt.zero) d.usf.paths p
def Dev.onPath (d : Dev) (p : Nat) (f : PathSt → PathSt) : Dev :=
  let v := f (d.pathSt p)
  d.onUsf (fun s => { s with paths := Store.set (fun _ => PathSt.zero) s.paths p v })

/-- What a collected pair of a USF job leaves in the window's record of its path (R316, R317, R327). -/
def Dev.pairCollected (d : Dev) (j : TdcJob) (x : Nat) : Dev :=
  if j.usf.isNone then d
  else
    let d := d.onUsf (fun s => { s with shot := s.shot.map (fun t => { t with got := true }) })
    d.onPath j.path (fun p => if j.ebb then { p with ebbs := p.ebbs ++ [x] } else { p with floods := p.floods ++ [x] })

/-- How a pair ends (R298). -/
inductive PairEnd
  | normal (x : Nat)
  | unresolved
  | order
  | overflow
  | timedOut
deriving DecidableEq, Repr

/-- The flag of an outcome (R298, R310). -/
def PairEnd.flag : PairEnd → Nat
  | .normal _ => 0
  | .unresolved => tfUnres
  | .order => tfOrder
  | .overflow => tfOvf
  | .timedOut => tfTmo

/-- The interval of an outcome (R298). -/
def PairEnd.interval : PairEnd → Nat
  | .normal x => x
  | _ => 0

/-- The job's tally of an outcome (R308, R309). -/
def TdcJob.tally (j : TdcJob) (e : PairEnd) (flags : Nat) : TdcJob :=
  let j := { j with flags := j.flags ||| flags, ents := if j.ents.length < 55 then j.ents ++ [(flags, e.interval)] else j.ents }
  match e with
  | .normal x => { j with xs := j.xs ++ [x] }
  | .unresolved => { j with nUnres := j.nUnres + 1 }
  | .order => { j with nOrder := j.nOrder + 1 }
  | .overflow => { j with nOvf := j.nOvf + 1 }
  | .timedOut => { j with nTmo := j.nTmo + 1 }

/-- The unit's counter of an outcome (TDCu_STAT). -/
def Dev.countEnd (d : Dev) (u : Nat) (e : PairEnd) : Dev :=
  match e with
  | .normal _ => d
  | .unresolved => d.bump (F.TDC_STAT_UNRESN u)
  | .order => d.bump (F.TDC_STAT_ORDERN u)
  | .overflow => d.bump (F.TDC_STAT_LOSTN u)
  | .timedOut => d.bump (F.TDC_STAT_LOSTN u)

/-- The flags of an attempt (R310). -/
def Dev.pairFlags (d : Dev) (u : Nat) (e : PairEnd) (win : Bool) : Nat :=
  e.flag ||| (if (d.tdc u).act.isNone then tfProv else 0) ||| (if win then 0 else tfNoSlack)
    ||| (if d.flag (F.TDC_STAT_XBFALL u) then tfXbFall else 0)

/-- TDCu_LAST and the unit's counters show an attempt's end (R298, R310). -/
def Dev.showEnd (d : Dev) (u : Nat) (e : PairEnd) (flags : Nat) : Dev :=
  ((d.put (F.TDC_LAST_FLAGS u) flags).put (F.TDC_LAST_INTERVAL u) e.interval).countEnd u e

/-- The open pair ends (R298, R308, R310); the job ends with its last attempt (R307). -/
def Dev.tdcEnd (d : Dev) (u : Nat) (e : PairEnd) : Dev :=
  match (d.tdc u).pair, (d.tdc u).queue with
  | some _, j :: _ =>
    let flags := d.pairFlags u e j.win
    let d := d.tdcSet u (fun c => { (c.onHead (fun j => j.tally e flags)) with pair := none, hist := [] })
    let d := d.showEnd u e flags
    let d := match e with
      | .normal x => d.pairCollected j x
      | _ => d
    if j.n ≤ j.tries then d.tdcFinish u else d
  | _, _ => d

/-- The unit can take a start edge: an open job, no open pair; in an open window the unit is calibrated first, and a
windowed pair needs the window; a USF pair needs its launched shot (R298, R299, R301). -/
def Dev.tdcReady (d : Dev) (u : Nat) : Bool :=
  match (d.tdc u).queue with
  | [] => false
  | j :: _ =>
    (d.tdc u).pair.isNone && d.tdcUp u && (if d.flag F.CLK_SLKSTAT_OPEN then (d.tdc u).cal else !j.win)
      && (match j.usf with
          | none => true
          | some i => match d.usf.shot with
            | some s => s.id == i && !s.wave
            | none => false)

/-- An edge is the one a job takes: its source, and the polarity it asks of a pin or of EXTREF (TDCu_JOB). -/
def edgeFits (want : EdgeSrc) (fall : Bool) (src : EdgeSrc) (rising : Bool) : Bool := src == want && (src == .usf || rising != fall)

/-- TDC_START_EDGE: the start is sampled at raw position `pos`: a pair is attempted (R297, R307). `k`: the place in the spread profile of the
cycle before that sampling. -/
def Dev.tdcStart (d : Dev) (u : Nat) (src : EdgeSrc) (rising : Bool) (k pos : Nat) : Dev :=
  match (d.tdc u).queue with
  | [] => d
  | j :: _ =>
    if d.tdcReady u && edgeFits j.startSrc j.startFall src rising then
      let t := d.clkSet.periodPs k
      d.tdcSet u (fun c => { (c.onHead (fun j => { j with tries := j.tries + 1 })) with pair := some pos, startT := t, hist := [d.clkSet] })
    else d

/-- The coarse time of an unwindowed pair: the periods of its cycles, given under each of the clock's settings in turn as runs of (cycles, place
in the spread profile) (R300). -/
def coarsePs (hist : List ClkSet) (runs : List (List (Nat × Nat))) : Nat × Nat :=
  (hist.zip runs).foldl (fun s h => h.2.foldl (fun s r => let p := h.1.periodPs r.2; (s.1 * p.2 + r.1 * p.1 * s.2, s.2 * p.2)) s) (0, 1)

/-- The cycles of those runs. -/
def coarseN (hist : List ClkSet) (runs : List (List (Nat × Nat))) : Nat :=
  (hist.zip runs).foldl (fun s h => h.2.foldl (fun s r => s + r.1) s) 0

/-- The period of the last of those cycles. -/
def lastPs (hist : List ClkSet) (runs : List (List (Nat × Nat))) : Option (Nat × Nat) :=
  (((hist.zip runs).flatMap (fun h => h.2.map (fun r => h.1.periodPs r.2))).getLast?)

/-- The periods in lap units of both lines and the period T that a pair of a unit uses: those of its last period
calibration (R297, R300). With none, or one whose mean is 0, no rule gives them: they are free values (log 96). -/
def Dev.pairCal (d : Dev) (u : Nat) : ((Nat × Nat) × (Nat × Nat) × (Nat × Nat)) × Dev :=
  let un := d.tdc u
  if un.lamS.1 != 0 && un.lamP.1 != 0 then ((un.lamS, un.lamP, un.t), d)
  else
    let v (k : Nat) : Nat := Config.freeValue (d.freeN + k)
    (((v 0 + 1, 2 ^ 20), (v 1 + 1, 2 ^ 20), (v 2, 2 ^ 16)), d.onFreeN (· + 3))

/-- The edge belongs to the earlier period (R297). -/
def early (f : Nat × Nat) : Bool := f.2 ≤ f.1

/-- Sum and difference of fractions. -/
def fracAdd (a b : Int × Nat) : Int × Nat := (a.1 * b.2 + b.1 * a.2, a.2 * b.2)
def fracSub (a b : Int × Nat) : Int × Nat := (a.1 * b.2 - b.1 * a.2, a.2 * b.2)
def fracMul (a b : Int × Nat) : Int × Nat := (a.1 * b.1, a.2 * b.2)
def fracOf (a : Nat × Nat) : Int × Nat := let r := ratio a.1 a.2; (r.1, r.2)

/-- The outcome of a stop sampled `c` edges after the start (R297, R298). `ps`, `pp` are the raw positions, `fs`, `fp`
λ / Λ of start and stop, `t` the period T, `coarse` the coarse time in ps before an edge index moves, `first` and `last`
the periods of the cycles that a moved start adds and a moved stop takes off. -/
def pairOutcome (c ps pp : Nat) (fs fp t coarse first last : Nat × Nat) : PairEnd :=
  let ca : Int := (c : Int) + (early fs).toNat - (early fp).toNat
  let fs1 := if early fs then (fs.1 - fs.2, fs.2) else fs
  let fp1 := if early fp then (fp.1 - fp.2, fp.2) else fp
  if ca = 0 && ps = pp then .unresolved
  else if ca < 0 || (ca = 0 && fs1.1 * fp1.2 < fp1.1 * fs1.2) then .order
  else
    let x := fracAdd (fracOf coarse) (if early fs then fracOf first else (0, 1))
    let x := fracSub x (if early fp then fracOf last else (0, 1))
    let x := fracAdd x (fracMul (fracOf t) (fracSub (fracOf fs1) (fracOf fp1)))
    .normal (max 0 (min (2 ^ 48 - 1) (nearest (256 * x.1) (max 1 x.2)))).toNat

/-- The open pair's coarse counter has passed 2^24 - 1 (R298). A direct unwindowed job ends with OVF on its open pair (R307). -/
def Dev.tdcOverflows (d : Dev) (u : Nat) : Dev :=
  match (d.tdc u).pair, (d.tdc u).queue with
  | some _, j :: _ =>
    let d1 := d.tdcEnd u .overflow
    if j.win || j.n ≤ j.tries then d1 else d1.tdcFinish u
  | _, _ => d

/-- TDC_STOP_EDGE: a stop sampled at `pos`, `c` edges after the start's sampling; `runs` lists the counted cycles of an unwindowed pair under each
setting of the clock since its start. With no start sampled it is an early stop; before the calibration of an open window no edge is accepted (R297, R298,
R300, R301). -/
def Dev.tdcStop (d : Dev) (u : Nat) (src : EdgeSrc) (rising : Bool) (c pos : Nat) (runs : List (List (Nat × Nat))) : Dev :=
  match (d.tdc u).pair, (d.tdc u).queue with
  | some ps, j :: _ =>
    if !edgeFits j.stopSrc j.stopFall src rising || (d.flag F.CLK_SLKSTAT_OPEN && !(d.tdc u).cal) then d
    else
      let h := (d.tdc u).hist
      let c := if j.win then c else coarseN h runs
      if 2 ^ 24 ≤ c then d.tdcOverflows u
      else
        let act := (d.tdc u).act
        let q := d.pairCal u
        let t := q.1.2.2
        let coarse := if j.win then (c * t.1, max 1 t.2) else coarsePs h runs
        let first := if j.win then t else (d.tdc u).startT
        let last := if j.win then t else (lastPs h runs).getD (d.tdc u).startT
        q.2.tdcEnd u (pairOutcome c ps pos (inPeriods (lapPos act 0 ps) q.1.1) (inPeriods (lapPos act 1 pos) q.1.2.1)
          t coarse first last)
  | none, j :: _ =>
    if d.tdcReady u && edgeFits j.stopSrc j.stopFall src rising then
      (d.bump (F.TDC_STAT_EARLYN u)).tdcSet u (fun c => c.onHead (fun j => { j with nEarly := j.nEarly + 1 }))
    else d
  | _, [] => d

/-- TDC_COARSE_OVERFLOW: 2^24 − 1 passed with no stop on an unwindowed pair (R298, R300). -/
def Dev.tdcOverflow (d : Dev) (u : Nat) : Dev :=
  match (d.tdc u).queue with
  | [] => d
  | j :: _ => if j.win then d else d.tdcOverflows u

/-- TDC_PAIR_TMO: a windowed pair with no stop at the window's close ends with TMO (R298). -/
def Dev.tdcTimeout (d : Dev) (u : Nat) : Dev :=
  match (d.tdc u).queue with
  | [] => d
  | j :: _ => if j.win then d.tdcEnd u .timedOut else d

/-- A window closes for a unit (R298, R306). -/
def Dev.tdcClose (d : Dev) (u : Nat) : Dev :=
  let d := (d.tdcTimeout u).tdcPromote u
  d.tdcSet u (fun c => { c with cal := false })

/-- A fence trip in a window: TMO on the open pair, DIST on the job, whose remaining attempts wait for the next window (R311). -/
def Dev.tdcFence (d : Dev) (u : Nat) : Dev :=
  let d := d.tdcSet u (fun c => c.onHead (fun j => { j with flags := j.flags ||| tfDist }))
  (d.tdcEnd u .timedOut).tdcSet u (fun c => { c with cal := false, fenced := true })

/-- At a cycle boundary every job ends with the pairs attempted so far (R307). An open pair counts as attempted and timed
out (log 85). -/
def Dev.tdcBoundaryN (d : Dev) (u : Nat) : Nat → Dev
  | 0 => d
  | k + 1 =>
    match (d.tdc u).queue with
    | [] => d
    | j :: _ =>
      let last := (d.tdc u).pair.isSome && j.n ≤ j.tries
      let d := if (d.tdc u).pair.isSome then d.tdcEnd u .timedOut else d
      (if last then d else d.tdcFinish u).tdcBoundaryN u k

def Dev.tdcBoundary (d : Dev) (u : Nat) : Dev := d.tdcBoundaryN u 8

/-- A job joins a unit's queue: the block is taken from its requester under R277, or the job is an orphan (R278). -/
def Dev.tdcQueue (d : Dev) (u : Nat) (j : TdcJob) : Dev :=
  let own := d.owner j.block == j.who
  let d := if own then d.giveBlock j.block Own.tdc false else d
  (d.tdcSet u (fun c => { c with queue := c.queue ++ [{ j with orphan := !own }] })).tdcServe u

/-- The unit that serves work addressed to `u`, and whether it is redirected (R312). -/
def Dev.tdcFor (d : Dev) (u : Nat) : Option (Nat × Bool) :=
  if d.tdcUp u then some (u, false) else if d.tdcUp (1 - u) then some (1 - u, true) else none

/-- TDC_JOB_WRITE by owner code `who`: the word after R13 (R307). -/
def Dev.tdcJobWrite (d : Dev) (u who : Nat) (w : Word) : Dev :=
  if bitsOf w 0 0 = 0 then d
  else
    match d.tdcFor u with
    | none => d.put (F.TDC_JOBRES_RESULT u) 2
    | some (v, red) =>
      if (d.tdc v).queue.length ≥ 8 then d.put (F.TDC_JOBRES_RESULT u) 1
      else
        let j0 := TdcJob.new none 0 false who (bitsOf w 55 48) (max 1 (bitsOf w 47 32)) (bitsOf w 30 30 == 1)
          (bitsOf w 29 29 == 1) red false
        let from_ (x : Bool) (tp : Nat) : EdgeSrc := if x then .extref else .tp tp
        let j := { j0 with startSrc := from_ (bitsOf w 25 25 == 1) (bitsOf w 19 16), startFall := bitsOf w 27 27 == 1,
                           stopSrc := from_ (bitsOf w 26 26 == 1) (bitsOf w 23 20), stopFall := bitsOf w 28 28 == 1 }
        (d.put (F.TDC_JOBRES_RESULT u) 0).tdcQueue v j

/-- A job completes with BLOCK_RESET (R283 step 3, R312): the block goes back with that status, the done event is
raised. -/
def Dev.tdcResetJob (d : Dev) (u : Nat) (j : TdcJob) : Dev :=
  let d := match j.usf with
    | none => d
    | some i => d.onUsf (fun s => { s with queue := s.queue.filter (fun r => r.id != i) })
  let d := if j.orphan then d.bump F.SEAM_STAT_ORPHN else d.giveBack j.block j.who 8 Own.tdc (d.doneLow u)
  d.raise (Ev.tdcDone u)

/-- A unit is quiesced: every job completes with BLOCK_RESET, tables and calibration are lost (R306, R312). -/
def Dev.tdcQuiesce (d : Dev) (u : Nat) : Dev :=
  let js := (d.tdc u).queue
  let d := d.tdcSet u (fun c => { TdcUnit.init with dither := c.dither, fenced := c.fenced })
  js.foldl (fun d j => d.tdcResetJob u j) d

/-- TDCu_STAT's live bits: STATE, PROV, QFULL, HELD and CLR (R306, R307). -/
def Dev.settleTdc (d : Dev) (u : Nat) : Dev :=
  let c := d.tdc u
  let open_ := d.flag F.CLK_SLKSTAT_OPEN
  let st := if !d.tdcUp u then 0
    else match c.queue with
      | [] => if open_ && c.cal && c.dither < 64 * d.get (F.TDC_CFG_DMAX u) then 4 else 0
      | j :: _ => if open_ && !c.fenced then (if c.cal then 3 else 2) else if j.win then 1 else 3
  let d := ((d.put (F.TDC_STAT_STATE u) st).putB (F.TDC_STAT_PROV u) c.act.isNone).putB (F.TDC_STAT_QFULL u)
    (decide (c.queue.length ≥ 8))
  (d.putB (F.TDC_STAT_HELD u) (!d.tdcUp u)).putB (F.TDC_STAT_CLR u)
    (d.get (F.TDC_STAT_EARLYN u) + d.get (F.TDC_STAT_ORDERN u) + d.get (F.TDC_STAT_UNRESN u) + d.get (F.TDC_STAT_LOSTN u) != 0)

/-- Writing 1 to CLR clears the four counters. -/
def Dev.tdcClear (d : Dev) (u : Nat) : Dev :=
  (((d.put (F.TDC_STAT_EARLYN u) 0).put (F.TDC_STAT_ORDERN u) 0).put (F.TDC_STAT_UNRESN u) 0).put (F.TDC_STAT_LOSTN u) 0

end Sys2Proof.Machine
end

