-- ==== Sys2Proof/Machine/Usf.lean ====
section
/-!
DEFINITION. The installation-fault detectors and the ultrasonic front end (spec/11_flow_and_temperature.md R314 to R329,
R341, R342, R344).
-/
namespace Sys2Proof.Machine

/-! ## Detectors -/

/-- One bit of a field of bits. -/
def Dev.bit (d : Dev) (f : Fld) (i : Nat) : Bool := (d.get f >>> i) % 2 == 1
def Dev.putBit (d : Dev) (f : Fld) (i : Nat) (b : Bool) : Dev :=
  d.put f (if b then d.get f ||| 2 ^ i else d.get f - (if (d.get f >>> i) % 2 = 1 then 2 ^ i else 0))

/-- A flag of the data log's current periods (R370). -/
def Dev.logFlag (d : Dev) (f : Nat) : Dev := d.onMet (fun m => { m with flagsH := m.flagsH ||| f, flagsD := m.flagsD ||| f })

/-- The consecutive results of a detector that disagree with its state (R341). -/
def Dev.detCount (d : Dev) (key : Nat) : Nat := Store.get (fun _ => 0) d.detect key
def Dev.setDet (d : Dev) (key v : Nat) : Dev := d.onDetect (fun l => Store.set (fun _ => 0) l key v)

/-- One result of detector `key`, whose state is bit `i` of `f`: confirmed or cleared after NFLT results in a row (R341).
A confirmed fault raises INSTFAULT and writes record `ty` with `vals`; a clearing writes IF_CLEARED (R344). -/
def Dev.detector (d : Dev) (key : Nat) (f : Fld) (i : Nat) (bad : Bool) (ty : Nat) (vals : List Nat) : Dev :=
  if bad == d.bit f i then d.setDet key 0
  else
    let n := d.detCount key + 1
    if n < d.get F.MET_IFCFG_NFLT then d.setDet key n
    else
      let d := (d.setDet key 0).putBit f i bad
      if bad then (((d.raise Ev.instfault).logFlag 8).noteVals ty 127 vals).pushAlarm AlarmCode.instfault (ty :: vals) else d.noteVals 0x87 127 [key / 16, i]

/-- Detector keys: transducer open and swapped per path, probe per input, reference per pair, probes swapped per
channel. -/
abbrev detOpen (p : Nat) : Nat := p
abbrev detSwap (p : Nat) : Nat := 16 + p
abbrev detProbe (i : Nat) : Nat := 32 + i
abbrev detRef (k : Nat) : Nat := 48 + k
abbrev detPswap (c : Nat) : Nat := 64 + c

/-! ## The trusted parameter area -/

/-- The first word of the trusted parameter area (R536). -/
abbrev paramBase : Nat := 0x86000

/-- A parameter word. -/
def Dev.param (d : Dev) (off : Nat) : Word := d.load (paramBase + off)

/-- Word `k` of path `p`'s calibration record (R324). -/
def Dev.pathParam (d : Dev) (p k : Nat) : Word := d.param (0x100 + 0x10 * p + k)

/-! ## Requests -/

/-- A shot request's fields after R13 (R318). -/
structure UsfWord where
  block : Nat
  path : Nat
  ebb : Bool
  wave : Bool
  unit : Nat
  list : Bool
  tag : Nat
  n : Nat
  srate : Nat
  start : Nat
deriving DecidableEq, Repr

/-- The request word of R318 under R13. -/
def usfWord (w : Word) : UsfWord :=
  let wave := bitsOf w 60 60 == 1
  ⟨bitsOf w 71 64, bitsOf w 63 62, bitsOf w 61 61 == 1, wave, if bitsOf w 59 58 = 3 then 0 else bitsOf w 59 58,
    bitsOf w 57 57 == 1, bitsOf w 55 48, max 1 (if wave then min 256 (bitsOf w 47 32) else bitsOf w 47 32),
    max 1 (min 7 (bitsOf w 31 28)), bitsOf w 19 0⟩

def Dev.pathLost (d : Dev) (p : Nat) : Bool := d.bit F.USF_STAT_LOST p
def Dev.pathHeld (d : Dev) (p : Nat) : Bool := d.held.contains (8, p)

/-- A path that takes requests (R320, USF_PATHp_CFG.EN). -/
def Dev.pathOk (d : Dev) (p : Nat) : Bool := d.flag (F.USF_PATH_CFG_EN p) && !d.pathLost p && !d.pathHeld p

/-- The waveform result block, words 0 to 62 (R323). -/
def Dev.waveBlock (d : Dev) (r : UsfReq) : List Word :=
  let mean (i : Nat) : Nat := if r.taken = 0 then 0 else unsigned 12 (roundOpen (r.sums.getD i 0) r.taken)
  Word.ofN (2 ^ 64 + d.get (F.USF_AGC_GAIN r.path) * 2 ^ 48 + r.taken * 2 ^ 32 + r.start)
    :: (List.range 62).map (fun k => Word.ofN ((List.range 6).foldl (fun a i => a * 4096 + mean (6 * k + i)) 0))

/-- A request leaves the queue. -/
def Dev.dropReq (d : Dev) (id : Nat) : Dev := d.onUsf (fun s => { s with queue := s.queue.filter (fun r => r.id != id) })

/-- WAVEFORM_DONE (R323). -/
def Dev.waveDone (d : Dev) (r : UsfReq) : Dev :=
  let d := (d.fillBlock r.block Own.usf (d.waveBlock r)).dropReq r.id
  (d.giveBack r.block r.who 0 Own.usf (d.doneLow r.path)).raise Ev.usfDone

/-- A waveform request whose requester did not own the block is over: the done event is raised, SEAM_STAT.ORPHN counts
(R278). -/
def Dev.waveOrphan (d : Dev) (r : UsfReq) : Dev := ((d.dropReq r.id).raise Ev.usfDone).bump F.SEAM_STAT_ORPHN

/-- Waveform requests at the head of the queue whose requester did not own the block (R278). -/
def Dev.usfServeN (d : Dev) : Nat → Dev
  | 0 => d
  | k + 1 =>
    match d.usf.queue with
    | [] => d
    | r :: _ => if r.wave && r.orphan then (d.waveOrphan r).usfServeN k else d

def Dev.usfServe (d : Dev) : Dev := d.usfServeN 8

/-- Queue a shot request by owner code `who`; the result is 0 QUEUED, 1 FULL, 2 UNAVAILABLE (R227, R277, R278, R320). -/
def Dev.usfQueue (d : Dev) (who : Nat) (q : UsfWord) : Dev × Nat :=
  let want := if q.unit = 0 then q.ebb.toNat else q.unit - 1
  if !d.pathOk q.path then (d, 2)
  else if q.wave then
    if d.usf.queue.length ≥ 8 then (d, 1)
    else
      let own := d.owner q.block == who
      let d1 := if own then d.giveBlock q.block Own.usf false else d
      let r : UsfReq := ⟨d.nextId, q.block, q.path, q.ebb, true, 0, q.n, q.srate, q.start, who, !own, q.n, 0, []⟩
      (((d1.onUsf (fun s => { s with queue := s.queue ++ [r] })).onNextId (· + 1)).usfServe, 0)
  else
    match d.tdcFor want with
    | none => (d, 2)
    | some (u, red) =>
      if d.usf.queue.length ≥ 8 || (d.tdc u).queue.length ≥ 8 then (d, 1)
      else
        let orphan := d.owner q.block != who
        let r : UsfReq := ⟨d.nextId, q.block, q.path, q.ebb, false, u, q.n, q.srate, q.start, who, orphan, q.n, 0, []⟩
        let d1 := (d.onUsf (fun s => { s with queue := s.queue ++ [r] })).onNextId (· + 1)
        (d1.tdcQueue u (TdcJob.new (some d.nextId) q.path q.ebb who q.block q.n q.list true red orphan), 0)

/-- SHOT: the request by an engine; USF_REQRES shows its result (R227, R319). -/
def Dev.usfShot (d : Dev) (who : Nat) (q : UsfWord) : Dev × Nat :=
  let r := d.usfQueue who q
  (r.1.put F.USF_REQRES_RESULT r.2, r.2)

/-- The TAG a port queued last (R319): 0 the host port, 1 the debug port. -/
def Dev.usfTag (d : Dev) (port : Nat) : Option Nat := if port = 0 then d.usf.tagHost else d.usf.tagDbg

/-- USF_REQUEST: a write to USF_REQ. A port's write needs a new TAG (R319); `port` is none for programs, loop and radio. -/
def Dev.usfRequest (d : Dev) (who : Nat) (port : Option Nat) (w : Word) : Dev :=
  let q := usfWord w
  let r := d.usfQueue who q
  match port with
  | none => r.1.put F.USF_REQRES_RESULT r.2
  | some p =>
    if d.usfTag p = some q.tag then d
    else if r.2 = 0 then
      let d1 := r.1.onUsf (fun s => if p = 0 then { s with tagHost := some q.tag } else { s with tagDbg := some q.tag })
      (d1.put F.USF_REQRES_RESULT 0).put F.USF_REQRES_TAG q.tag
    else r.1.put F.USF_REQRES_RESULT r.2

/-! ## Shots -/

/-- The request can have its next shot: its TDC job is its unit's open job (R307, R321). -/
def Dev.reqReady (d : Dev) (r : UsfReq) : Bool :=
  r.left != 0 && (r.wave || match (d.tdc r.unit).queue with
    | [] => false
    | j :: _ => j.usf == some r.id)

/-- The next request of path `p`, shot by shot in queue order from the one served last; the oldest first where the USF comes to the path (R321). -/
def Dev.pathNext (d : Dev) (p : Nat) : Option UsfReq :=
  let rs := d.usf.queue.filter (fun r => r.path == p && d.reqReady r)
  let later (r : UsfReq) : Bool := d.usf.path == some p && d.usf.lastId.any (fun i => decide (i < r.id))
  match rs.find? later with
  | some r => some r
  | none => rs.head?

/-- A shot of path `p` launched at `t` ns after the window opened fits (R321). -/
def Dev.shotFits (d : Dev) (p t : Nat) : Bool :=
  t + 1000 * d.get (F.USF_PATH_TIME_TMAX p) + 2000 ≤ 1000 * d.slack.cur.len

/-- The paths in the order the USF takes them: the one in service, then by oldest request (R321). -/
def Dev.pathOrder (d : Dev) : List Nat := (d.usf.path.toList ++ d.usf.queue.map (·.path)).eraseDups

/-- The request whose shot comes next at `t` (R321). -/
def Dev.usfNext (d : Dev) (t : Nat) : Option UsfReq :=
  d.pathOrder.findSome? (fun p => if d.shotFits p t then d.pathNext p else none)

/-- A launch `t` ns after the window opened, in ns from TIDE_TICKS 0 (DESIGN CHOICE, log 108: a window opens at its LF tick). -/
def Dev.launchTime (d : Dev) (t : Nat) : Nat := d.usf.openTick * 1000000000 / 32768 + t

/-- The shot slot since the path's last launch has passed (R321). -/
def Dev.slotPassed (d : Dev) (p t : Nat) : Bool :=
  match d.usf.lastLaunch.find? (fun e => e.1 == p) with
  | some e => e.2 + 1000 * (d.get (F.USF_PATH_TIME_TMAX p) + d.get (F.USF_PATH_TIME_GAP p)) ≤ d.launchTime t
  | none => true

/-- A path's launch at `t`. -/
def Dev.noteLaunch (d : Dev) (p t : Nat) : Dev :=
  let x := d.launchTime t
  d.onUsf (fun s => { s with lastLaunch := Store.insert (Store.erase s.lastLaunch p) p x })

/-- Half-cycle of a burst in SYSCLK cycles: round(f_now / (2 × FREQ)) (R315). -/
def Dev.halfCycle (d : Dev) (p : Nat) : Nat :=
  (roundOpen d.fNow.1 (max 1 (d.fNow.2 * 2000 * d.get (F.USF_PATH_CFG_FREQ p)))).toNat

/-- The ramp in use (R315). -/
def Dev.rampOf (d : Dev) (p : Nat) : Nat :=
  if d.get (F.USF_PATH_CFG_NCYC p) ≤ 2 * d.get F.USF_CFG_RAMP then d.get (F.USF_PATH_CFG_NCYC p) / 2 else d.get F.USF_CFG_RAMP

/-- SHOT_LAUNCH at `t` ns after the window opened: the burst's first drive transition (R315, R321, R322). A waveform request whose requester did not own
the block is over when its turn comes (R278). -/
def Dev.shotLaunch (d : Dev) (t : Nat) : Dev :=
  if !d.flag F.CLK_SLKSTAT_OPEN || d.usf.shot.isSome then d
  else
    match d.usfNext t with
    | none => d
    | some r =>
      if r.wave && r.orphan then d.waveOrphan r
      else if !d.shotOk then d.put F.USF_STAT_FLOOR 1
      else if !d.slotPassed r.path t then d
      else if !r.wave && (!(d.tdc r.unit).cal || (d.tdc r.unit).pair.isSome) then d
      else
        let take (q : UsfReq) : UsfReq := if q.id = r.id then { q with left := q.left - 1 } else q
        let d := (d.onUsf (fun s => { s with queue := s.queue.map take, lastId := some r.id, path := some r.path })).noteLaunch r.path t
        let x : Shot := ⟨r.id, r.path, r.ebb, r.wave, false, d.halfCycle r.path, d.rampOf r.path⟩
        (d.onUsf (fun s => { s with shot := some x })).onPath r.path (fun p => { p with held := true })

/-- One more in a path's 8-bit no-echo count, saturating (R316, USF_NOECHO). -/
def Dev.noEcho (d : Dev) (p : Nat) : Dev :=
  let c := (d.get F.USF_NOECHO_COUNT >>> (8 * p)) % 256
  let d := if c < 255 then d.put F.USF_NOECHO_COUNT (d.get F.USF_NOECHO_COUNT + 2 ^ (8 * p)) else d
  d.put F.USF_STAT_NOECHO 1

/-- The shot's samples are added to its waveform request; the request is complete with its last shot (R323). -/
def Dev.waveTake (d : Dev) (id : Nat) (samples : List Int) : Dev :=
  let add (r : UsfReq) : UsfReq := if r.id = id then
      { r with taken := r.taken + 1, sums := (List.range 372).map (fun i => r.sums.getD i 0 + samples.getD i 0) } else r
  let d := d.onUsf (fun s => { s with queue := s.queue.map add })
  match d.usf.queue.find? (fun r => r.id == id) with
  | some r => if r.left = 0 then d.waveDone r else d
  | none => d

/-- SHOT_LISTEN_END: TMAX after the launch. `first` tells whether a first wave was detected, `peak` the amplitude in % of
full scale, `samples` a waveform's samples (R316, R317, R323). -/
def Dev.listenEnd (d : Dev) (first : Bool) (peak : Nat) (samples : List Int) : Dev :=
  match d.usf.shot with
  | none => d
  | some s =>
    let d := if first then d else d.noEcho s.path
    let d := if s.wave then d.waveTake s.id samples
      else if first then d
      else match d.usf.queue.find? (fun r => r.id == s.id) with
        | some r => d.tdcEnd r.unit .timedOut
        | none => d
    let d := if s.got then d.onPath s.path (fun p => { p with peakSum := p.peakSum + peak, peakN := p.peakN + 1 }) else d
    (d.onUsf (fun s => { s with shot := none })).usfServe

/-! ## The end of a window -/

/-- round(40 × log10(target / peak)) clamped to −12…12, as a whole number plus 12: exact, since
10^((k − ½)/40) ≤ target / peak compares 80th powers (R317). -/
def agcStep (target peak : Nat) : Nat :=
  if peak = 0 then 24
  else ((List.range 25).filter (fun k => 10 ^ (2 * k + 5) * peak ^ 80 ≤ target ^ 80 * 10 ^ 30)).foldl max 0

/-- AGC_UPDATE of a path whose shots the window held (R317). -/
def Dev.agcUpdate (d : Dev) (p : Nat) : Dev :=
  let st := d.pathSt p
  if !st.held || d.flag (F.USF_AGC_MODE p) then d
  else
    let peak := if st.peakN = 0 then 0 else (near st.peakSum st.peakN).toNat
    let g := d.get (F.USF_AGC_GAIN p) + agcStep (d.get (F.USF_AGC_TARGET p)) peak - 12
    (d.put (F.USF_AGC_PEAK p) (satTo 255 peak)).put (F.USF_AGC_GAIN p) (min 120 g)

/-- A USF timing request ends with no attempt: NCOL = 0 and SHORT (R328). -/
def Dev.tdcFinishReq (d : Dev) (u id : Nat) : Dev :=
  match (d.tdc u).queue.find? (fun j => j.usf == some id) with
  | none => d.dropReq id
  | some j =>
    let head := match (d.tdc u).queue with
      | [] => false
      | h :: _ => h.usf == some id
    let fresh := TdcJob.new j.usf j.path j.ebb j.who j.block j.n j.list j.win j.redirect j.orphan
    let d := if j.orphan then d else d.fillBlock j.block Own.tdc (d.tdcBlock u fresh)
    let d := d.tdcSet u (fun c => { c with queue := c.queue.filter (fun k => k.usf != some id), pair := if head then none else c.pair })
    let d := d.dropReq id
    let d := if j.orphan then d.bump F.SEAM_STAT_ORPHN else d.giveBack j.block j.who 0 Own.tdc (d.doneLow u)
    (d.raise (Ev.tdcDone u)).tdcServe u

/-- PATH_LOST: cause 0 no echo, 1 short (R328, R344). -/
def Dev.loosePath (d : Dev) (p cause : Nat) : Dev :=
  if d.pathLost p then d
  else
    let d := (d.putBit F.USF_STAT_LOST p true).noteVals 0x80 127 [p, cause] |>.pushAlarm AlarmCode.pathLost [p, cause]
    let d := d.onPath p (fun s => { s with loss := 0, tests := 0, age := 0 })
    (d.usf.queue.filter (fun r => r.path == p)).foldl (fun d r =>
      if r.wave then (if r.orphan then d.waveOrphan r else d.waveDone { r with taken := 0, sums := [] }) else d.tdcFinishReq r.unit r.id) d

/-- DRIVE_SHORT: a short found in the path's burst (R328). -/
def Dev.driveShort (d : Dev) (p : Nat) : Dev :=
  match d.usf.shot with
  | none => d
  | some s =>
    if s.path = p then
      let d := (d.putBit F.USF_STAT_SHORTED p true).onUsf (fun u => { u with shot := none })
      d.loosePath p 1
    else d

/-- The mean of the intervals, as a fraction. -/
def meanFrac (xs : List Nat) : Int × Nat := ((xs.foldl (· + ·) 0 : Nat), max 1 xs.length)

/-- The window's w_k of a path that is learning (R327). -/
def Dev.zeroWindow (d : Dev) (p : Nat) : Dev :=
  let st := d.pathSt p
  if d.get F.SYS_MODE_MODE == 5 && (d.usf.zMask >>> p) % 2 = 1 && d.usf.zLeft != 0 && !st.floods.isEmpty && !st.ebbs.isEmpty then
    let w := fracSub (meanFrac st.ebbs) (meanFrac st.floods)
    d.onUsf (fun s => { s with zw := Store.insert (Store.erase s.zw p) p (Store.get (fun _ => []) s.zw p ++ [w]) })
  else d

/-- The window ends for a path: gain, loss count, learning (R317, R327, R328). -/
def Dev.pathClose (d : Dev) (p : Nat) : Dev :=
  let st := d.pathSt p
  if !st.held then d
  else
    let d := (d.agcUpdate p).zeroWindow p
    let got := !(st.floods.isEmpty && st.ebbs.isEmpty)
    let loss := if got then 0 else st.loss + 1
    let d := d.onPath p (fun s => ⟨loss, s.tests, s.age, false, 0, 0, [], []⟩)
    if d.get F.USF_CFG_PLOSS ≤ loss then d.loosePath p 0 else d

/-- The window ends for the USF. A shot still listening is over. -/
def Dev.usfClose (d : Dev) : Dev :=
  let d := [0, 1, 2, 3].foldl (fun d p => d.pathClose p) d
  d.onUsf (fun s => { s with path := none, lastId := none, shot := none })

/-- The unit that stamps a test shot of a direction: its own, or the twin (R312, R320). -/
def Dev.testUnit (d : Dev) (ebb : Bool) : Option Nat := (d.tdcFor ebb.toNat).map (·.1)

/-- The unit is free to stamp a test shot. -/
def Dev.testReady (d : Dev) (ebb : Bool) : Bool := (d.testUnit ebb).any (fun u => (d.tdc u).cal && (d.tdc u).pair.isNone)

/-- The end of a test shot's pair on unit `u` (R297, R298, R316). -/
def Dev.testEnd (d : Dev) (u : Nat) (s : TestShot) : PairEnd :=
  let c := d.tdc u
  match s.first, s.edge with
  | true, some x => pairOutcome x.1 x.2.1 x.2.2 (inPeriods (lapPos c.act 0 x.2.1) c.lamS) (inPeriods (lapPos c.act 1 x.2.2) c.lamP)
      c.t (x.1 * c.t.1, max 1 c.t.2) c.t c.t
  | _, _ => .timedOut

/-- One test shot of path `p`: the TDC stamps it without a result block, and the window's record of the path holds it (R316, R317, R329). -/
def Dev.testShot (d : Dev) (p : Nat) (ebb : Bool) (s : TestShot) : Dev :=
  match d.testUnit ebb with
  | none => d
  | some u =>
    let e := d.testEnd u s
    let d := (if s.first then d else d.noEcho p).showEnd u e (d.pairFlags u e true)
    let d := d.onPath p (fun x => { x with held := true })
    match e with
    | .normal x => d.onPath p (fun q =>
        let q := { q with peakSum := q.peakSum + s.peak, peakN := q.peakN + 1 }
        if ebb then { q with ebbs := q.ebbs ++ [x] } else { q with floods := q.floods ++ [x] })
    | _ => d

/-- A test shot was collected. -/
def Dev.testGot (d : Dev) (ebb : Bool) (s : TestShot) : Bool :=
  match d.testUnit ebb with
  | none => false
  | some u => match d.testEnd u s with
    | .normal _ => true
    | _ => false

/-- The window has room for both test shots of path `p` from `t` on, after its queued requests (R321, R329). -/
def Dev.testRoom (d : Dev) (p t : Nat) : Bool :=
  let slot := 1000 * (d.get (F.USF_PATH_TIME_TMAX p) + d.get (F.USF_PATH_TIME_GAP p))
  (d.usfNext t).isNone && d.slotPassed p t && d.shotFits p (t + slot)

/-- PATH_TEST, at `t` ns after the window opened: one flood and one ebb test shot on a lost path, once every 64 boundaries; `short` tells whether the drive
monitor found a short, which shows in SHORTED (R322, R328, R329). -/
def Dev.pathTest (d : Dev) (p t : Nat) (flood ebb : TestShot) (short : Bool) : Dev :=
  if !d.pathLost p || d.pathHeld p || (d.pathSt p).age < 64 || !d.flag F.CLK_SLKSTAT_OPEN || d.usf.shot.isSome || !d.testRoom p t then d
  else if !d.shotOk then d.put F.USF_STAT_FLOOR 1
  else if !d.testReady false || !d.testReady true then d
  else
    let ok := d.testGot false flood && d.testGot true ebb && !short
    let slot := 1000 * (d.get (F.USF_PATH_TIME_TMAX p) + d.get (F.USF_PATH_TIME_GAP p))
    let d := ((d.testShot p false flood).testShot p true ebb).noteLaunch p (t + slot)
    let d := if short then d.putBit F.USF_STAT_SHORTED p true else d
    let n := if ok then (d.pathSt p).tests + 1 else 0
    let d := d.onPath p (fun s => { s with age := 0, tests := n })
    if n < 4 then d
    else
      let d := ((d.putBit F.USF_STAT_LOST p false).putBit F.USF_STAT_SHORTED p false).noteVals 0x81 127 [p]
      d.onPath p (fun s => { s with loss := 0, tests := 0 })

/-! ## Zero-flow learning -/

/-- ZERO_LEARN_START: a non-zero MASK starts a run (R327). -/
def Dev.zeroStart (d : Dev) : Dev :=
  let m := d.get F.USF_ZCTL_MASK
  if m = 0 then d
  else (d.onUsf (fun s => { s with zMask := m, zLeft := d.get F.USF_ZCTL_NZ, zw := [] })).put F.USF_ZCTL_STAT 1

/-- The run is over. -/
def Dev.zeroOver (d : Dev) (stat : Nat) : Dev :=
  ((d.onUsf (fun s => { s with zMask := 0, zLeft := 0, zw := [] })).put F.USF_ZCTL_MASK 0).put F.USF_ZCTL_STAT stat

/-- SEAL closes before the end, or SERVICE ends: learning runs in SERVICE only (R327). -/
def Dev.zeroAbort (d : Dev) : Dev := if d.usf.zMask = 0 then d else d.zeroOver 5

/-- The least common multiple of the denominators. -/
def commonDen (ws : List (Int × Nat)) : Nat := ws.foldl (fun l w => Nat.lcm l w.2) 1

/-- The mean of the w_k in 1/256 ps, rounded, and whether their standard deviation is at most `zsd` ps (R327; over the n
values themselves, log 13). -/
def zeroResult (ws : List (Int × Nat)) (zsd : Nat) : Int × Bool :=
  let l := commonDen ws
  let xs := ws.map (fun w => w.1 * ((l / w.2 : Nat) : Int))
  let n := xs.length
  let s := xs.foldl (· + ·) 0
  let q := xs.foldl (fun a x => a + x * x) 0
  (roundOpen s (max 1 (n * l)), decide ((n : Int) * q - s * s ≤ ((n * l * (256 * zsd)) ^ 2 : Nat)))

/-- USF_ZOFSp and USF_STAT.ZPROV follow the offset in use (R326). -/
def Dev.setZofs (d : Dev) (p src : Nat) (v : Int) : Dev :=
  ((d.put (F.USF_ZOFS_SRC p) src).putS (F.USF_ZOFS_DT0 p) v).putBit F.USF_STAT_ZPROV p (src != 2)

/-- The zero-flow offset in use: learned, else the Label's factory value, else none (R326). -/
def Dev.loadOffset (d : Dev) (p : Nat) : Dev :=
  let w := d.pathParam p 3
  if bitsOf w 71 71 = 1 then d.setZofs p 2 (signed 48 (bitsOf w 47 0))
  else
    match d.label.offs[p]? with
    | some (some v) => d.setZofs p 1 v
    | _ => d.setZofs p 0 0

/-- One path at the end of a run: accepted (2), too few windows (3), spread above ZSD (4) (R327). Answers the device and
whether it was accepted. -/
def Dev.zeroPath (d : Dev) (p : Nat) : Dev × Option Int :=
  let ws := Store.get (fun _ => []) d.usf.zw p
  if 2 * ws.length < d.get F.USF_ZCTL_NZ then (d.put F.USF_ZCTL_STAT 3, none)
  else
    let r := zeroResult ws (d.get F.USF_ZCTL_ZSD)
    if !r.2 then (d.put F.USF_ZCTL_STAT 4, none)
    else
      let a := paramBase + 0x100 + 0x10 * p + 3
      let old := d.load a
      let new := Word.ofN (2 ^ 71 + unsigned 48 r.1)
      let d1 := ((d.store a new).bump F.COLLAR_LOGSTAT_PCOUNT).log ⟨0x13, 15, 127, new, a, [(old, 0, 0)]⟩
      let d2 := d1.log ⟨0x82, 15, 127, Config.payload 0x82 0 [p, unsigned 48 r.1], ws.length, []⟩
      ((d2.setZofs p 2 r.1).put F.USF_ZCTL_STAT 2, some r.1)

/-! ## Capacitance check -/

/-- A sweep of all enabled paths starts (R342). -/
def Dev.startSweep (d : Dev) : Dev :=
  d.onUsf (fun s => { s with sweep := [0, 1, 2, 3].filter (fun p => d.flag (F.USF_PATH_CFG_EN p)) })

/-- A DAY that TIDE_SEC crossed since `d0` starts a capacitance sweep (R342). -/
def Dev.daySweep (d0 d : Dev) : Dev := if d0.seconds / 86400 < d.seconds / 86400 then d.startSweep else d

/-- |a − b|. -/
def dist (a b : Nat) : Nat := (a - b) + (b - a)

/-- e(a, b) > tol percent. -/
def offBy (a b tol : Nat) : Bool := decide (tol * b < 100 * dist a b)

/-- The swap condition of R342. -/
def swapped (ca cb cam cbm tol : Nat) : Bool :=
  ca != 0 && cb != 0 && decide (2 * tol * max ca cb < 100 * dist ca cb)
    && (offBy cam ca tol || offBy cbm cb tol) && !(offBy cam cb tol) && !(offBy cbm ca tol)

/-- Below 20 % of a known factory value (R341). -/
def capOpen (c cm : Nat) : Bool := c != 0 && decide (5 * cm < c)

/-- The path to measure: an enabled one, one indicating a fault first, else the sweep's next (R342). -/
def Dev.capPath (d : Dev) : Option Nat := (d.usf.recheck ++ d.usf.sweep).find? (fun p => d.flag (F.USF_PATH_CFG_EN p))

/-- CAP_CHECK: at the start of the first window of a cycle (R341, R342). -/
def Dev.capCheck (d : Dev) (cam cbm : Nat) : Dev :=
  if !d.flag F.USF_CFG_CAPCHK then d
  else
    match d.capPath with
    | none => d
    | some p =>
      let d := ((d.put (F.USF_CAP_CAM p) cam).put (F.USF_CAP_CBM p) cbm).put (F.USF_CAP_VALID p) 1
      let w := d.pathParam p 8
      let ca := bitsOf w 35 18
      let cb := bitsOf w 17 0
      let op := capOpen ca cam || capOpen cb cbm
      let sw := swapped ca cb cam cbm (d.get F.MET_IFCFG_CTOL)
      let d := d.detector (detOpen p) F.MET_IFSTAT_XOPEN p op 0x83 [p, 1, cam, cbm]
      let d := d.detector (detSwap p) F.MET_IFSTAT_XSWAP p sw 0x83 [p, 0, cam, cbm]
      let again := d.detCount (detOpen p) + d.detCount (detSwap p) != 0
      let rc := d.usf.recheck.filter (· != p)
      d.onUsf (fun s => { s with sweep := s.sweep.filter (· != p), recheck := if again then rc ++ [p] else rc })

/-- A window opens for the USF: the capacitance check before any shot, and FLOOR where shots must be withheld (R322,
R342). -/
def Dev.usfOpen (d : Dev) (cam cbm : Nat) : Dev :=
  let now := d.get F.TIDE_TICKS_TICKS
  let d := d.onUsf (fun s => { s with openTick := now })
  let d := if d.slack.firstDone then d else (d.capCheck cam cbm).onSlack (fun s => { s with firstDone := true })
  let d := d.usfServe
  if !d.usf.queue.isEmpty && !d.shotOk then d.put F.USF_STAT_FLOOR 1 else d

/-- A cycle boundary in the USF: open waveform requests complete, lost paths age, learning counts (R321, R327, R329). -/
def Dev.usfBoundary (d : Dev) : Dev :=
  let d := (d.usf.queue.filter (fun r => r.wave)).foldl (fun d r => if r.orphan then d.waveOrphan r else d.waveDone r) d
  let d := [0, 1, 2, 3].foldl (fun d p => if d.pathLost p then d.onPath p (fun s => { s with age := satTo 64 (s.age + 1) }) else d) d
  d.onUsf (fun s => { s with zLeft := s.zLeft - 1 })

/-- A path is quiesced: its requests complete with BLOCK_RESET (R283, R329). -/
def Dev.usfQuiesce (d : Dev) (p : Nat) : Dev :=
  (d.usf.queue.filter (fun r => r.path == p)).foldl (fun d r =>
    let d := d.dropReq r.id
    if r.wave then
      (if r.orphan then d.bump F.SEAM_STAT_ORPHN else d.giveBack r.block r.who 8 Own.usf (d.doneLow p)).raise Ev.usfDone
    else
      match (d.tdc r.unit).queue.find? (fun j => j.usf == some r.id) with
      | none => d
      | some j =>
        let head := match (d.tdc r.unit).queue with
          | [] => false
          | h :: _ => h.usf == some r.id
        let d := d.tdcSet r.unit (fun c => { c with queue := c.queue.filter (fun k => k.usf != some r.id), pair := if head then none else c.pair })
        d.tdcResetJob r.unit j) (d.onUsf (fun s => { s with shot := s.shot.filter (fun t => t.path != p) }))

/-- USF_STAT's live bits. -/
def Dev.settleUsf (d : Dev) : Dev :=
  let n := d.usf.queue.length
  (((d.put F.USF_STAT_QN n).putB F.USF_STAT_QFULL (decide (n ≥ 8))).putB F.USF_STAT_HELD
    (d.held.any (fun h => h.1 == 8))).putB F.USF_NOECHO_CLR (d.get F.USF_NOECHO_COUNT != 0)

end Sys2Proof.Machine
end

