-- ==== Sys2Proof/Machine/Adc.lean ====
section
/-!
DEFINITION. ADC-A (unit 0) and ADC-B (unit 1), their requests, conversions and result blocks
(spec/11_flow_and_temperature.md R330 to R339).
-/
namespace Sys2Proof.Machine

/-- A conversion request's fields after R13 (R338). -/
structure AdcWord where
  block : Nat
  input : Nat
  unit : Nat
  tag : Nat
  n : Nat
deriving DecidableEq, Repr

/-- The request word of R338 under R13. -/
def adcWord (w : Word) : AdcWord :=
  ⟨bitsOf w 71 64, bitsOf w 63 60, if bitsOf w 59 58 = 3 then 0 else bitsOf w 59 58, bitsOf w 55 48, max 1 (bitsOf w 47 44)⟩

/-- A unit that accepts work. -/
def Dev.adcUp (d : Dev) (u : Nat) : Bool := !d.held.contains (9, u)

/-- An excitation pair that drives chains: not lost and not held (R284, R333; quiesce target 9, UNIT 2 + k). -/
def Dev.pairUp (d : Dev) (k : Nat) : Bool := !d.bit F.ADC_STAT_EXCLOST k && !d.held.contains (9, 2 + k)

/-- A kind that needs excitation (R334). -/
def needsExc (kind : Nat) : Bool := kind == 1 || kind == 2 || kind == 4

/-- Queue a conversion request: 0 QUEUED, 1 FULL, 2 UNAVAILABLE (R227, R277, R278, R338). -/
def Dev.adcQueue (d : Dev) (who : Nat) (q : AdcWord) : Dev × Nat :=
  let kind := d.get (F.ADC_IN_KIND q.input)
  let want := if q.unit = 0 then d.get (F.ADC_IN_UNITPREF q.input) else q.unit - 1
  if kind = 0 || !(d.adcUp 0 || d.adcUp 1) || (needsExc kind && !(d.pairUp 0 || d.pairUp 1)) then (d, 2)
  else if d.adc.queue.length ≥ 8 then (d, 1)
  else
    let red := !d.adcUp want
    let u := if red then 1 - want else want
    let own := d.owner q.block == who
    let d1 := if own then d.giveBlock q.block Own.adc false else d
    (d1.onAdc (fun a => { a with queue := a.queue ++ [⟨q.block, q.input, u, q.n, who, !own, red, [], 0⟩] }), 0)

/-- CONV: the request by an engine; ADC_REQRES shows its result (R227, R338). -/
def Dev.adcConv (d : Dev) (who : Nat) (q : AdcWord) : Dev × Nat :=
  let r := d.adcQueue who q
  (r.1.put F.ADC_REQRES_RESULT r.2, r.2)

/-- The TAG a port queued last. -/
def Dev.adcTag (d : Dev) (port : Nat) : Option Nat := if port = 0 then d.adc.tagHost else d.adc.tagDbg

/-- ADC_REQUEST: a write to ADC_REQ, TAG as in R319 (R338). -/
def Dev.adcRequest (d : Dev) (who : Nat) (port : Option Nat) (w : Word) : Dev :=
  let q := adcWord w
  let r := d.adcQueue who q
  match port with
  | none => r.1.put F.ADC_REQRES_RESULT r.2
  | some p =>
    if d.adcTag p = some q.tag then d
    else if r.2 = 0 then
      let d1 := r.1.onAdc (fun a => if p = 0 then { a with tagHost := some q.tag } else { a with tagDbg := some q.tag })
      (d1.put F.ADC_REQRES_RESULT 0).put F.ADC_REQRES_TAG q.tag
    else r.1.put F.ADC_REQRES_RESULT r.2

/-- The running conversion of a unit. -/
def Dev.adcRun (d : Dev) (u : Nat) : Option Bool := if u = 0 then d.adc.runA else d.adc.runB
def Dev.setAdcRun (d : Dev) (u : Nat) (r : Option Bool) : Dev :=
  d.onAdc (fun a => if u = 0 then { a with runA := r } else { a with runB := r })

/-- The unit's request in turn: the oldest one (R338). -/
def Dev.adcHead (d : Dev) (u : Nat) : Option AdcReq := d.adc.queue.find? (fun r => r.unit == u)

/-- Change the oldest request of a unit. -/
def onFirst (u : Nat) (f : AdcReq → AdcReq) : List AdcReq → List AdcReq
  | [] => []
  | r :: rs => if r.unit = u then f r :: rs else r :: onFirst u f rs

/-- Take the oldest request of a unit off the queue. -/
def dropFirst (u : Nat) : List AdcReq → List AdcReq
  | [] => []
  | r :: rs => if r.unit = u then rs else r :: dropFirst u rs

/-- TCONV in µs (ADC_CFG), twice that for a 3-wire record (R334). -/
def Dev.tconv (d : Dev) (input : Nat) : Nat :=
  let t := 2500 * 2 ^ d.get F.ADC_CFG_TCONV
  if d.get (F.ADC_IN_KIND input) = 1 && d.get (F.ADC_IN_WIRE input) = 1 then 2 * t else t

/-- The conversion ends at least 10 µs before the offset of the next enabled T0 sequencer entry (R337). T0 counts at
F_U / DIV, at LF or EXTREF rate over DIV. -/
def Dev.beforeWindow (d : Dev) (us : Nat) : Bool :=
  let i := d.get F.TMR_SEQSTAT_NEXT
  if !d.seqActive || 8 ≤ i then true
  else
    let rate := match d.get (F.TMR_CFG_SRC 0) with
      | 0 => if d.flag (F.TMR_CFG_FUNIT 0) then 96000000 else 32000000
      | 1 => 32768
      | _ => 1000 * d.get F.CLK_XREF_FNOM
    let away := d.get (F.TMR_SEQ_OFFS i) - d.tmrCount 0
    decide ((us + 10) * rate ≤ away * 1000000 * max 1 (d.get (F.TMR_DIV_DIV 0)))

/-- The pair that drives a record's chain: its own, or the survivor through the cross switch (R333). -/
def Dev.driver (d : Dev) (input : Nat) : Nat :=
  let k := d.get (F.ADC_IN_PAIR input)
  if d.pairUp k then k else 1 - k

/-- Excitation class of a running conversion: sensor or REF of its driving pair (R332). -/
def Dev.excClass (d : Dev) (input : Nat) : Option (Nat × Bool) :=
  if needsExc (d.get (F.ADC_IN_KIND input)) then some (d.driver input, d.get (F.ADC_IN_KIND input) == 4) else none

/-- No running conversion of the other kind on the same pair; through the cross switch the survivor drives each chain in
turn (R332, R333). -/
def Dev.pairFree (d : Dev) (u input : Nat) : Bool :=
  match d.adcRun (1 - u), d.adcHead (1 - u) with
  | some _, some r =>
    match d.excClass input, d.excClass r.input with
    | some a, some b => a.1 != b.1 || (a.2 == b.2 && d.get (F.ADC_IN_PAIR input) == d.get (F.ADC_IN_PAIR r.input))
    | _, _ => true
  | _, _ => true

/-- A request whose requester did not own the block is over: nothing is converted, the done event is raised (R278). -/
def Dev.adcSkip (d : Dev) (u : Nat) : Dev :=
  let d := (d.onAdc (fun a => { a with queue := dropFirst u a.queue })).raise (Ev.adcDone u)
  d.bump F.SEAM_STAT_ORPHN

/-- ADC_CONV_START (R332, R337). -/
def Dev.adcStart (d : Dev) (u : Nat) : Dev :=
  match d.adcHead u with
  | none => d
  | some r =>
    if !d.adcUp u || (d.adcRun u).isSome then d
    else if r.orphan then d.adcSkip u
    else if d.flag F.CLK_SLKSTAT_OPEN || !d.beforeWindow (d.tconv r.input) || !d.pairFree u r.input then d
    else d.setAdcRun u (some false)

/-- ADC_RERUN: a window opened by instruction aborts the running conversions; they restart after it (R337). -/
def Dev.adcAbort (d : Dev) : Dev :=
  let one (d : Dev) (u : Nat) : Dev := if (d.adcRun u).isSome then (d.setAdcRun u (some true)).put F.ADC_STAT_RERUN 1 else d
  if d.flag F.CLK_SLKSTAT_OPENER then one (one d 0) 1 else d

/-! Flags of R339. -/
abbrev afOpen : Nat := 1
abbrev afShort : Nat := 2
abbrev afRanged : Nat := 4
abbrev afRerun : Nat := 8
abbrev afRedirect : Nat := 16
abbrev afXsw : Nat := 32
abbrev afReff : Nat := 64

/-- The flags of a conversion of record `input` with VALUE `v` (32 fractional bits); `comp` tells compliance or burnout
(R331, R333, R339). -/
def Dev.convFlags (d : Dev) (input : Nat) (v : Int) (comp ranged rerun redirect : Bool) : Nat :=
  let open_ := comp || decide (d.get (F.ADC_IN_HILIM input) * 2 ^ 20 < v.natAbs)
  let short := decide (v.natAbs < d.get (F.ADC_IN_LOLIM input) * 2 ^ 20)
  let ref := d.get (F.ADC_IN_KIND input) == 4
  let lim := if ref then (if open_ || short then afReff else 0) else (if open_ then afOpen else 0) + (if short then afShort else 0)
  let xsw := needsExc (d.get (F.ADC_IN_KIND input)) && d.driver input != d.get (F.ADC_IN_PAIR input)
  lim + (if ranged then afRanged else 0) + (if rerun then afRerun else 0) + (if redirect then afRedirect else 0)
    + (if xsw then afXsw else 0)

/-- The next gain of a record after VALUE `v` at gain code `g` (R336). -/
def nextGain (v : Int) (g : Nat) : Nat :=
  let a := v.natAbs * 2 ^ g
  if 35 * 2 ^ 32 ≤ 100 * a && 100 * a ≤ 90 * 2 ^ 32 then g
  else ((List.range 8).filter (fun k => 100 * (v.natAbs * 2 ^ k) ≤ 80 * 2 ^ 32)).foldl max 0

/-- Autoranging applies to the record (R336). -/
def Dev.autor (d : Dev) (input : Nat) : Bool := d.flag F.ADC_CFG_AUTOR && !d.flag (F.ADC_IN_GFIX input)

/-- A conversion without OPEN, SHORT or REFF (R339). -/
def collected (c : Nat × Int) : Bool := c.1 &&& (afOpen ||| afShort ||| afReff) == 0

/-- The result block, words 0 to 62 (R339). -/
def adcBlock (r : AdcReq) : List Word :=
  let good := r.convs.filter collected
  let flags := r.convs.foldl (fun a c => a ||| c.1) 0
  let mean : Int := if good.isEmpty then 0 else roundOpen (good.foldl (fun a c => a + c.2) 0) good.length
  [ Word.ofN (2 ^ 64 + flags * 2 ^ 52 + r.unit * 2 ^ 48 + r.input * 2 ^ 44 + r.n * 2 ^ 40 + good.length * 2 ^ 36 + r.gain * 2 ^ 33),
    Word.ofI mean ]
    ++ (List.range 61).map (fun i => match r.convs[i]? with
      | some c => Word.ofN (c.1 * 2 ^ 60 + unsigned 36 c.2)
      | none => 0)

/-- What the installation-fault detectors take from a conversion: probes from sensor records, references from REF records
(R341). -/
def Dev.convDetect (d : Dev) (input flags : Nat) : Dev :=
  if d.get (F.ADC_IN_KIND input) = 4 then
    let k := d.get (F.ADC_IN_PAIR input)
    d.detector (detRef k) F.MET_IFSTAT_REFF k (flags &&& afReff != 0) 0x86 [k]
  else
    let kind := if flags &&& afOpen != 0 then 0 else 1
    d.detector (detProbe input) F.MET_IFSTAT_PROBE input (flags &&& (afOpen ||| afShort) != 0) 0x85 [input, kind]

/-- The request's last conversion is done: the block, the gift, the done event (R339). -/
def Dev.adcFinish (d : Dev) (u : Nat) (r : AdcReq) : Dev :=
  let c := d.get F.COLLAR_CYCLE_CYCLE
  let low := d.doneLow u
  let d := (d.fillBlock r.block Own.adc (adcBlock r)).onAdc (fun a =>
    { a with queue := dropFirst u a.queue, results := Store.insert (Store.erase a.results r.input) r.input (r.block, c, low) })
  (d.giveBack r.block r.who 0 Own.adc (d.doneLow u)).raise (Ev.adcDone u)

/-- ADC_CONV_DONE: a running conversion of a unit ends with VALUE `v`; `sat` tells that the modulator saturated at first
and `v` is the repeat at gain 1, where autoranging applies; `comp` compliance or burnout (R335, R336, R339, R341). -/
def Dev.adcDone (d : Dev) (u : Nat) (v : Int) (sat comp : Bool) : Dev :=
  match d.adcRun u, d.adcHead u with
  | some rerun, some r =>
    if d.flag F.CLK_SLKSTAT_OPEN && d.flag F.CLK_SLKSTAT_OPENER then d
    else
      let v := signed 36 (unsigned 36 v)
      let ranged := sat && d.autor r.input
      let g := if ranged then 0 else d.get (F.ADC_IN_GAIN r.input)
      let flags := d.convFlags r.input v comp ranged rerun r.redirect
      let r1 : AdcReq := { r with convs := r.convs ++ [(flags, v)], gain := g }
      let d := (d.setAdcRun u none).onAdc (fun a => { a with queue := onFirst u (fun _ => r1) a.queue })
      let d := if ranged then d.put F.ADC_STAT_RANGED 1 else d
      let d := if d.autor r.input then d.put (F.ADC_IN_GAIN r.input) (nextGain v g) else d
      let d := d.convDetect r.input flags
      if r.n ≤ r1.convs.length then d.adcFinish u r1 else d
  | _, _ => d

/-- A request completes with BLOCK_RESET (R283). -/
def Dev.adcReset (d : Dev) (u : Nat) (r : AdcReq) : Dev :=
  (if r.orphan then d.bump F.SEAM_STAT_ORPHN else d.giveBack r.block r.who 8 Own.adc (d.doneLow u)).raise (Ev.adcDone u)

/-- A unit is quiesced (R283). -/
def Dev.adcQuiesce (d : Dev) (u : Nat) : Dev :=
  let rs := d.adc.queue.filter (fun r => r.unit == u)
  let d := (d.setAdcRun u none).onAdc (fun a => { a with queue := a.queue.filter (fun r => r.unit != u) })
  rs.foldl (fun d r => d.adcReset u r) d

/-- An excitation pair is quiesced: the conversions it drives are abandoned, and their requests complete with BLOCK_RESET (R283, R284). -/
def Dev.excQuiesce (d : Dev) (k : Nat) : Dev :=
  let one (d : Dev) (u : Nat) : Dev :=
    match d.adcRun u, d.adcHead u with
    | some _, some r =>
      if needsExc (d.get (F.ADC_IN_KIND r.input)) && d.driver r.input == k then
        ((d.setAdcRun u none).onAdc (fun a => { a with queue := dropFirst u a.queue })).adcReset u r
      else d
    | _, _ => d
  one (one d 0) 1

/-- ADC_STAT's live bits. -/
def Dev.settleAdc (d : Dev) : Dev :=
  let st (u : Nat) : Nat := if !d.adcUp u then 3 else if (d.adcRun u).isSome then 2 else if (d.adcHead u).isSome then 1 else 0
  ((d.put F.ADC_STAT_STATEA (st 0)).put F.ADC_STAT_STATEB (st 1)).put F.ADC_STAT_QN d.adc.queue.length

end Sys2Proof.Machine
end

