-- ==== Sys2Proof/Machine/Met.lean ====
section
/-!
DEFINITION. Billing accumulators, DERIVED channels, VIGIL accounting, pulse outputs and the data log
(spec/12_energy.md R346 to R380; spec/08_collar.md R241, R242).
-/
namespace Sys2Proof.Machine

/-! ## Accumulators -/

/-- The place of accumulator `k` of channel `n` (R347). -/
def accKey (n k : Nat) : Nat := n * 13 + k

/-- Integer × 2^24 + residue of an accumulator. -/
def Dev.accRaw (d : Dev) (n k : Nat) : Nat := Store.get (fun _ => 0) d.met.acc (accKey n k)

/-- The integer part that a view register shows (R350). -/
def Dev.acc (d : Dev) (n k : Nat) : Nat := d.accRaw n k / 2 ^ 24

/-- The residue (R7). -/
def Dev.residue (d : Dev) (n k : Nat) : Nat := d.accRaw n k % 2 ^ 24

/-- Store an accumulator: the integer part wraps modulo 2^72 (R242, R349). -/
def Dev.setAcc (d : Dev) (n k v : Nat) : Dev :=
  d.onMet (fun m => { m with acc := Store.set (fun _ => 0) m.acc (accKey n k) (v % 2 ^ 96) })

/-- acc ⊕ x, x in Q48.24 (R242). -/
def Dev.addAcc (d : Dev) (n k x : Nat) : Dev := d.setAcc n k (d.accRaw n k + x)

/-- Channel kinds (R346). -/
abbrev kOff : Nat := 0
abbrev kThermal : Nat := 1
abbrev kGas : Nat := 2
abbrev kVolume : Nat := 3
abbrev kPulse : Nat := 4
abbrev kDerived : Nat := 5

def Dev.kind (d : Dev) (n : Nat) : Nat := d.get (F.MET_CH_DESC_KIND n)

/-- The sixteen channels. -/
def channels : List Nat := List.range 16

/-! ## Segments -/

/-- A segment of a post (R239): direction, quadrant, duration (LSB 2^-24 s) and amounts (Q48.24, as posted). -/
structure Seg where
  rev : Bool
  quad : Nat
  dur : Nat
  a1 : Int
  a2 : Int
  a3 : Int
deriving DecidableEq, Repr

/-- An amount under its limit: a negative one becomes zero, one beyond the limit the limit (R241). -/
def plausible (limit : Nat) (x : Int) : Nat := if x < 0 then 0 else min limit x.toNat

/-- The limit of amount `code` (1 to 3) of a segment, in Q48.24: the rate limit times DUR (R241). -/
def Dev.amountLimit (d : Dev) (n code dur : Nat) : Nat :=
  (match code with
    | 1 => if d.kind n = kGas then d.get (F.MET_CH_VMAX_LIMIT n) else d.get (F.MET_CH_EMAX_LIMIT n)
    | 2 => d.get (F.MET_CH_VMAX_LIMIT n)
    | _ => d.get (F.MET_CH_MMAX_LIMIT n)) * dur

/-- One amount is checked; a clamp writes IMPLAUSIBLE and sets CLAMP (R241, R370). -/
def Dev.checkAmount (d : Dev) (n seg code dur : Nat) (x : Int) : Dev × Nat :=
  let v := plausible (d.amountLimit n code dur) x
  if (v : Int) = x then (d, v)
  else
    let d := d.log ⟨0x30, 15, n, Word.ofI x, bitsOf (Config.payload 0x30 1 [seg, code]) 71 32, []⟩
    ((d.event F.MET_STAT_CLAMP Ev.met).logFlag 128, v)

/-- rnd(A1 × CV, 24): the gas energy of a base volume, CV in Q24.24 (R242, R361). -/
def gasEnergy (a1 cv : Nat) : Nat := (a1 * cv + 2 ^ 23) / 2 ^ 24

/-- The increments a segment brings, accumulator by accumulator (R242). -/
def Dev.increments (d : Dev) (n : Nat) (rev : Bool) (quad a1 a2 a3 : Nat) : List (Nat × Nat) :=
  let v := (if rev then 6 else 5, a2)
  let m := (if rev then 8 else 7, a3)
  if d.kind n = kThermal then (if quad = 0 then [] else [(quad - 1, a1), (4, a1)]) ++ [v, m]
  else if d.kind n = kGas then [(9, a1), (10, gasEnergy a1 (d.get (F.MET_CH_CV_CV n))), v]
  else [v, m]

/-- Add increments to one channel. -/
def Dev.addAll (d : Dev) (n : Nat) (xs : List (Nat × Nat)) : Dev := xs.foldl (fun d x => d.addAcc n x.1 x.2) d

/-- Channel `m` is DERIVED and names component `n` (R363). -/
def Dev.derives (d : Dev) (m n : Nat) : Bool := d.kind m == kDerived && m != n && (d.get (F.MET_CH_DESC_DMASK m) >>> n) % 2 == 1

/-- What a component's increments bring a DERIVED channel: the same, and with GASQ1 the gas energy to Q1 and gross energy
(R363, R364). -/
def derivedIncrements (gasq1 : Bool) (xs : List (Nat × Nat)) : List (Nat × Nat) :=
  xs ++ xs.flatMap (fun x => if gasq1 && x.1 == 10 then [(0, x.2), (4, x.2)] else [])

/-- DERIVED_UPDATE (R363, R364). -/
def Dev.updateDerived (d : Dev) (n : Nat) (xs : List (Nat × Nat)) : Dev :=
  channels.foldl (fun d m => if d.derives m n then d.addAll m (derivedIncrements (d.flag (F.MET_CH_DESC_GASQ1 m)) xs) else d) d

/-! ## Pulse outputs -/

def Dev.plsBase (d : Dev) (j : Nat) : Nat := Store.get (fun _ => 0) d.met.plsBase j
def Dev.plsEmitted (d : Dev) (j : Nat) : Nat := Store.get (fun _ => 0) d.met.plsEmit j
def Dev.plsPhase (d : Dev) (j : Nat) : Nat := Store.get (fun _ => 0) d.met.plsPhase j
def Dev.plsDue (d : Dev) (j : Nat) : Nat := Store.get (fun _ => 0) d.met.plsDue j

def Dev.setPlsEmitted (d : Dev) (j v : Nat) : Dev :=
  (d.onMet (fun m => { m with plsEmit := Store.set (fun _ => 0) m.plsEmit j v })).put (F.PLS_STAT_EMITTED j) v
def Dev.setPlsPhase (d : Dev) (j ph due : Nat) : Dev :=
  let d := d.onMet (fun m => { m with plsPhase := Store.set (fun _ => 0) m.plsPhase j ph })
  (d.onMet (fun m => { m with plsDue := Store.set (fun _ => 0) m.plsDue j due })).putB (F.PLS_STAT_ACTIVE j) (ph == 1)

/-- One bit of an event register that becomes set raises its source (R380). -/
def Dev.eventBit (d : Dev) (f : Fld) (i src : Nat) : Dev := if d.bit f i then d else (d.putBit f i true).raise src

/-- `n` pulses of an output are lost (R378, R379). -/
def Dev.plsLose (d : Dev) (j n : Nat) : Dev :=
  if n = 0 then d
  else (d.put (F.PLS_STAT_LOST j) (satTo 255 (d.get (F.PLS_STAT_LOST j) + n))).eventBit F.PLS_EVT_LOSTEV j Ev.pls

/-- The accumulator an output follows. -/
def Dev.plsAcc (d : Dev) (j : Nat) : Nat := d.acc (d.get (F.PLS_CFG_CHAN j)) (d.get (F.PLS_CFG_ACC j))

/-- Pulses due since BASE (R376). -/
def Dev.plsDueCount (d : Dev) (j : Nat) : Nat :=
  (d.plsAcc j + 2 ^ 72 - d.plsBase j) % 2 ^ 72 / max 1 (d.get (F.PLS_CFG_WEIGHT j))

/-- An applied change reaches an output: BACKLOG = DUE − EMITTED, no more than 65,535 (R376, R378). -/
def Dev.plsUpdate (d : Dev) (j : Nat) : Dev :=
  if !d.flag (F.PLS_CFG_EN j) then d
  else
    let back := d.plsDueCount j - d.plsEmitted j
    let d := if 65535 < back then (d.setPlsEmitted j (d.plsEmitted j + (back - 65535))).plsLose j (back - 65535) else d
    d.put (F.PLS_STAT_BACKLOG j) (min 65535 back)

/-- Every output. -/
def outputs : List Nat := List.range 8

def Dev.plsUpdateAll (d : Dev) : Dev := outputs.foldl (fun d j => d.plsUpdate j) d

/-- BASE := acc, EMITTED := 0; what was pending is lost (R376, R379). -/
def Dev.plsRebase (d : Dev) (j : Nat) : Dev :=
  let d1 := (d.plsLose j (d.get (F.PLS_STAT_BACKLOG j))).setPlsEmitted j 0
  let d2 := d1.onMet (fun m => { m with plsBase := Store.set (fun _ => 0) m.plsBase j (d.plsAcc j) })
  (d2.put (F.PLS_STAT_BACKLOG j) 0).eventBit F.PLS_EVT_REBASE j Ev.pls

/-- The pending configuration of an output takes effect (R379). -/
def Dev.plsApply (d : Dev) (j : Nat) : Dev :=
  let w0 := d.reg (F.PLS_CFG j)
  let d := d.applyPend (F.PLS_CFG j)
  let w1 := d.reg (F.PLS_CFG j)
  if bitsOf w0 71 32 != bitsOf w1 71 32 || bitsOf w0 15 8 != bitsOf w1 15 8 || (bitsOf w0 0 0 == 0 && bitsOf w1 0 0 == 1) then
    d.plsRebase j
  else d

/-- ms in LF ticks, rounded up (R377). -/
def msTicks (ms : Nat) : Nat := (ms * 32768 + 999) / 1000

/-- PULSE_EMIT: an output with backlog and no pulse or gap running starts a pulse (R376, R377). -/
def Dev.pulseEmit (d : Dev) (j : Nat) : Dev :=
  if !d.flag (F.PLS_CFG_EN j) || d.plsPhase j != 0 || d.get (F.PLS_STAT_BACKLOG j) = 0 then d
  else
    let d1 := (d.setPlsEmitted j (d.plsEmitted j + 1)).put (F.PLS_STAT_BACKLOG j) (d.get (F.PLS_STAT_BACKLOG j) - 1)
    d1.setPlsPhase j 1 (d.get F.TIDE_TICKS_TICKS + msTicks (d.get (F.PLS_CFG_WIDTH j)))

/-- PULSE_WIDTH_END: WIDTH ms after its start a pulse ends (R377). -/
def Dev.pulseWidthEnd (d : Dev) (j : Nat) : Dev :=
  if d.plsPhase j = 1 && d.plsDue j ≤ d.get F.TIDE_TICKS_TICKS then
    d.setPlsPhase j 2 (d.get F.TIDE_TICKS_TICKS + msTicks (d.get (F.PLS_CFG_GAP j)))
  else d

/-- PULSE_GAP_END: GAP ms after a pulse (R377). -/
def Dev.pulseGapEnd (d : Dev) (j : Nat) : Dev :=
  if d.plsPhase j = 2 && d.plsDue j ≤ d.get F.TIDE_TICKS_TICKS then d.setPlsPhase j 0 0 else d

/-- PULSE_EDGE: an edge on TP pin `pin` counts on every PULSE channel that names it with that polarity (R362). -/
def Dev.pulseEdge (d : Dev) (pin : Nat) (falling : Bool) : Dev :=
  channels.foldl (fun d n =>
    if d.kind n = kPulse && d.get (F.MET_CH_DESC_TPIN n) = pin && d.flag (F.MET_CH_DESC_PEDGE n) == falling then
      d.put (F.MET_CH_PCNT_COUNT n) (d.get (F.MET_CH_PCNT_COUNT n) + 1)
    else d) d

/-! ## Applying a segment -/

/-- A volume in VIGIL: the vigil accumulator of its direction takes A2 and nothing else changes (R242, R365). -/
def Dev.applyVigil (d : Dev) (n : Nat) (rev : Bool) (a2 : Nat) : Dev := d.addAcc n (if rev then 12 else 11) a2

/-- Apply one checked segment (R242, R363, R376). -/
def Dev.applySeg (d : Dev) (n : Nat) (rev : Bool) (quad a1 a2 a3 : Nat) : Dev :=
  if d.met.vigilNow then d.applyVigil n rev a2
  else
    let xs := d.increments n rev quad a1 a2 a3
    (d.addAll n xs).updateDerived n xs

/-- The amounts of a segment as applied (R241, R381). -/
structure Applied where
  rev : Bool
  quad : Nat
  dur : Nat
  a1 : Nat
  a2 : Nat
  a3 : Nat
deriving DecidableEq, Repr

/-- Check one segment, number `i` of the post (R241). -/
def Dev.checkSeg (d : Dev) (n i : Nat) (s : Seg) : Dev × Applied :=
  let r1 := d.checkAmount n i 1 s.dur s.a1
  let r2 := r1.1.checkAmount n i 2 s.dur s.a2
  let r3 := r2.1.checkAmount n i 3 s.dur s.a3
  (r3.1, ⟨s.rev, s.quad, s.dur, r1.2, r2.2, r3.2⟩)

/-- Check and apply the segments in order (R241, R242). -/
def Dev.applySegs (d : Dev) (n i : Nat) : List Seg → Dev × List Applied
  | [] => (d.plsUpdateAll, [])
  | s :: ss =>
    let r := d.checkSeg n i s
    let a := r.2
    let t := (r.1.applySeg n a.rev a.quad a.a1 a.a2 a.a3).applySegs n (i + 1) ss
    (t.1, a :: t.2)

/-! ## VIGIL -/

/-- A channel's vigil volume, forward plus reverse, in µL. -/
def Dev.vigilVolume (d : Dev) (n : Nat) : Nat := d.acc n 11 + d.acc n 12

/-- At VIGIL entry the vigil volumes are noted and the data-log periods flagged (R366, R370). -/
def Dev.vigilNote (d : Dev) : Dev :=
  let v := (channels.map (fun n => (n, d.vigilVolume n))).filter (fun e => e.2 != 0)
  let c := d.get F.COLLAR_CYCLE_CYCLE
  (d.onMet (fun m => { m with vigil0 := v, vigilCycle := c })).logFlag 16

/-- Vigil volume since entry. -/
def Dev.vigilSince (d : Dev) (n : Nat) : Nat := d.vigilVolume n - Store.get (fun _ => 0) d.met.vigil0 n

/-- VIGIL_FLOW of a channel becomes due (R366). -/
def Dev.vigilFlowDue (d : Dev) (n : Nat) : Bool :=
  d.get F.SYS_MODE_MODE == 4 && !d.bit F.MET_STAT_VFLOWCH n && decide (d.get F.MET_VIGIL_VTHR ≤ d.vigilSince n)

/-- VIGIL_FLOW: the bits, an event for each that becomes set, the record (R366, R380). The ALARM frame is queued. -/
def Dev.vigilFlow (d : Dev) (n : Nat) : Dev :=
  ((d.eventBit F.MET_STAT_VFLOWCH n Ev.met).event F.MET_STAT_VFLOW Ev.met).noteVals 0x88 n [n, d.vigilSince n] |>.pushAlarm AlarmCode.vigilFlow [n, d.vigilSince n]

/-- The continuations of LOOP_BACK: each channel's vigil volume since entry (R366). A record has up to three
continuations; their layout is open (log 6). -/
def Dev.vigilTotals (d : Dev) : List (Word × Word × Nat) :=
  let v := channels.map (fun n => d.vigilSince n)
  [(Config.payload 0x29 0 v, Config.payload 0x29 1 v, 0), (Config.payload 0x29 2 v, Config.payload 0x29 3 v, 0),
    (Config.payload 0x29 4 v, Config.payload 0x29 5 v, 0)]

/-! ## The data log -/

/-- CRC-32 of IEEE 802.3 over bytes (R369): reflected, initial value and final XOR all ones. -/
@[irreducible] def crc32 (bytes : List Nat) : Nat :=
  let bits := bytes.flatMap (fun b => (List.range 8).map (fun i => (b >>> i) % 2 == 1))
  let r := crcBits 32 0x04C11DB7 0xFFFFFFFF bits
  ((List.range 32).foldl (fun a i => a * 2 + (r >>> i) % 2) 0) ^^^ 0xFFFFFFFF

/-- One ring (R367): hourly or daily; its first word, size, period in seconds and KIND. -/
def ringBase (hourly : Bool) : Nat := if hourly then 0xF0000 else 0xD0200
def ringSize (hourly : Bool) : Nat := if hourly then 65536 else 130560
def ringPeriod (hourly : Bool) : Nat := if hourly then 3600 else 86400
def ringKind (hourly : Bool) : Nat := if hourly then 2 else 1

/-- A selection register's nine codes, first in [71:64] (R368). -/
def selCodes (w : Word) : List Nat := wordBytes w

/-- An item code with index 13 to 15 is stored as 0xFF (R368). -/
def fixCodes (w : Word) : Word := Word.ofN (bytesNat ((selCodes w).map (fun c => if 13 ≤ c % 16 then 0xFF else c)))

/-- The items of a ring, up to its first slot holding 0xFF (R368). -/
def Dev.items (d : Dev) (hourly : Bool) : List Nat :=
  (if hourly then selCodes (d.reg F.MET_LOGSELH)
    else selCodes (d.reg (F.MET_LOGSELD 0)) ++ selCodes (d.reg (F.MET_LOGSELD 1)) ++ selCodes (d.reg (F.MET_LOGSELD 2))).takeWhile
    (· != 0xFF)

/-- The period number now. -/
def Dev.period (d : Dev) (hourly : Bool) : Nat := d.seconds / ringPeriod hourly

def Dev.ringNext (d : Dev) (hourly : Bool) : Nat := d.get (if hourly then F.MET_LOGSTAT_HNEXT else F.MET_LOGSTAT_DNEXT)
def Dev.setRingNext (d : Dev) (hourly : Bool) (a : Nat) : Dev :=
  d.put (if hourly then F.MET_LOGSTAT_HNEXT else F.MET_LOGSTAT_DNEXT) a

/-- LAYOUT_GENERATION: the changed selection takes effect, the layout table gets its entry, LOG_LAYOUT is written
(R373). -/
def Dev.layout (d : Dev) (hourly : Bool) : Dev :=
  let d := if hourly then d.applyPend F.MET_LOGSELH
    else ((d.applyPend (F.MET_LOGSELD 0)).applyPend (F.MET_LOGSELD 1)).applyPend (F.MET_LOGSELD 2)
  let g := (d.get F.MET_LOGSTAT_LGEN + 1) % 64
  let items := d.items hourly
  let head := ringKind hourly * 2 ^ 38 + items.length * 2 ^ 32 + (d.period hourly - 1) % 2 ^ 24 * 2 ^ 8 + g * 4
  let codes (k : Nat) : Word := Word.ofN (bytesNat (((items.drop (9 * k)).take 9 ++ List.replicate 9 0xFF).take 9))
  let ws := [codes 0, codes 1, codes 2]
  let crc := crc32 (natBytes 5 head ++ ws.flatMap wordBytes)
  let d := d.storeAll (0xD0000 + 8 * g) (Word.ofN (head * 2 ^ 32 + crc) :: ws ++ [0, 0, 0, 0])
  let d := (d.put F.MET_LOGSTAT_LGEN g).event F.MET_STAT_LAYOUT Ev.met
  let d := d.noteVals 0x89 127 [g, ringKind hourly, items.length]
  d.onMet (fun m => if hourly then { m with genH := g, newH := false } else { m with genD := g, newD := false })

/-- Where the next record starts: at the ring's first word, the words left zeroed, when it does not fit (R367). -/
def Dev.ringPlace (d : Dev) (hourly : Bool) (size : Nat) : Dev × Nat :=
  let next := d.ringNext hourly
  let last := ringBase hourly + ringSize hourly
  if next + size ≤ last then (d, next)
  else (d.storeAll next (List.replicate (last - next) 0), ringBase hourly)

/-- DATA_LOG_RECORD of one ring: items first, header last (R369 to R372). -/
def Dev.writeRecord (d : Dev) (hourly : Bool) (skip : Bool) : Dev :=
  let items := d.items hourly
  let vals := items.map (fun c => Word.ofN (d.acc (c / 16) (c % 16)))
  let p := d.ringPlace hourly (items.length + 1)
  let flags := (if hourly then d.met.flagsH else d.met.flagsD) ||| (if skip then 32 else 0)
  let gen := if hourly then d.met.genH else d.met.genD
  let head := ringKind hourly * 2 ^ 38 + gen * 2 ^ 32 + (d.period hourly - 1) % 2 ^ 24 * 2 ^ 8 + flags % 256
  let crc := crc32 (natBytes 5 head ++ vals.flatMap wordBytes)
  let d := (p.1.storeAll (p.2 + 1) vals).store p.2 (Word.ofN (head * 2 ^ 32 + crc))
  let end_ := p.2 + items.length + 1
  let d := d.setRingNext hourly (if end_ = ringBase hourly + ringSize hourly then ringBase hourly else end_)
  let c := d.get F.COLLAR_CYCLE_CYCLE
  let d := d.onMet (fun m => if hourly then { m with flagsH := 0, snapH := some c } else { m with flagsD := 0, snapD := some c })
  d.event (if hourly then F.MET_STAT_HOURW else F.MET_STAT_DAYW) Ev.met

/-- One ring at a cycle boundary: a record where a period boundary was crossed; LOG_SKIP where more than one was
(R371 to R373). A ring with no record yet counts from the first boundary seen. -/
def Dev.ringBoundary (d : Dev) (hourly : Bool) : Dev :=
  let now := d.period hourly
  match (if hourly then d.met.perH else d.met.perD) with
  | none => d.onMet (fun m => if hourly then { m with perH := some now } else { m with perD := some now })
  | some last =>
    if now ≤ last then d
    else
      let skip := decide (last + 1 < now)
      let d := if (if hourly then d.met.newH else d.met.newD) then d.layout hourly else d
      let d := d.writeRecord hourly skip
      let d := if skip then (d.event F.MET_STAT_SKIP Ev.met).noteVals 0x8A 127 [ringKind hourly, last, now - 2] else d
      d.onMet (fun m => if hourly then { m with perH := some now } else { m with perD := some now })

/-- The data log at a cycle boundary: standing conditions flag the periods, the hourly record comes first (R370,
R371). -/
def Dev.dataLog (d : Dev) : Dev :=
  let d := if bitsOf (d.reg F.MET_IFSTAT) 71 0 = 0 then d else d.logFlag 8
  let d := if d.get F.SYS_MODE_MODE = 4 then d.logFlag 16 else d
  (d.ringBoundary true).ringBoundary false

/-- The records a ring holds for `n` items (R374); with nothing selected no layout is in force and the count reads 0, its
reset value (DEDUCED, log 129). -/
def ringHolds (hourly : Bool) (n : Nat) : Nat := if n = 0 then 0 else ringSize hourly / (n + 1)

/-- MET_LOGCAP (R374). -/
def Dev.settleLogcap (d : Dev) : Dev :=
  let days := ringHolds false (d.items false).length
  let hours := ringHolds true (d.items true).length
  (d.put F.MET_LOGCAP_DAYS days).put F.MET_LOGCAP_HOURS hours

/-- A catch-up post after the snapshot of a ring sets LATE in its next record (R370, R371). -/
def Dev.lateCheck (d : Dev) (cycle : Nat) : Dev :=
  let late (s : Option Nat) : Bool := match s with | none => false | some c => decide (cycle ≤ c)
  let d := if late d.met.snapH then (d.onMet (fun m => { m with flagsH := m.flagsH ||| 64 })).event F.MET_STAT_LATE Ev.met else d
  if late d.met.snapD then (d.onMet (fun m => { m with flagsD := m.flagsD ||| 64 })).event F.MET_STAT_LATE Ev.met else d

/-! ## Probe swap -/

/-- PROBE_SWAP: the durations of a THERMAL channel's segments in the unexpected quadrant confirm a swap after TSWAP
minutes, those in the expected one clear it (R343). -/
def Dev.probeSwap (d : Dev) (n quad dur : Nat) (energy : Bool) : Dev :=
  let expect := (d.get F.MET_IFCFG_EXPECT >>> (2 * n)) % 4
  if d.kind n != kThermal || expect = 0 || expect = 3 then d
  else
    let bad := if expect = 1 then 2 else 1
    let good := 3 - bad
    let a := Store.get (fun _ => (0, 0)) d.swapAcc n
    let full := d.get F.MET_IFCFG_TSWAP * 60 * 2 ^ 24
    let save (d : Dev) (v : Nat × Nat) : Dev := d.onSwapAcc (fun l => Store.set (fun _ => (0, 0)) l n v)
    if quad = bad && energy then
      let t := a.1 + dur
      if full ≤ t && !d.bit F.MET_IFSTAT_PSWAP n then
        ((((save d (0, 0)).putBit F.MET_IFSTAT_PSWAP n true).raise Ev.instfault).logFlag 8).noteVals 0x84 n [n] |>.pushAlarm AlarmCode.instfault [0x84, n]
      else save d (min t full, a.2)
    else if quad = good then
      let t := a.2 + dur
      if d.bit F.MET_IFSTAT_PSWAP n && full ≤ t then
        ((save d (0, 0)).putBit F.MET_IFSTAT_PSWAP n false).noteVals 0x87 127 [detPswap n / 16, n]
      else save d (0, if d.bit F.MET_IFSTAT_PSWAP n then t else 0)
    else d

end Sys2Proof.Machine
end

