-- ==== Sys2Proof/Machine/LoopOut.lean ====
section
/-!
DEFINITION. The loop current: primary value, setpoint, damping, alarm and the table of R384; and the Partner Fault Log
(spec/13_loop_and_host.md R381 to R387, R404 to R406).
-/
namespace Sys2Proof.Machine

/-! ## Partner Fault Log -/

/-- The summary counter of a kind. -/
def Dev.pfCount (d : Dev) (kind : Nat) : Nat := Store.get (fun _ => 0) d.loop.pfsum kind

/-- A violation: an entry in the ring, the kind's counter, PARTNER, and for the loop LOOP_EVT.FAULT (R404 to R406). `reply`
is the code sent, 255 for none. -/
def Dev.pflAdd (d : Dev) (iface kind reply addr cmd detail : Nat) : Dev :=
  let i := d.get F.LOOP_PFSTAT_NEXT
  let w0 := Word.ofN (d.seconds % 2 ^ 48 * 2 ^ 24 + iface * 2 ^ 20 + kind % 256 * 2 ^ 8 + reply % 256)
  let w1 := Word.ofN (addr % 65536 * 2 ^ 56 + cmd % 256 * 2 ^ 48 + detail % 2 ^ 48)
  let put (l : List (Nat × Word)) : List (Nat × Word) := Store.set (fun _ => 0) (Store.set (fun _ => 0) l (2 * i) w0) (2 * i + 1) w1
  let n := satInc 65535 (d.pfCount kind)
  let d := d.onLoop (fun l => { l with pfl := put l.pfl, pfsum := Store.set (fun _ => 0) l.pfsum kind n })
  let d := (d.put F.LOOP_PFSTAT_NEXT (i + 1)).put F.LOOP_PFSTAT_NUM (satInc 64 (d.get F.LOOP_PFSTAT_NUM))
  let d := (d.raise Ev.partner).irq Irq.partner
  if iface = 1 then d.event F.LOOP_EVT_FAULT Ev.loopEvt else d

/-- The nonvolatile store commits the changed counters at the boundary (R404). -/
def Dev.pflCommit (d : Dev) : Dev := d.onLoop (fun l => { l with pfsumNv := l.pfsum })

/-- The entry and counter views (LOOP_PFE0, LOOP_PFE1, LOOP_PFSUM). -/
def Dev.pfEntry (d : Dev) (k : Nat) : Word := Store.get (fun _ => 0) d.loop.pfl (2 * d.get F.LOOP_PFSEL_ENTRY + k)

/-! ## Setpoint -/

/-- A fraction without common factors. -/
def reduced (a : Int × Nat) : Int × Nat :=
  let g := max 1 (Nat.gcd a.1.natAbs a.2)
  (a.1 / (g : Int), a.2 / g)

/-- The undamped current of R382 in µA, and whether it clamps low or high. -/
def Dev.undamped (d : Dev) (x : Int) : (Int × Nat) × Bool × Bool :=
  let lrv := (d.reg F.LOOP_LRV).toInt
  let urv := (d.reg F.LOOP_URV).toInt
  let span := urv - lrv
  if span = 0 then ((4000, 1), false, false)
  else
    let n := if 0 < span then x - lrv else lrv - x
    let s := span.natAbs
    -- I = (4000 s + 16000 n) / s
    let num := 4000 * (s : Int) + 16000 * n
    if num < 3800 * s then ((3800, 1), true, false)
    else if 20500 * s < num then ((20500, 1), false, true)
    else (reduced (num, s), false, false)

/-- The fused safe current in µA (R72). -/
def Dev.safeCurrent (d : Dev) : Nat := 3600 - 100 * d.get F.SYS_FUSE_SAFE_I

/-- The alarm that stands: by posts, or by distress (R385). -/
def Dev.alarmStands (d : Dev) : Bool := d.loop.alarm || (d.flag F.LOOP_ALM_DISTRESS && d.flag F.MAC_STAT_DISTRESS)

/-- The loop front end is off for a battery installation: by PWR_CFG.INST, and before Stage 2 has loaded it by the installation latch or the supply
that began the start (R63, R74, R384). -/
def Dev.frontOff (d : Dev) : Bool :=
  d.battery || (decide (d.get F.SYS_MODE_STAGE < 3) && (d.sup.latch == some true || d.sup.cellStart))

/-- The row of R384 in force; after a loop return the regulator stands at the fused safe current first (R59, R62). In HOLD the shot-floor wait does not hold the loop (DEDUCED, log 14). -/
def Dev.loopState (d : Dev) : Nat :=
  let mode := d.get F.SYS_MODE_MODE
  if !d.frontOff && d.col.shut.any (fun s => (s.restart && d.flag F.PWR_STAT_VIN_OK) || decide (8000 ≤ d.sup.loopp)) then 1
  else if d.get F.SYS_MODE_STAGE = 0 || d.frontOff || (d.get F.SYS_MODE_BASE = 4 && !d.sup.regulating) || d.sup.lgate then 0
  else if d.sup.regulating then 1
  else if mode != 7 && ((d.get F.SYS_MODE_STAGE < 4 && !d.loop.firstFb) || !d.sup.filled) then 1
  else if mode = 7 then 2
  else if d.flag F.LOOP_FIX_EN && mode = 5 then 3
  else if d.alarmStands then 4
  else if d.flag F.SYS_START_PROV then 6
  else 5

/-- The loop follows the measurement in rows 5 and 6. -/
def follows (st : Nat) : Bool := st == 5 || st == 6

/-- The setpoint of a row other than 5 and 6, in µA; with the front end off it reads 0 (R384). -/
def Dev.fixedPoint (d : Dev) (st : Nat) : Nat :=
  match st with
  | 0 => 0
  | 1 => d.safeCurrent
  | 2 => if d.flag F.LOOP_ALM_FAIL then d.get F.LOOP_ALM_IHIGH else d.get F.LOOP_ALM_ILOW
  | 3 => d.get F.LOOP_FIX_IFIX
  | _ => if d.flag F.LOOP_ALM_DIR then d.get F.LOOP_ALM_IHIGH else d.get F.LOOP_ALM_ILOW

/-- SETPT: µA in steps of 0.25 µA (R387). -/
def setptOf (y : Int × Nat) : Nat := (near (4 * y.1) (max 1 y.2)).toNat

/-- The current the loop goes to: measurement resumes from I, and a change of source, from the fallback posts to the Sleeves' among them, takes
the new source's value undamped (R383). -/
def Dev.loopTarget (d : Dev) (st : Nat) : Int × Nat :=
  if follows st then (if d.get F.LOOP_STAT_STATE = st then d.loop.y else (d.undamped d.loop.x).1) else ((d.fixedPoint st : Int), 1)

/-- STATE and SETPT show the row in force and its current (R384, R387). -/
def Dev.showLoop (d : Dev) (st : Nat) (y : Int × Nat) : Dev :=
  ((d.onLoop (fun l => { l with y := y })).put F.LOOP_STAT_STATE st).put F.LOOP_STAT_SETPT (setptOf y)

/-- A change of the alarm is announced (R385). -/
def Dev.tellAlarm (d : Dev) (al : Bool) : Dev :=
  if al = d.loop.shown then d
  else
    ((d.onLoop (fun l => { l with shown := al })).event (if al then F.LOOP_EVT_ALMON else F.LOOP_EVT_ALMOFF) Ev.loopEvt).irq Irq.loopAlarm

/-- The loop follows the table of R384, and its alarm is announced (R383 to R385). -/
def Dev.settleLoop (d : Dev) : Dev := (d.showLoop d.loopState (d.loopTarget d.loopState)).tellAlarm d.alarmStands

/-- LOOP_SETPOINT: a new value x that covers `p` (LSB 2^-24 s) (R382, R383). -/
def Dev.loopValue (d : Dev) (x : Int) (p : Nat) : Dev :=
  let u := d.undamped x
  let i := u.1
  let y0 := d.loop.y
  -- P / (P + D), D = DAMP / 10 s
  let den := 10 * p + d.get F.LOOP_OUT_DAMP * 2 ^ 24
  let y := if !follows (d.get F.LOOP_STAT_STATE) then y0
    else if d.get F.LOOP_OUT_DAMP = 0 then i
    else reduced (fracAdd y0 (fracMul (fracSub i y0) (10 * (p : Int), max 1 den)))
  let d := d.onLoop (fun l => { l with x := x, y := y })
  let d := (d.putB F.LOOP_STAT_SATL u.2.1).putB F.LOOP_STAT_SATH u.2.2
  if u.2.1 || u.2.2 then d.event F.LOOP_EVT_SAT Ev.loopEvt else d

/-- The sum over applied segments, counted negative for DIR 1. -/
def signedSum (f : Applied → Nat) (as : List Applied) : Int :=
  as.foldl (fun s a => if a.rev then s - (f a : Int) else s + (f a : Int)) 0

/-- The primary value of a post (R381): Q48.24 per second over the covered period `p`. -/
def Dev.primary (d : Dev) (as : List Applied) (p : Nat) : Int :=
  let total : Int := match d.get F.LOOP_MAP_QTY with
    | 0 => signedSum (·.a2) as
    | 1 => ((as.foldl (fun s a => s + a.a1) 0 : Nat) : Int)
    | 2 => signedSum (·.a3) as
    | _ => ((as.foldl (fun s a => s + a.a1) 0 : Nat) : Int)
  near (total * 2 ^ 24) (max 1 p)

/-- A path that serves a pipe, by its calibration record (R324). -/
def Dev.servesPipe (d : Dev) (p pipe : Nat) : Bool := d.flag (F.USF_PATH_CFG_EN p) && bitsOf (d.pathParam p 9) 1 0 == pipe

/-- The ADC input records a channel uses: the sensor and REF inputs of its RTD and bridge records (R324, R351, R360). -/
def Dev.inputsUsed (d : Dev) (n : Nat) : List Nat :=
  let rtd (r : Nat) : List Nat := let w := d.param (0x140 + 8 * r); [bitsOf w 3 0, bitsOf w 7 4]
  let bridge (b : Nat) : List Nat := let w := d.param (0x188 + 8 * b); [bitsOf w 3 0, bitsOf w 7 4]
  if d.kind n = kThermal then rtd (d.get (F.MET_CH_DESC_IN1 n)) ++ rtd (d.get (F.MET_CH_DESC_IN2 n))
  else if d.kind n = kGas then rtd (d.get (F.MET_CH_DESC_IN1 n)) ++ bridge (d.get (F.MET_CH_DESC_IN2 n) % 4)
  else []

/-- An installation fault stands that channel `n` uses (R385). -/
def Dev.channelFault (d : Dev) (n : Nat) : Bool :=
  let ins := d.inputsUsed n
  ([0, 1, 2, 3].any (fun p => d.servesPipe p (d.get (F.MET_CH_DESC_PIPE n)) && (d.bit F.MET_IFSTAT_XOPEN p || d.bit F.MET_IFSTAT_XSWAP p)))
    || ins.any (fun i => d.bit F.MET_IFSTAT_PROBE i || d.bit F.MET_IFSTAT_REFF (d.get (F.ADC_IN_PAIR i)))
    || d.bit F.MET_IFSTAT_PSWAP n

/-- LOOP_ALARM: a post of the source channel with FLAGS `flags` moves the alarm (R385). -/
def Dev.loopAlarm (d : Dev) (n flags : Nat) : Dev :=
  let cnt (on cond : Bool) (c : Nat) : Nat := if on && cond then satTo 15 ((if d.loop.alarmOf = n then c else 0) + 1) else 0
  let f := cnt (d.flag F.LOOP_ALM_FLOW) (flags / 2 % 2 == 1) d.loop.cFlow
  let t := cnt (d.flag F.LOOP_ALM_TEMP) (flags / 4 % 2 == 1) d.loop.cTemp
  let g := cnt (d.flag F.LOOP_ALM_IFAULT) (d.channelFault n) d.loop.cFault
  let need := d.get F.LOOP_ALM_NALM
  let al := if need ≤ max f (max t g) then true else if f + t + g = 0 then false else d.loop.alarm
  d.onLoop (fun l => { l with cFlow := f, cTemp := t, cFault := g, alarmOf := n, alarm := al })

/-- What an applied post of channel `n` brings the loop (R381 to R385). From the short boundary, or a loop return, to the first full-rate boundary the
loop stays with what it has, and a Sleeve's post waits for that boundary (R59, R86, R90). -/
def Dev.loopPost (d : Dev) (n flags p : Nat) (as : List Applied) : Dev :=
  if d.get F.LOOP_MAP_CHAN != n then d
  else
    let d := d.loopAlarm n flags
    let x := d.primary as p
    if d.get F.LOOP_MAP_QTY = 4 || flags / 2 % 2 = 1 then d
    else if d.flag F.SYS_START_PROV && flags % 2 = 0 then d.onLoop (fun l => { l with full := some (x, p) })
    else d.loopValue x p

/-- The first full-rate boundary: the loop follows full measurement (R86). -/
def Dev.loopFull (d : Dev) : Dev :=
  match d.loop.full with
  | none => d
  | some v => (d.loopValue v.1 v.2).onLoop (fun l => { l with full := none })

/-- QTY 4: LOOP_PV is taken at each cycle boundary; `p` is the T1 period (R381, R383). -/
def Dev.loopPv (d : Dev) (p : Nat) : Dev :=
  if d.get F.LOOP_MAP_QTY = 4 then d.loopValue (d.reg F.LOOP_PV).toInt p else d

/-- LOOP_FIX_TIMEOUT: 600 s after LOOP_FIX.EN was set (R386). -/
def Dev.loopFixTimeout (d : Dev) : Dev :=
  if d.flag F.LOOP_FIX_EN && d.loop.fixFrom + 600 ≤ d.seconds then d.put F.LOOP_FIX_EN 0 else d

/-- HIRQ is asserted while an enabled cause is set (R416). -/
def Dev.hirq (d : Dev) : Bool := (d.reg F.HOST_IRQ &&& d.reg F.HOST_IRQEN) != 0

end Sys2Proof.Machine
end

