-- ==== Sys2Proof/Machine/Radio.lean ====
section
/-!
DEFINITION. The radio as a TSCH leaf: keys and counters, queues, joining and leaving, timeslots, synchronisation, distress,
quiet periods and the wake-up receiver (spec/14_radio.md). What a received COMMAND does stands in Machine/Partner.lean.
-/
namespace Sys2Proof

/-- FLAGS bits of a link (MAC_LINK). -/
def RLink.tx (l : RLink) : Bool := l.flags % 2 == 1
def RLink.rx (l : RLink) : Bool := l.flags / 2 % 2 == 1
def RLink.shared (l : RLink) : Bool := l.flags / 4 % 2 == 1
def RLink.timekeeping (l : RLink) : Bool := l.flags / 8 % 2 == 1
def RLink.adv (l : RLink) : Bool := l.flags / 16 % 2 == 1

/-- The link leads to neighbour `a`: it is that neighbour's, or shared, as every neighbour listens in it (DEDUCED from R425 and R452, log 112). -/
def RLink.leadsTo (l : RLink) (a : Nat) : Bool := l.shared || l.neigh == a

/-- The same cell. -/
def RLink.same (a b : RLink) : Bool := a.sf == b.sf && a.slot == b.slot && a.chofs == b.chofs

end Sys2Proof

namespace Sys2Proof.Machine

/-! ## Small views -/

/-- MAC_STAT.JSTATE: 0 off, 1 scanning, 2 joining, 3 joined, 4 parent lost, 5 backoff. -/
def Dev.jstate (d : Dev) : Nat := d.get F.MAC_STAT_JSTATE

/-- The device has an address and a schedule. -/
def Dev.inNet (d : Dev) : Bool := d.jstate == 3 || d.jstate == 4

/-- A quiet period is in force (R464). -/
def Dev.quietNow (d : Dev) : Bool := d.flag F.MAC_STAT_QUIET

/-- The radio works: neither RADIO nor MAC is held (R283), and no self-test has taken it off. -/
def Dev.radioUp (d : Dev) : Bool := !d.held.contains (14, 0) && !d.held.contains (15, 0) && !d.bist.radioOff

/-- LF ticks since the last sync (R429). -/
def Dev.sinceSync (d : Dev) : Nat := d.get F.TIDE_TICKS_TICKS - d.radio.lastSync

/-- g of R429 in units of 1/32,768,000 µs: GMIN + D × Δt. -/
def Dev.guardNum (d : Dev) : Nat :=
  d.get F.MAC_DRIFT_GMIN * 32768000 + (if d.flag F.MAC_STAT_DRIFTV then d.get F.MAC_DRIFT_RES else 40000) * d.sinceSync

/-- The guard window exceeds TsRxWait / 2 (R431). -/
def Dev.guardOver (d : Dev) : Bool := decide (d.get F.MAC_TS_RXWAIT * 32768000 < 2 * d.guardNum)

/-- The keep-alive interval in s (R428). -/
def Dev.kaSeconds (d : Dev) : Nat :=
  if d.flag F.MAC_STAT_DRIFTV then d.get F.MAC_TIMING_KA else min 60 (d.get F.MAC_TIMING_KA)

/-- FC and HWM of a key handle (R443). -/
def Dev.fcOf (d : Dev) (h : Nat) : Nat := Store.get (fun _ => 0) d.radio.fc h
def Dev.hwmOf (d : Dev) (h : Nat) : Nat := Store.get (fun _ => 0) d.radio.hwm h

/-- What follows from time and state: GUARD, SINCE, LEASE, MAC_FC, RADIO_STAT.STATE. -/
def Dev.settleRadio (d : Dev) : Dev :=
  let on := d.inNet
  let d := d.put F.MAC_STAT_GUARD (if on then satTo 65535 (near d.guardNum 32768000).toNat else 0)
  let d := d.put F.MAC_STAT_SINCE (if on then satTo 65535 (d.sinceSync / 32768) else 0)
  let d := d.put F.MAC_ADDR_LEASE (if on then d.radio.leaseEnd - d.seconds else 0)
  let cur := d.get F.MAC_KEY_CUR != 0
  let d := (d.put F.MAC_FC_FC (if cur then d.fcOf 5 else 0)).put F.MAC_FC_HWM (if cur then d.hwmOf 5 else 0)
  d.put F.RADIO_STAT_STATE (if d.jstate = 1 then 4 else if d.radio.awakeTill.isSome || d.radio.resync then 1 else 0)

/-! ## Channel plan -/

/-- The top edge of the band in kHz (R418). -/
def bandTop (band : Nat) : Nat := if band = 0 then 870000 else 928000

/-- NCH is clamped so that the last channel lies in the band (R419). -/
def Dev.clampPlan (d : Dev) : Dev :=
  let f0 := d.get F.RADIO_CHPLAN_F0
  let step := 200 + 200 * d.get F.RADIO_CHPLAN_SPACING
  let top := bandTop (d.get F.RADIO_PHY_BAND)
  d.put F.RADIO_CHPLAN_NCH (max 1 (min (d.get F.RADIO_CHPLAN_NCH) ((top - f0) / step + 1)))

/-- WUR_CFG.FREQ stays in the band (R460). -/
def Dev.clampWur (d : Dev) : Dev :=
  let b := d.get F.RADIO_PHY_BAND
  d.put F.WUR_CFG_FREQ (max (if b = 0 then 863000 else 902000) (min (bandTop b) (d.get F.WUR_CFG_FREQ)))

/-- The deferred fields of R468 take effect. -/
def Dev.applyPlan (d : Dev) : Dev :=
  ((((d.applyPend F.RADIO_PHY).applyPend F.RADIO_CHPLAN).applyPend F.MAC_CFG).clampPlan).clampWur

/-! ## Keys in the Pocket -/

/-- The state of a Pocket slot: 0 EMPTY, 1 LOADED, 2 FACTORY, 3 REVOKED (R256). -/
def Dev.keyState (d : Dev) (h : Nat) : Nat := bitsOf (d.reg F.COLLAR_POCKET) (2 * h + 1) (2 * h)
def Dev.setKeyState (d : Dev) (h v : Nat) : Dev :=
  d.setReg F.COLLAR_POCKET (withBits (d.reg F.COLLAR_POCKET) (2 * h + 1) (2 * h) v)

/-- What a Pocket slot holds that nothing was loaded into: the factory keys in slots 0 and 1, no key in the others (R255).
DESIGN CHOICE 25: the factory keys are constants of Config without a body, and the other slots leave the factory EMPTY. -/
def factoryKey (h : Nat) : KeySlot :=
  if h = 0 then ⟨0, Config.recordKey⟩ else if h = 1 then ⟨2, Config.rootKey⟩ else ⟨0, []⟩

/-- A Pocket slot's key. -/
def Dev.keyAt (d : Dev) (h : Nat) : KeySlot := Store.get factoryKey d.pocket h

/-- The leftmost 32 bits of SHA-256 of a key (R256). -/
def keyDigest (k : List Nat) : Nat := bytesNat ((sha256 k).take 4)

/-- An HMAC-SHA-256 over words under a key, truncated to 128 bits: two words (R99, R263, R474). -/
def mac128 (key : List Nat) (ws : List Word) : List Word :=
  let h := hmacSha256 key (ws.flatMap wordBytes)
  [Word.ofN (bytesNat (h.take 8)), Word.ofN (bytesNat ((h.drop 8).take 8))]

/-- An uncorrectable word stands in `n` words from `a` (R509). -/
def Dev.badIn (d : Dev) (a n : Nat) : Bool := d.ecc.any (fun e => e.2 && decide (a ≤ e.1) && decide (e.1 < a + n))

/-! ## The trusted work area

R232 says what it holds and that each record carries its own HMAC under the record key; the places and forms of the records are the model's (DESIGN
CHOICE, log 120). -/

/-- The code-density table of a TDC unit: 1,024 words. -/
abbrev workTable (u : Nat) : Nat := 0x87000 + 0x400 * u

/-- The learned radio drift (R432). -/
abbrev workDrift : Nat := 0x87800

/-- The high-water mark of a key handle, 4 to 6 (R443). -/
abbrev workHwm (h : Nat) : Nat := 0x87810 + 4 * h

/-- A slot of the Pocket: 16 words. -/
abbrev workSlot (h : Nat) : Nat := 0x87900 + 16 * h

/-- The base snapshot of a HANDOVER: 512 words (R481). -/
abbrev workBase : Nat := 0x87A00

/-- A record of the trusted work area: its words, then its HMAC (R232). -/
def Dev.workWrite (d : Dev) (a : Nat) (ws : List Word) : Dev := (d.storeAll a ws).storeAll (a + ws.length) (mac128 (d.keyAt 0).key ws)

/-- The slot store of the Pocket takes up a slot: its type and key bytes, eight words of nine (R232). -/
def Dev.slotWrite (d : Dev) (h : Nat) : Dev :=
  let k := d.keyAt h
  d.workWrite (workSlot h) (Word.ofN k.ty :: (List.range 8).map (fun i => Word.ofN (bytesNat ((k.key.drop (9 * i)).take 9))))

/-- The high-water mark of a handle is committed (R443). -/
def Dev.hwmWrite (d : Dev) (h v : Nat) : Dev :=
  (d.onRadio (fun r => { r with hwm := Store.set (fun _ => 0) r.hwm h v })).workWrite (workHwm h) [Word.ofN v]

/-- A key is loaded: KEY_LOADED carries the handle and the digest (R256). -/
def Dev.keyLoad (d : Dev) (h : Nat) (s : KeySlot) : Dev :=
  (((d.onPocket (fun p => Store.set factoryKey p h s)).slotWrite h).setKeyState h 1).noteVals 0x16 127 [h, keyDigest s.key]

/-- A key is erased and its slot REVOKED (R256). -/
def Dev.keyErase (d : Dev) (h : Nat) : Dev :=
  let dg := keyDigest (d.keyAt h).key
  ((d.onPocket (fun p => Store.erase p h)).workWrite (workSlot h) (List.replicate 9 0)).setKeyState h 3 |>.noteVals 0x17 127 [h, dg]

/-- A key may be used: its slot is LOADED or FACTORY and of type `ty` (R256). -/
def Dev.keyUsable (d : Dev) (h ty : Nat) : Bool := (d.keyState h == 1 || d.keyState h == 2) && (d.keyAt h).ty == ty

/-! ## Frame counters -/

/-- The CCM* nonce: the sender's EUI-64, the frame counter and the security level, each most significant octet first (R441). -/
def ccmNonce (eui counter level : Nat) : List Nat := natBytes 8 eui ++ natBytes 4 counter ++ natBytes 1 level

/-- The security level of a frame the device sends: 7 under the join key, else SECLVL (R435, R440). -/
def Dev.sendLevel (d : Dev) (h : Nat) : Nat := if h = 4 then 7 else d.get F.MAC_CFG_SECLVL

/-- A frame is sent under handle `h` at security level `level`: the high-water mark is committed at each multiple of 256 (R443), the nonce is formed
from the counter (R441), FC rises, FCLOW is set near the end, and at the last value nothing more is sent under the key (R445). -/
def Dev.useFc (d : Dev) (h level : Nat) : Dev :=
  let fc := d.fcOf h
  let d := d.onRadio (fun r => { r with txNonce := ccmNonce (d.get F.RADIO_EUI_EUI) fc level })
  let d := if fc % 256 = 0 then d.hwmWrite h fc else d
  let d := if fc % 256 = 0 && h == 5 then
      d.onRadio (fun r => { r with hwmIdx := Store.set (fun _ => 0) r.hwmIdx (d.get F.MAC_KEY_CUR) fc }) else d
  let d := d.onRadio (fun r => { r with fc := Store.set (fun _ => 0) r.fc h (fc + 1) })
  let d := if h = 5 && 0xFFFFFF00 < fc + 1 then d.event F.MAC_EVT_FCLOW Ev.mac else d
  if h = 5 && 0xFFFFFFFF ≤ fc + 1 && !d.radio.exhausted then
    (d.onRadio (fun r => { r with exhausted := true })).note 0x5A
  else d

/-- FC_RESTORED: after a chip reset each counter resumes at HWM + 256 (R444). -/
def Dev.fcRestore (d : Dev) : Dev :=
  [4, 5, 6].foldl (fun d h =>
    let v := d.hwmOf h + 256
    (d.onRadio (fun r => { r with fc := Store.set (fun _ => 0) r.fc h v })).noteVals 0x58 127 [h, v]) d

/-! ## Queues -/

/-- Block `b` is no longer a request to RADIO. -/
def Dev.radioDone (d : Dev) (b : Nat) : Dev := d.onRadio (fun r => { r with given := r.given.filter (fun g => g.1 != b) })

/-- A Seam block of an APP_UP goes back to its HOME with its completion word (R279, R456), and RADIO_TX is raised (R289). -/
def Dev.appUpBack (d : Dev) (b status cause : Nat) : Dev :=
  ((d.returnBlock b (d.home b) false status Own.radio (cause * 2 ^ 48 + (d.reg F.TIDE_SEC).toNat % 2 ^ 48)).radioDone b).raise Ev.radioTx

/-- The ordinary queue is emptied; APP_UP blocks return with `status` and `cause` (R438, R457, R283). -/
def Dev.dropOrd (d : Dev) (status cause : Nat) : Dev :=
  (d.radio.ord.foldl (fun d m => match m.block with
    | some b => d.appUpBack b status cause
    | none => d) d).onRadio (fun r => { r with ord := [] })

/-- The ordinary queue is full (R427). -/
def Dev.ordFull (d : Dev) : Bool := 16 ≤ d.radio.ord.length

/-- A frame joins the ordinary queue while it has room (R427). -/
def Dev.queueOrd (d : Dev) (m : RMsg) : Dev := if d.ordFull then d else d.onRadio (fun r => { r with ord := r.ord ++ [m] })

/-- A message the device originates, to the coordinator. -/
def Dev.ownMsg (d : Dev) (ty : Nat) (data : List Nat) (wake : Bool) : RMsg × Dev :=
  (⟨ty, d.radio.coord, d.radio.rseq, 0, data, 0, false, wake, none⟩, d.onRadio (fun r => { r with rseq := (r.rseq + 1) % 65536 }))

/-- A REPLY to an originator (R452). It follows from a wake request while the device listens after one (R464). -/
def Dev.queueReply (d : Dev) (dest rseq code : Nat) (data : List Nat) : Dev :=
  d.queueOrd ⟨0x21, dest, rseq, code, data, 0, true, d.radio.awakeTill.isSome, none⟩

/-- The REPLY to a COMMAND, kept with its originator for a retry (R451). -/
def Dev.rioAnswer (d : Dev) (dest rseq code : Nat) (data : List Nat) : Dev :=
  let m : RMsg := ⟨0x21, dest, rseq, code, data, 0, true, d.radio.awakeTill.isSome, none⟩
  let keep (o : ROrig) : ROrig := if o.addr = dest && o.rseq = rseq then { o with reply := some m } else o
  (d.queueReply dest rseq code data).onRadio (fun r => { r with origs := r.origs.map keep })

/-! ## The Partner Fault Log from the radio -/

/-- A radio violation (R466): interface 3 for the coordinator or the EB parent at join, else 2. -/
def Dev.radioFault (d : Dev) (kind reply src cmd detail : Nat) : Dev :=
  let i := if src = d.radio.coord || d.radio.peer.any (fun p => p.1 == src) then 3 else 2
  d.pflAdd i kind reply src cmd detail

/-! ## Joining and leaving -/

/-- Scanning is possible (R434, R438). -/
def Dev.mayScan (d : Dev) : Bool := d.flag F.MAC_CFG_EN && d.flag F.MAC_CFG_JOINEN && d.radio.hold.isNone && !d.bist.radioOff

/-- Not joined: scanning or off (R434, R438). -/
def Dev.idleRadio (d : Dev) : Dev := d.put F.MAC_STAT_JSTATE (if d.mayScan then 1 else 0)

/-- The links and slotframes are gone (R438). -/
def Dev.clearLinks (d : Dev) : Dev :=
  ([0, 1, 2, 3].foldl (fun d n => d.setReg (F.MAC_SF n) 0) d).onRadio (fun r => { r with links := [], sched := [] })

/-- NLINK and ACTIVE of each slotframe follow the links. -/
def Dev.countLinks (d : Dev) : Dev :=
  [0, 1, 2, 3].foldl (fun d n =>
    let k := (d.radio.links.filter (fun l => l.sf == n)).length
    (d.put (F.MAC_SF_NLINK n) (satTo 255 k)).putB (F.MAC_SF_ACTIVE n) (k != 0 || d.get (F.MAC_SF_SIZE n) != 0)) d

/-- The quiet period is over or cleared. -/
def Dev.clearQuiet (d : Dev) : Dev :=
  ((d.setReg F.MAC_QUIET 0).put F.MAC_STAT_QUIET 0).onRadio (fun r => { r with quietFrom := 0, quietEnd := 0, graceDue := false, graceEnd := 0 })

/-- The device leaves the network (R438); `cause` goes into LEFT. Distress stops; after a desync the parent stays lost
(R459). -/
def Dev.leave (d : Dev) (cause : Nat) : Dev :=
  let d := (d.dropOrd 1 4).noteVals 0x51 127 [cause]
  let d := d.distressEnd
  let d := (((d.put F.MAC_ADDR_SHORT 0xFFFF).put F.MAC_ADDR_PARENT 0xFFFF).put F.MAC_KEY_CUR 0).put F.MAC_ERR_NFAIL 0
  let d := (d.put F.MAC_KEY_NEXT 0).put F.MAC_KEY_SWITCH 0
  let d := ((d.put F.MAC_STAT_NSYNC 0).put F.MAC_STAT_DRIFTV 0).clearLinks.clearQuiet
  let d := d.onRadio (fun r => { r with floors := [], heldWakes := [], lateAcks := [], peer := none, lost := r.lost && cause == 1, be := 1, skip := 0 })
  let d := d.onRadio (fun r => { r with awakeTill := none, resync := false, app := [], exhausted := false, reportDue := false })
  (d.applyPlan.idleRadio).event F.MAC_EVT_LEFT Ev.mac

/-- Causes of LEFT, as this model counts them (log 6). -/
abbrev leftDesync : Nat := 1
abbrev leftAsn : Nat := 2
abbrev leftLease : Nat := 3
abbrev leftOff : Nat := 4
abbrev leftOrder : Nat := 5
abbrev leftKey : Nat := 6

/-- SCAN_DWELL: the next channel of the plan (R434). -/
def Dev.scanDwell (d : Dev) : Dev :=
  if d.jstate = 1 then d.onRadio (fun r => { r with scan := (r.scan + 1) % max 1 (d.get F.RADIO_CHPLAN_NCH) }) else d

/-- The template defaults of R423 for a rate. -/
def defaultTs (rate : Nat) : TsTemplate := ⟨if rate = 0 then 60000 else if rate = 1 then 32000 else 20000, 3000, 5000, 1000, 800⟩

/-- The timeslot template an EB gives, where it is usable (R423). -/
def ebTemplate (rate : Nat) (eb : EbFrame) : Option TsTemplate :=
  match eb.ts, eb.tsId with
  | some t, _ => if t.rxwait ≤ 2 * t.txofs then some t else none
  | none, some 0 => some (defaultTs rate)
  | none, _ => none

/-- The hopping list an EB gives, where it is usable (R424). -/
def ebHops (nch : Nat) (eb : EbFrame) : Option (List Nat) :=
  match eb.hop, eb.hopId with
  | some l, _ => if l.length ≤ 64 && !l.isEmpty && l.all (· < nch) then some l else none
  | none, some 0 => some (List.range nch)
  | none, _ => none

/-- The EB is usable (R434). -/
def Dev.ebUsable (d : Dev) (eb : EbFrame) : Bool :=
  (d.get F.MAC_CFG_PANID == 0xFFFF || d.get F.MAC_CFG_PANID == eb.pan) && eb.sync
    && (ebTemplate (d.get F.RADIO_PHY_RATE) eb).isSome && (ebHops (d.get F.RADIO_CHPLAN_NCH) eb).isSome
    && eb.links.any (fun l => l.shared)

/-- The hopping list in the MAC_HOP registers (MAC_HOPw). -/
def Dev.setHops (d : Dev) (l : List Nat) : Dev :=
  let word (w : Nat) : Word := Word.ofN ((List.range 12).foldl (fun a i => a + l.getD (12 * w + i) 0 % 64 * 2 ^ (6 * i)) 0)
  ((List.range 6).foldl (fun d w => d.setReg (F.MAC_HOP w) (word w)) d).put F.MAC_HOPLEN_LEN l.length

/-- No more than 64 links of each slotframe, 0 to 3 (R424). -/
def capLinks (ls : List RLink) : List RLink := [0, 1, 2, 3].flatMap (fun n => (ls.filter (fun l => l.sf == n)).take 64)

/-- Timing and schedule from an EB, its links with its sender (R423, R424, R434). -/
def Dev.takeEb (d : Dev) (eb : EbFrame) : Dev :=
  let t := (ebTemplate (d.get F.RADIO_PHY_RATE) eb).getD (defaultTs 0)
  let d := (((d.put F.MAC_TS_SLOT t.slot).put F.MAC_TS_TXOFS t.txofs).put F.MAC_TS_RXWAIT t.rxwait)
  let d := (d.put F.MAC_TS_ACKDLY t.ackdly).put F.MAC_TS_ACKWAIT t.ackwait
  let d := (d.setHops ((ebHops (d.get F.RADIO_CHPLAN_NCH) eb).getD [])).put F.MAC_ASN_ASN eb.asn
  let d := ((eb.sfs.filter (fun s => s.1 < 4)).foldl (fun d s => d.put (F.MAC_SF_SIZE s.1) s.2) d.clearLinks)
  let d := d.onRadio (fun r => { r with links := (capLinks eb.links).map (fun l => { l with neigh := eb.src, flags := l.flags % 32 + 32 }) })
  (d.countLinks.put F.MAC_STAT_DESYNC 0).onRadio (fun r => { r with lastSync := d.get F.TIDE_TICKS_TICKS })

/-- JOIN_REQ to the sender of an EB, with a fresh nonce (R435); a response is awaited for 30 s (R436). -/
def Dev.joinReq (d : Dev) (eb : EbFrame) : Dev :=
  let n := d.free
  let d := n.2
  let nonce := n.1 % 2 ^ 64
  let data := natBytes 8 (d.get F.RADIO_EUI_EUI) ++ natBytes 4 (d.get F.COLLAR_ID_IDSUM)
    ++ natBytes 4 (bitsOf (d.reg F.SYS_ID) 39 8) ++ natBytes 8 nonce ++ natBytes 4 (d.fcOf 4)
  let d := d.onRadio (fun r => { r with peer := some (eb.src, eb.eui), nonce := nonce, due := d.seconds + 30 })
  d.queueOrd ⟨1, eb.src, d.radio.rseq, 0, data, 0, false, false, none⟩

/-- An ASN of the parent differs by more than one slot (R433): the device leaves, logs and rejoins. -/
def Dev.asnError (d : Dev) (src asn : Nat) : Dev :=
  let own := d.get F.MAC_ASN_ASN
  let d := d.noteAB (if asn < own then 0x52 else 0x53) 127 own asn
  ((d.radioFault 25 255 src 0 0).event F.MAC_EVT_ASNERR Ev.mac).leave leftAsn

/-- The ASN is off by more than one slot. -/
def Dev.asnOff (d : Dev) (asn : Nat) : Bool := decide (asn + 1 < d.get F.MAC_ASN_ASN) || decide (d.get F.MAC_ASN_ASN + 1 < asn)

/-- EB_RECEIVED (R433, R434, R457). -/
def Dev.ebReceived (d : Dev) (eb : EbFrame) : Dev :=
  if !d.radioUp then d
  else if d.jstate = 1 then
    if d.ebUsable eb then ((((d.takeEb eb).applyPlan).put F.MAC_STAT_JSTATE 2).joinReq eb).distressStart
    else d.radioFault 19 255 eb.src 0 0
  else if d.inNet && eb.src = d.get F.MAC_ADDR_PARENT && d.asnOff eb.asn then d.asnError eb.src eb.asn
  else if d.jstate = 4 then
    if d.radio.peer.isSome || d.seconds < d.radio.due then d
    else if d.ebUsable eb then d.joinReq eb
    else d.radioFault 19 255 eb.src 0 0
  else d

/-- A join attempt failed: the device waits, doubling each time (R436). With the parent lost it stays so (R457). -/
def Dev.joinFailed (d : Dev) : Dev :=
  let w := if d.radio.boff = 0 then 10 else min (2 * d.radio.boff) (d.get F.MAC_TIMING_BOMAX)
  let d := d.onRadio (fun r => { r with peer := none, boff := w, due := d.seconds + w, ord := r.ord.filter (fun m => m.ty != 1) })
  if d.jstate = 4 then d else (d.clearLinks).put F.MAC_STAT_JSTATE 5

/-- JOIN_TIMEOUT: no response within 30 s (R436). -/
def Dev.joinTimeout (d : Dev) : Dev := if d.radio.peer.isSome && d.radio.due ≤ d.seconds then d.joinFailed else d

/-- JOIN_BACKOFF_END (R436). -/
def Dev.joinBackoffEnd (d : Dev) : Dev := if d.jstate = 5 && d.radio.due ≤ d.seconds then d.idleRadio else d

/-- LEAVE_HOLD_END (R438). -/
def Dev.leaveHoldEnd (d : Dev) : Dev :=
  match d.radio.hold with
  | some t => if t ≤ d.seconds then (d.onRadio (fun r => { r with hold := none })).idleRadio else d
  | none => d

/-! ## Receiving -/

/-- The sender's floor under a key (R446). -/
def Dev.floorOf (d : Dev) (k eui : Nat) : Option Nat := (d.radio.floors.find? (fun f => f.1 == (k, eui))).map (·.2)

/-- A floor is set or raised (R446). -/
def Dev.setFloor (d : Dev) (k eui c : Nat) : Dev :=
  d.onRadio (fun r => { r with floors := r.floors.filter (fun f => f.1 != (k, eui)) ++ [((k, eui), c)] })

/-- The key index names a network key of the device, or for a JOIN_RESP the join key (R442). -/
def Dev.keyKnown (d : Dev) (joinResp : Bool) (k : Nat) : Bool :=
  if joinResp then k == 0
  else k != 0 && (k == d.get F.MAC_KEY_CUR || k == d.get F.MAC_KEY_NEXT || k == d.get F.MAC_KEY_PREV)

/-- The device listens for frames: not in a quiet period unless it stays awake (R464, R465). -/
def Dev.listening (d : Dev) : Bool :=
  !d.quietNow || d.flag F.MAC_QUIET_GRACE || d.radio.awakeTill.isSome || d.radio.resync

/-- The Pocket handle of the key that key index `k` names: the join key's, the current network key's, or handle 6, which holds the next key or the
previous one (R440, R447). -/
def Dev.keyHandle (d : Dev) (joinResp : Bool) (k : Nat) : Nat :=
  if joinResp then 4 else if k = d.get F.MAC_KEY_CUR then 5 else 6

/-- The sender's EUI-64: the parent's and an EB sender's are known from the join; any other neighbour sends it as its extended source address
(R441). -/
def Dev.senderEui (d : Dev) (joinResp : Bool) (f : RxFrame) : Option Nat :=
  if joinResp then d.radio.peer.map (·.2)
  else if f.src = d.get F.MAC_ADDR_PARENT && f.eui.all (· == d.radio.parentEui) then some d.radio.parentEui
  else f.eui

/-- The address that a violation is logged under: the sender's short address, or the low 16 bits of its EUI-64 (R466). -/
def Dev.senderAddr (d : Dev) (f : RxFrame) : Nat :=
  match f.eui with
  | some e => if e = d.radio.parentEui then f.src else e % 65536
  | none => f.src

/-- The MIC is right: it verifies under the key that the frame names and the nonce of R441. -/
def Dev.micOk (d : Dev) (joinResp : Bool) (f : RxFrame) : Bool :=
  match d.senderEui joinResp f, f.mic with
  | some e, some (key, nonce) => key == (d.keyAt (d.keyHandle joinResp f.key)).key && nonce == ccmNonce e f.counter f.level
  | _, _ => false

/-- An enhanced acknowledgement, at the level and under the key of the frame it answers (R440), where the device may transmit (R421, R445).
`nack`: with NACK set. -/
def Dev.sendAck (d : Dev) (joinResp : Bool) (f : RxFrame) (nack : Bool) : Dev :=
  if !f.ackReq || f.bcast || d.flag F.CLK_SLKSTAT_OPEN || !d.txAllowed false || d.radio.exhausted then d
  else
    let d := d.useFc (d.keyHandle joinResp f.key) f.level
    if nack then d.bump F.MAC_CNT_NACKN else d

/-- The checks of R442 in their order; the first that fails decides. True when the frame is accepted. -/
def Dev.rxCheck (d : Dev) (joinResp : Bool) (f : RxFrame) : Dev × Bool :=
  let src := d.senderAddr f
  let eui := (d.senderEui joinResp f).getD f.src
  if !f.fcs then (d.bump F.RADIO_CNT_FCSERR, false)
  else if f.level < 5 || 7 < f.level || f.level < d.get F.MAC_CFG_SECLVL then (d.radioFault 24 255 src 0 0, false)
  else if !d.keyKnown joinResp f.key then (d.radioFault 23 255 src 0 0, false)
  else
    let fl := d.floorOf f.key eui
    if fl.isNone && 16 ≤ (d.radio.floors.filter (fun x => x.1.1 == f.key)).length then (d.radioFault 28 255 src 0 0, false)
    else if fl.any (fun c => f.counter ≤ c) then ((d.radioFault 21 255 src 0 0).bump F.MAC_CNT_REPLAY, false)
    else if !d.micOk joinResp f then ((d.sendAck joinResp f true).radioFault 16 255 src 0 0, false)
    else
      let d := (d.setFloor f.key eui f.counter).bump F.RADIO_CNT_RXN
      (((d.putS F.RADIO_STAT_RSSI f.rssi).put F.RADIO_STAT_LQI (satTo 255 f.lqi)).sendAck joinResp f false, true)

/-- A data frame in the network: the FCS first, then unicast only from the parent (R422), then R442. -/
def Dev.rxFrame (d : Dev) (f : RxFrame) : Dev × Bool :=
  if !d.radioUp || !d.inNet || !d.listening || (f.fcs && !f.bcast && f.src != d.get F.MAC_ADDR_PARENT) then (d, false) else d.rxCheck false f

/-- A Riostey message that is refused: the reply and the entry (R466). -/
def Dev.rioRefuse (d : Dev) (ty : Nat) (h : RioHdr) (kind code detail : Nat) : Dev :=
  (d.radioFault kind code h.orig ty detail).queueReply h.orig h.rseq code []

/-- A received Riostey message whose data are to be `dlen` bytes (none: any length) and, with `coord`, whose originator is to
be the coordinator (R448, R449, R466). True when it may be acted on. -/
def Dev.rioCheck (d : Dev) (f : RxFrame) (ty : Nat) (h : RioHdr) (dlen : Option Nat) (coord : Bool) : Dev × Bool :=
  let r := d.rxFrame f
  if !r.2 then r
  else if 200 < h.len then (r.1.rioRefuse ty h 17 2 0, false)
  else if h.len != h.got || dlen.any (· != h.len) then (r.1.rioRefuse ty h 19 5 0, false)
  else if coord && h.orig != r.1.radio.coord then (r.1.rioRefuse ty h 20 5 0, false)
  else r

/-- JOIN_RESP (R433, R435, R436, R446, R459). -/
def Dev.joinResp (d : Dev) (f : RxFrame) (h : RioHdr) (j : JoinResp) : Dev :=
  match d.radio.peer with
  | none => d
  | some p =>
    if !d.radioUp || (f.fcs && f.src != p.1) then d
    else
      let r := d.rxCheck true f
      let d := r.1
      if !r.2 then d
      else if 200 < h.len || 16 < j.links.length then d.rioRefuse 2 h 17 2 0
      else if h.len != h.got || h.len != 56 + 6 * j.links.length then d.rioRefuse 2 h 19 5 0
      else if j.asn.any (fun a => d.asnOff a) then d.asnError f.src (j.asn.getD 0)
      else
        match Config.unwrap (d.keyAt 4).key j.wrapped with
        | none => d.radioFault 27 255 f.src 2 0
        | some key =>
          if j.nonce != d.radio.nonce || j.short = 0 || 0xFFFD < j.short || j.lease < 60 || 604800 < j.lease
              || j.keyIdx = 0 || !d.keyUsable 4 1 then d.radioFault 27 255 f.src 2 0
          else
            let d := d.keyLoad 5 ⟨1, key⟩
            let d := (((d.put F.MAC_ADDR_SHORT j.short).put F.MAC_ADDR_PARENT j.parent).put F.MAC_KEY_NEXT 0).put F.MAC_KEY_SWITCH 0
            let d := (d.put F.MAC_KEY_CUR j.keyIdx).put F.MAC_STAT_JSTATE 3
            let kept := d.radio.links.filter (fun l => !l.adv)
            let new := (j.links.filter (fun l => l.sf < 4)).map (fun l => { l with neigh := j.parent, flags := l.flags % 32 + 32 })
            let now := d.seconds
            let d := d.onRadio (fun r => { r with coord := j.coord, parentEui := j.parentEui, leaseEnd := now + j.lease, renew := now + 3 * j.lease / 4 })
            let d := d.onRadio (fun r => { r with links := capLinks (kept ++ new), floors := r.floors.filter (fun f => f.1 != (j.keyIdx, j.parentEui)) ++ [((j.keyIdx, j.parentEui), j.counter)], lost := false, peer := none, boff := 0 })
            let d := d.onRadio (fun r => { r with ord := r.ord.filter (fun m => m.ty != 1), lastSync := d.get F.TIDE_TICKS_TICKS, exhausted := false })
            let d := ((d.countLinks.put F.MAC_STAT_NSYNC 1).putB F.MAC_STAT_DRIFTV d.radio.restored).put F.MAC_ERR_NFAIL 0
            let d := d.log ⟨0x50, 15, 127, Config.payload 0x50 0 [j.short, j.parent, j.keyIdx], j.lease, []⟩
            (d.distressEnd).event F.MAC_EVT_JOINED Ev.mac

/-! ## The lease -/

/-- LEASE_RENEW_DUE: three quarters of the lease, and every 60 s after (R437); none while one is still queued, and none in HOLD (R49; log 128). -/
def Dev.leaseRenewDue (d : Dev) : Dev :=
  if d.jstate = 3 && d.radio.renew ≤ d.seconds && d.get F.SYS_MODE_MODE != 7 && !d.radio.ord.any (fun m => m.ty == 3) then
    let m := d.ownMsg 3 [] false
    (m.2.onRadio (fun r => { r with renew := d.seconds + 60 })).queueOrd m.1
  else d

/-- LEASE_RESP renews the lease (R437). -/
def Dev.leaseResp (d : Dev) (f : RxFrame) (h : RioHdr) (lease : Nat) : Dev :=
  let r := d.rioCheck f 4 h (some 4) true
  if !r.2 then r.1
  else r.1.onRadio (fun x => { x with leaseEnd := r.1.seconds + lease, renew := r.1.seconds + 3 * lease / 4 })

/-- LEASE_EXPIRY: a lease that ends in a quiet period is moved to 60 s after it (R437). -/
def Dev.leaseExpiry (d : Dev) : Dev :=
  if d.inNet && d.radio.leaseEnd ≤ d.seconds && !d.quietNow then d.leave leftLease else d

/-- LEAVE from COORD: the device leaves and holds off (R438). -/
def Dev.leaveMsg (d : Dev) (f : RxFrame) (h : RioHdr) (hold : Nat) : Dev :=
  let r := d.rioCheck f 5 h (some 4) true
  if !r.2 then r.1
  else if 86400 < hold then r.1.rioRefuse 5 h 19 5 0
  else (r.1.onRadio (fun x => { x with hold := if hold = 0 then none else some (r.1.seconds + hold) })).leave leftOrder

/-! ## SCHEDULE -/

/-- One change of the schedule. -/
def changeLink (ls : List RLink) (remove : Bool) (l : RLink) : List RLink :=
  if remove then ls.filter (fun x => !x.same l) else ls.filter (fun x => !x.same l) ++ [l]

/-- No slotframe above its 64 links, no fifth slotframe (R439). -/
def schedOk (ls : List RLink) : Bool := ls.all (fun l => l.sf < 4) && [0, 1, 2, 3].all (fun n => (ls.filter (fun l => l.sf == n)).length ≤ 64)

/-- The changes whose ASN has come take effect. -/
def Dev.runSched (d : Dev) : Dev :=
  let asn := d.get F.MAC_ASN_ASN
  let due := d.radio.sched.filter (fun c => c.1 ≤ asn)
  if due.isEmpty then d
  else
    let ls := due.foldl (fun ls c => changeLink ls c.2.1 c.2.2) d.radio.links
    (d.onRadio (fun r => { r with links := ls, sched := r.sched.filter (fun c => asn < c.1) })).countLinks

/-- SCHEDULE from COORD (R439). -/
def Dev.schedule (d : Dev) (f : RxFrame) (h : RioHdr) (asn : Nat) (changes : List (Bool × RLink)) : Dev :=
  let r := d.rioCheck f 6 h (some (6 + 6 * changes.length)) true
  if !r.2 then r.1
  else
    let d := r.1
    let cs := changes.map (fun c => (c.1, { c.2 with neigh := d.get F.MAC_ADDR_PARENT, flags := c.2.flags % 32 + 32 }))
    let after := (d.radio.sched.map (·.2) ++ cs).foldl (fun ls c => changeLink ls c.1 c.2) d.radio.links
    if !(cs.all (fun c => c.2.sf < 4) && schedOk after) then d.rioRefuse 6 h 17 2 0
    else d.onRadio (fun r => { r with sched := r.sched ++ cs.map (fun c => (max asn (d.get F.MAC_ASN_ASN + 1), c.1, c.2)) })

/-! ## Synchronisation -/

/-- SYNC: δ in ns; the slot timing is corrected and the drift learned (R430); E is saved when it has moved by more than
100 ppb (R432). -/
def Dev.takeSync (d : Dev) (delta : Int) : Dev :=
  let dt := d.sinceSync
  let n := d.get F.MAC_STAT_NSYNC
  -- r = δ / Δt in ppb = δ(ns) × 32768 / ticks
  let learn := 1 ≤ n && 0 < dt && delta.natAbs * 32768 ≤ 40000 * dt
  let k := if n = 1 then 0 else d.get F.MAC_DRIFT_K
  let e0 := d.getS F.MAC_DRIFT_LEARNED
  let e := if learn then max (-100000) (min 100000 (e0 + near (delta * 32768) (dt * 2 ^ k))) else e0
  let d := ((d.putS F.MAC_DRIFT_LEARNED e).put F.MAC_STAT_NSYNC (satTo 255 (n + 1))).onRadio
    (fun r => { r with lastSync := d.get F.TIDE_TICKS_TICKS, resync := false })
  let d := if 100 < (e - d.radio.savedE).natAbs then (d.onRadio (fun r => { r with savedE := e })).workWrite workDrift [Word.ofI e] else d
  d.putB F.MAC_STAT_DRIFTV (1 ≤ n || d.radio.restored)

/-- DESYNC (R431, R459): the device rejoins, its ALARMs stay queued. -/
def Dev.desync (d : Dev) : Dev := ((d.put F.MAC_STAT_DESYNC 1).note 0x5B).leave leftDesync

/-- PARENT_LOST (R457, R458). -/
def Dev.parentLost (d : Dev) : Dev :=
  if d.jstate != 3 then d
  else
    let d := ((d.note 0x54).put F.MAC_STAT_JSTATE 4).event F.MAC_EVT_PLOST Ev.mac
    ((d.dropOrd 1 3).onRadio (fun r => { r with lost := true, due := 0, peer := none })).distressStart

/-- SYNC_TIMEOUT: no sync for SYNCTO seconds (R457). -/
def Dev.syncTimeout (d : Dev) : Dev :=
  if d.jstate = 3 && d.get F.MAC_ERR_SYNCTO * 32768 ≤ d.sinceSync then d.parentLost else d

/-- KEEP_ALIVE: no sync for the keep-alive interval (R428); none in a quiet period (R464). -/
def Dev.keepAlive (d : Dev) : Dev :=
  if d.jstate = 3 && d.kaSeconds * 32768 ≤ d.sinceSync && !d.quietNow && !d.radio.ord.any (fun m => m.ty == 0) then
    d.queueOrd ⟨0, d.get F.MAC_ADDR_PARENT, 0, 0, [], 0, false, false, none⟩
  else d

/-! ## Timeslots -/

/-- The links active at an ASN, of the lowest slotframe handle (R424, R425). -/
def Dev.slotLinks (d : Dev) (asn : Nat) : List RLink :=
  let ls := d.radio.links.filter (fun l => 0 < d.get (F.MAC_SF_SIZE l.sf) && asn % d.get (F.MAC_SF_SIZE l.sf) == l.slot)
  match [0, 1, 2, 3].find? (fun n => ls.any (fun l => l.sf == n)) with
  | some n => ls.filter (fun l => l.sf == n)
  | none => []

/-- The channel of a link at an ASN (R424). -/
def Dev.linkChannel (d : Dev) (l : RLink) (asn : Nat) : Nat :=
  let i := (asn + l.chofs) % max 1 (d.get F.MAC_HOPLEN_LEN)
  bitsOf (d.reg (F.MAC_HOP (i / 12))) (6 * (i % 12) + 5) (6 * (i % 12))

/-- The radio is on the channel of a link (R424). -/
def Dev.tune (d : Dev) (l : RLink) (asn : Nat) : Dev :=
  let c := d.linkChannel l asn
  d.onRadio (fun r => { r with chan := c })

/-- What a TX link sends: a queued ALARM, or a frame of the ordinary queue. -/
inductive Pick
  | alarm (code : Nat)
  | ord (m : RMsg)
deriving DecidableEq, Repr

/-- An ALARM that may be sent on `l` at `asn` (R455, R458): in a quiet period in shared links (R464). -/
def Dev.alarmReady (d : Dev) (l : RLink) (asn : Nat) (a : RAlarm) : Bool :=
  let gap := a.last.all (fun t => t + max 1 (d.get (F.MAC_SF_SIZE 0)) ≤ asn)
  gap && (l.shared || !d.quietNow)
    && (if d.radio.lost then l.shared && a.skip == 0 else d.jstate == 3 && l.leadsTo (d.get F.MAC_ADDR_PARENT))

/-- A frame that HOLD lets go: beside ALARMs keep-alives, answers and what a join takes (R49, R401; log 45). -/
def RMsg.inHold (m : RMsg) : Bool := m.ty ≤ 1 || m.ty == 0x13 || m.reply

/-- A frame of the ordinary queue that may be sent now: in a quiet period only what follows from a wake request (R464), in
HOLD what R49 leaves, before the join only the JOIN_REQ, with the parent lost nothing else (R457), and nothing
under an exhausted key (R445). -/
def Dev.ordReady (d : Dev) (m : RMsg) : Bool :=
  (if m.ty = 1 then d.radio.peer.isSome else d.jstate == 3 && !d.radio.exhausted)
    && (!d.quietNow || m.wake) && (d.get F.SYS_MODE_MODE != 7 || m.inHold)

/-- The frame goes out in shared links alone: a JOIN_REQ, what is sent in a quiet period, and the WAKE_ACK of a request that came just before one
(R434, R464, R465). -/
def Dev.sharedOnly (d : Dev) (m : RMsg) : Bool := m.ty == 1 || d.quietNow || (m.ty == 0x13 && d.radio.lateAcks.contains m.rseq)

/-- The frame for a TX link: the oldest ALARM, then the oldest reply, then the oldest other frame (R427). -/
def Dev.pick (d : Dev) (l : RLink) (asn : Nat) : Option Pick :=
  if !l.tx then none
  else
    match (if d.radio.exhausted then none else d.radio.alarms.find? (fun a => d.alarmReady l asn a)) with
    | some a => some (.alarm a.code)
    | none =>
      let dest (m : RMsg) : Nat := if m.ty = 1 then m.dest else d.get F.MAC_ADDR_PARENT
      let rs := d.radio.ord.filter (fun m => d.ordReady m && l.leadsTo (dest m) && (l.shared || !d.sharedOnly m))
      match rs.find? (fun m => m.reply) with
      | some m => some (.ord m)
      | none => (rs.find? (fun m => !m.reply)).map .ord

/-- A failed transmission on a shared link (R426). -/
def Dev.backoff (d : Dev) (l : RLink) : Dev :=
  if !l.shared then d
  else
    let r := d.free
    let be := min (d.radio.be + 1) 7
    r.2.onRadio (fun x => { x with be := be, skip := r.1 % 2 ^ be })

/-- A frame to the parent failed every attempt (R426, R457). -/
def Dev.frameFailed (d : Dev) : Dev :=
  let d := (d.bump F.MAC_CNT_TXFAIL).bump F.MAC_ERR_NFAIL
  if d.get F.MAC_ERR_LIMIT ≤ d.get F.MAC_ERR_NFAIL then d.parentLost else d

/-- A frame to the parent got through. -/
def Dev.frameAcked (d : Dev) (delta : Int) : Dev :=
  ((d.put F.MAC_ERR_NFAIL 0).onRadio (fun r => { r with be := 1 })).takeSync delta

/-- Change one queued ALARM. -/
def Dev.onAlarm (d : Dev) (code : Nat) (f : RAlarm → RAlarm) : Dev :=
  d.onRadio (fun r => { r with alarms := r.alarms.map (fun a => if a.code = code then f a else a) })

/-- The time correction of an acknowledgement with NACK set is a sync as well (R428). -/
def Dev.nackSync (d : Dev) (res : TxResult) : Dev :=
  match res with
  | .nack delta => if d.inNet then d.takeSync delta else d
  | _ => d

/-- An ALARM was sent: broadcast in distress with its backoff (R458), else to the parent (R426, R455). -/
def Dev.alarmSent (d : Dev) (l : RLink) (asn code : Nat) (res : TxResult) : Dev :=
  if d.radio.lost then
    let r := d.free
    let k := match d.radio.alarms.find? (fun a => a.code == code) with | some a => a.casts + 1 | none => 1
    r.2.onAlarm code (fun a => { a with casts := k, skip := r.1 % 2 ^ min k 8, last := some asn })
  else
    match res with
    | .ack delta => (d.onAlarm code (fun a => { a with tries := 0, last := some asn })).frameAcked delta
    | _ =>
      let d := d.nackSync res
      let n := match d.radio.alarms.find? (fun a => a.code == code) with | some a => a.tries + 1 | none => 1
      let d := (d.onAlarm code (fun a => { a with tries := if n < 4 then n else 0, last := some asn })).backoff l
      if n < 4 then d else d.frameFailed

/-- Replace the first queued frame equal to `m`, or take it off. -/
def swapFirst (m : RMsg) (new : Option RMsg) : List RMsg → List RMsg
  | [] => []
  | x :: xs => if x = m then (match new with | some n => n :: xs | none => xs) else x :: swapFirst m new xs

/-- An ordinary frame was sent (R426, R456). -/
def Dev.ordSent (d : Dev) (l : RLink) (m : RMsg) (res : TxResult) : Dev :=
  match res with
  | .ack delta =>
    let d := d.onRadio (fun r => { r with ord := swapFirst m none r.ord })
    let d := match m.block with | some b => d.appUpBack b 0 0 | none => d
    if m.ty = 1 then d.onRadio (fun r => { r with be := 1 }) else d.frameAcked delta
  | _ =>
    let d := (d.nackSync res).backoff l
    if m.tries + 1 < 4 then d.onRadio (fun r => { r with ord := swapFirst m (some { m with tries := m.tries + 1 }) r.ord })
    else
      let d := d.onRadio (fun r => { r with ord := swapFirst m none r.ord })
      let d := match m.block with | some b => d.appUpBack b 1 1 | none => d
      if m.ty = 1 then d.bump F.MAC_CNT_TXFAIL else d.frameFailed

/-- A Riostey message as it goes out: the header of R448 and the data. ORIG is the originator that a reply or an APP_UP is for, else the device's
own address (DEDUCED from R448, R452 and R456, log 112); a keep-alive is empty (R428). -/
def Dev.message (d : Dev) (ty orig rseq code : Nat) (alarm : Bool) (data : List Nat) : List Nat :=
  let flags := alarm.toNat + 2 * (d.flag F.SYS_START_PROV).toNat + 4 * (ty == 0x10 && d.flag F.MAC_CFG_MAP13757).toNat
  if ty = 0 then [] else [ty, flags] ++ natBytes 2 orig ++ natBytes 2 rseq ++ [data.length % 256, code] ++ data

/-- The message of a picked frame (R448, R455). -/
def Dev.pickBytes (d : Dev) (p : Pick) : List Nat :=
  let own := d.get F.MAC_ADDR_SHORT
  match p with
  | .alarm c =>
    match d.radio.alarms.find? (fun a => a.code == c) with
    | some a => d.message 0x11 own a.rseq 0 true ([a.code] ++ wordBytes a.at_ ++ wordBytes a.detail)
    | none => []
  | .ord m => d.message m.ty (if m.reply || m.ty == 0x14 then m.dest else own) m.rseq m.code false m.data

/-- The transmission of a picked frame on its link: shared links skipped by a backoff (R426, R458), the pool bands (R45), a slack-water window that
stands or settles over the slot's begin (R22, R23, R421; log 111), CCA (R426), then the frame itself under its key (R440, R443). -/
def Dev.transmit (d : Dev) (l : RLink) (asn : Nat) (p : Pick) (busy : Bool) (res : TxResult) : Dev :=
  let alarm := match p with | .alarm _ => true | .ord _ => false
  if l.shared && !d.radio.lost && 0 < d.radio.skip then d.onRadio (fun r => { r with skip := r.skip - 1 })
  else if !d.txAllowed alarm then d.bump F.MAC_CNT_DEFER
  else if d.flag F.CLK_SLKSTAT_OPEN || d.slack.opening.isSome then d.bump F.MAC_CNT_MISSED
  else if l.shared && busy then d.backoff l
  else
    let msg := d.pickBytes p
    let d := (d.bump F.RADIO_CNT_TXN).onRadio (fun r => { r with txMsg := msg })
    match p with
    | .alarm c => (d.useFc 5 (d.sendLevel 5)).alarmSent l asn c res
    | .ord m =>
      let h := if m.ty = 1 then 4 else 5
      (d.useFc h (d.sendLevel h)).ordSent l m res

/-- The ALARMs in distress count down a shared link that they do not go out in (R458). -/
def Dev.skipShared (d : Dev) (l : Option RLink) : Dev :=
  if d.radio.lost && l.any (fun l => l.shared) then
    d.onRadio (fun r => { r with alarms := r.alarms.map (fun a => { a with skip := a.skip - 1 }) })
  else d

/-- The grace slotframe ends (R465). -/
def Dev.graceOver (d : Dev) (asn : Nat) : Dev :=
  if d.flag F.MAC_QUIET_GRACE && d.radio.graceEnd ≤ asn then d.put F.MAC_QUIET_GRACE 0 else d

/-- TIMESLOT_START: the slot `asn` begins (R425 to R431). `busy`: CCA finds energy; `res`: what came of a transmission; `sync`: δ in ns of a frame of
the parent heard in the slot. -/
def Dev.timeslot (d : Dev) (asn : Nat) (busy : Bool) (res : TxResult) (sync : Option Int) : Dev :=
  if !d.radioUp || !(d.inNet || d.jstate == 2) || asn < d.get F.MAC_ASN_ASN then d
  else
    let d := ((d.put F.MAC_ASN_ASN asn).graceOver asn).runSched.onRadio (fun r => { r with slotTick := d.get F.TIDE_TICKS_TICKS })
    if d.inNet && d.guardOver then d.desync
    else
      let ls := d.slotLinks asn
      if ls.isEmpty then d
      else
        let d := d.raise Ev.radioSlot
        match ls.find? (fun l => (d.pick l asn).isSome) with
        | some l =>
          match d.pick l asn with
          | some p => (((d.tune l asn).skipShared (some l)).transmit l asn p busy res)
          | none => d
        | none =>
          let d := d.skipShared (ls.find? (fun l => l.shared))
          let d := match ls.find? (fun l => l.rx && d.listening) with
            | some l => d.tune l asn
            | none => d
          match sync with
          | some delta =>
            if d.inNet && d.listening && ls.any (fun l => l.rx && l.timekeeping) then d.takeSync delta else d
          | none => d

/-! ## Alarms, quiet periods and keys -/

/-- ALARM_ACK takes the matching ALARM off the queue (R455, R458, R459). -/
def Dev.alarmAck (d : Dev) (f : RxFrame) (h : RioHdr) (code : Nat) : Dev :=
  let r := d.rioCheck f 0x12 h none false
  if !r.2 then r.1
  else
    let d := r.1.onRadio (fun x => { x with alarms := x.alarms.filter (fun a => !(a.code == code && a.rseq == h.rseq)) })
    if d.radio.alarms.isEmpty then d.distressEnd else d

/-- QUIET from COORD (R464): a period that has not begun is replaced; one whose start has passed runs from the next slot. -/
def Dev.quietMsg (d : Dev) (f : RxFrame) (h : RioHdr) (q len : Nat) : Dev :=
  let r := d.rioCheck f 0x31 h (some 8) true
  if !r.2 then r.1
  else if len = 0 || 16777215 < len then r.1.rioRefuse 0x31 h 19 5 0
  else
    let d := r.1
    if d.quietNow || q + len ≤ d.get F.MAC_ASN_ASN + 1 then d
    else
      let d := ((d.put F.MAC_QUIET_START q).put F.MAC_QUIET_LEN len).put F.MAC_QUIET_PEND 1
      let d := d.onRadio (fun x => { x with quietFrom := max q (d.get F.MAC_ASN_ASN + 1), quietEnd := q + len })
      (d.event F.MAC_EVT_QUIET Ev.mac).noteAB 0x59 127 q len

/-- QUIET_START (R464, R465). -/
def Dev.quietStart (d : Dev) (asn : Nat) : Dev :=
  if d.flag F.MAC_QUIET_PEND && !d.quietNow && d.radio.quietFrom ≤ asn && d.inNet then
    let d := (d.put F.MAC_ASN_ASN (max asn (d.get F.MAC_ASN_ASN))).put F.MAC_STAT_QUIET 1
    if d.radio.graceDue then
      (d.put F.MAC_QUIET_GRACE 1).onRadio (fun r => { r with graceDue := false, graceEnd := d.radio.quietFrom + d.get (F.MAC_SF_SIZE 0) })
    else d
  else d

/-- A WAKE_ACK to COORD: the word and the mode (R449, R462). -/
def Dev.wakeAck (d : Dev) (word : Nat) : Dev :=
  if !d.inNet then d
  else
    let m := d.ownMsg 0x13 (natBytes 4 word ++ [d.get F.SYS_MODE_MODE]) true
    m.2.queueOrd m.1

/-- The WAKE_ACK of a request held for the end of a quiet period: it waits for a shared link (R465). -/
def Dev.lateAck (d : Dev) (word : Nat) : Dev :=
  let n := d.radio.rseq
  (d.wakeAck word).onRadio (fun r => { r with lateAcks := r.lateAcks ++ [n] })

/-- QUIET_END: the held wake requests are answered, a lease that ended meanwhile is moved (R437, R464, R465). -/
def Dev.quietEnd (d : Dev) (asn : Nat) : Dev :=
  if d.quietNow && d.radio.quietEnd ≤ asn then
    let ws := d.radio.heldWakes
    let d := (d.put F.MAC_ASN_ASN (max asn (d.get F.MAC_ASN_ASN))).clearQuiet
    let d := d.onRadio (fun r => { r with heldWakes := [], lateAcks := [], leaseEnd := if r.leaseEnd ≤ d.seconds then d.seconds + 60 else r.leaseEnd })
    ws.foldl Dev.lateAck d
  else d

/-- KEY_SWITCH (R445, R447): handle 5 takes the new key, handle 6 keeps the previous one for 60 s. -/
def Dev.keySwitch (d : Dev) (asn : Nat) : Dev :=
  if d.get F.MAC_KEY_NEXT != 0 && d.get F.MAC_KEY_SWITCH ≤ asn && d.inNet then
    let k5 := d.keyAt 5
    let k6 := d.keyAt 6
    let cur := d.get F.MAC_KEY_CUR
    let new := d.get F.MAC_KEY_NEXT
    let start := Store.get (fun _ => 0) d.radio.hwmIdx new
    let d := d.onPocket (fun p => Store.set factoryKey (Store.set factoryKey p 5 k6) 6 k5)
    let f5 := d.fcOf 5
    let h5 := d.hwmOf 5
    let two (l : List (Nat × Nat)) (a b : Nat) : List (Nat × Nat) := Store.set (fun _ => 0) (Store.set (fun _ => 0) l 5 a) 6 b
    let wasOut := d.radio.exhausted
    let d := d.onRadio (fun r => { r with fc := two r.fc start f5, prevErase := d.seconds + 60, exhausted := false })
    let d := (((d.slotWrite 5).slotWrite 6).hwmWrite 5 start).hwmWrite 6 h5
    let d := (((d.put F.MAC_KEY_CUR new).put F.MAC_KEY_NEXT 0).put F.MAC_KEY_PREV cur).put F.MAC_KEY_SWITCH 0
    let d := (d.event F.MAC_EVT_REKEY Ev.mac).noteVals 0x57 127 [new]
    if wasOut then d.leave leftKey else d
  else d

/-- REKEY from COORD (R447): the new key goes to handle 6; a switch ASN that has passed takes effect at once. -/
def Dev.rekey (d : Dev) (f : RxFrame) (h : RioHdr) (idx : Nat) (wrapped : List Nat) (asn : Nat) : Dev :=
  let r := d.rioCheck f 0x32 h (some 30) true
  if !r.2 then r.1
  else
    let d := r.1
    match Config.unwrap (d.keyAt 5).key wrapped with
    | none => d.rioRefuse 0x32 h 19 5 0
    | some key =>
      if idx = 0 || 255 < idx then d.rioRefuse 0x32 h 19 5 0
      else
        let d := (d.keyLoad 6 ⟨1, key⟩).put F.MAC_KEY_NEXT idx
        (d.put F.MAC_KEY_SWITCH asn).keySwitch (d.get F.MAC_ASN_ASN)

/-- KEY_PREV_ERASE: 60 s after a switch; its floors are released (R446, R447). -/
def Dev.keyPrevErase (d : Dev) : Dev :=
  let prev := d.get F.MAC_KEY_PREV
  if prev != 0 && d.radio.prevErase ≤ d.seconds then
    let d := if d.get F.MAC_KEY_NEXT = 0 then d.keyErase 6 else d
    (d.put F.MAC_KEY_PREV 0).onRadio (fun r => { r with floors := r.floors.filter (fun f => f.1.1 != prev) })
  else d

/-! ## REPORT -/

/-- The FLAGS byte of R392; bit 5 tells whether an order reply to this partner is still queued. -/
def Dev.linkFlags (d : Dev) (pending : Bool) : Nat :=
  let st := d.get F.LOOP_STAT_STATE
  (d.flag F.SYS_START_PROV).toNat + 2 * (d.get F.SYS_MODE_MODE == 5).toNat + 4 * (st == 2 || st == 4).toNat
    + 8 * (d.reg F.MET_IFSTAT != 0 || d.get F.USF_STAT_LOST != 0).toNat + 16 * (d.flag F.SYS_START_TIDE_COLD).toNat
    + 32 * pending.toNat

/-- The item codes of a REPORT (R453). -/
def Dev.reportItems (d : Dev) : List Nat :=
  (selCodes (d.reg F.MAC_REPSEL0) ++ selCodes (d.reg F.MAC_REPSEL1)).takeWhile (· != 0xFF)

/-- The value of an item (R368): an accumulator. -/
def Dev.itemValue (d : Dev) (c : Nat) : Nat := d.acc (c / 16) (c % 16)

/-- One EN 13757-3 record (R454). -/
def Dev.m13757 (d : Dev) (c : Nat) : List Nat :=
  let ch := c / 16
  let k := c % 16
  let t := k + 1
  let dife (i : Nat) : Nat :=
    (if i < 3 then 128 else 0) + (ch >>> i) % 2 * 64 + (if i = 0 then t % 4 else if i = 1 then t / 4 % 4 else 0) * 16
  let unit := if k ≤ 4 || k = 10 then (0x03, 3600000) else if k = 7 || k = 8 then (0x1B, 1000000) else (0x13, 1000000)
  [0x87, dife 0, dife 1, dife 2, dife 3, unit.1] ++ (natBytes 8 (d.itemValue c / unit.2)).reverse

/-- The data of a REPORT (R453, R454). -/
def Dev.reportData (d : Dev) : List Nat :=
  if d.flag F.MAC_CFG_MAP13757 then (d.reportItems.take 14).flatMap (fun c => d.m13757 c)
  else
    let is := d.reportItems.take 18
    wordBytes (d.reg F.TIDE_SEC) ++ [d.linkFlags false, is.length] ++ is.flatMap (fun c => c :: wordBytes (Word.ofN (d.itemValue c)))

/-- REPORT_DUE: TIDE_SEC is at a multiple of REPPER (R453). -/
def Dev.reportIsDue (d : Dev) : Dev :=
  let p := d.get F.MAC_TIMING_REPPER
  if d.flag F.MAC_CFG_EN && 0 < p && d.seconds % p = 0 && d.get F.SYS_MODE_MODE != 7 then
    d.onRadio (fun r => { r with reportDue := true })
  else d

/-- A rekey is wanted: FC under the current network key has passed 0xFFFF_FF00 (R445). -/
def Dev.rekeyWanted (d : Dev) : Bool := d.get F.MAC_KEY_CUR != 0 && decide (0xFFFFFF00 < d.fcOf 5)

/-- REPORT_SNAPSHOT at the cycle boundary: the new REPORT replaces a queued one (R427, R453), and asks for a rekey near the end of the frame counter
(R445; its form in the message is open, log 130). -/
def Dev.reportSnapshot (d : Dev) : Dev :=
  if !d.radio.reportDue then d
  else
    let d := d.onRadio (fun r => { r with reportDue := false })
    if d.get F.SYS_MODE_MODE = 7 then d
    else
      let d := d.onRadio (fun r => { r with rekeyAsk := d.rekeyWanted })
      let m := d.ownMsg 0x10 d.reportData false
      match m.2.radio.ord.find? (fun x => x.ty == 0x10) with
      | some old => (m.2.bump F.MAC_CNT_REPLOST).onRadio (fun r => { r with ord := swapFirst old (some m.1) r.ord })
      | none => m.2.queueOrd m.1

/-! ## The wake-up receiver -/

/-- CHK of a wake word (R461). -/
def wakeChk (w : Nat) : Nat :=
  let v := (w >>> 20) % 64 * 65536 + w % 65536
  crcBits 4 3 0 ((List.range 22).map (fun i => (v >>> (21 - i)) % 2 == 1))

/-- The receiver is on (R460), and WUR is not held (R283). -/
def Dev.wurOn (d : Dev) : Bool :=
  !d.held.contains (16, 0) && (d.flag F.WUR_CFG_EN || d.get F.SYS_MODE_MODE == 7 || d.get F.SYS_MODE_BASE == 3 || d.get F.SYS_MODE_BASE == 4)

/-- A recognised wake word of this device with `action` (R461, R462). -/
def Dev.wakeMatches (d : Dev) (w action : Nat) : Bool :=
  let ty := (w >>> 24) % 4
  let adr := w % 65536
  d.wurOn && (w >>> 26) % 64 == 0x2D && (w >>> 20) % 16 == action && (w >>> 16) % 16 == wakeChk w
    && (if ty = 0 then d.inNet && adr == d.get F.MAC_ADDR_SHORT
        else ty == 1 && adr != 0xFFFF && [0, 1, 2, 3].any (fun i => bitsOf (d.reg F.WUR_GRP) (16 * i + 15) (16 * i) == adr))

/-- A recognised word is counted, recorded and raised (R462). -/
def Dev.wakeNote (d : Dev) (w : Nat) : Dev := ((d.bump F.WUR_STAT_WAKEN).put F.WUR_STAT_LAST w).raise Ev.wurWake

/-- The device listens for AWAKE seconds (R462). -/
def Dev.stayAwake (d : Dev) : Dev :=
  d.onRadio (fun r => { r with awakeTill := some (d.get F.TIDE_TICKS_TICKS + d.get F.WUR_CFG_AWAKE * 32768) })

/-- WAKE_ANSWER at ASN `asn` (R462, R465): within the last two slots before a quiet period the answer waits for its end. -/
def Dev.wakeAnswer (d : Dev) (w asn : Nat) : Dev :=
  if !d.wakeMatches w 0 then d
  else
    let d := (d.wakeNote w).stayAwake
    let q := d.radio.quietFrom
    if d.flag F.MAC_QUIET_PEND && !d.quietNow && asn < q && q ≤ asn + 2 then
      d.onRadio (fun r => { r with heldWakes := r.heldWakes ++ [w], graceDue := true })
    else d.wakeAck w

/-- WAKE_RESYNC (R462). -/
def Dev.wakeResync (d : Dev) (w : Nat) : Dev :=
  if d.wakeMatches w 1 then (d.wakeNote w).onRadio (fun r => { r with resync := true }) else d

/-- WAKE_REPORT (R462). -/
def Dev.wakeReport (d : Dev) (w : Nat) : Dev :=
  if d.wakeMatches w 2 then (d.wakeNote w).onRadio (fun r => { r with reportDue := true }) else d

/-- WAKE_LISTEN (R462). -/
def Dev.wakeListen (d : Dev) (w : Nat) : Dev := if d.wakeMatches w 3 then (d.wakeNote w).stayAwake else d

/-- WAKE_AWAKE_END (R462). -/
def Dev.awakeEnd (d : Dev) : Dev :=
  if d.radio.awakeTill.any (fun t => t ≤ d.get F.TIDE_TICKS_TICKS) then d.onRadio (fun r => { r with awakeTill := none }) else d

/-- WAKE_WORD_REJECTED: a preamble without a valid word, its SYNC wrong as well, or a word with a bad CHK (R461). -/
def Dev.wakeRejected (d : Dev) (word : Option Nat) : Dev :=
  if !d.wurOn then d
  else match word with
    | none => d.bump F.WUR_STAT_FALSEN
    | some w =>
      if (w >>> 26) % 64 != 0x2D then d.bump F.WUR_STAT_FALSEN
      else if (w >>> 16) % 16 = wakeChk w then d else d.bump F.WUR_STAT_CHKERR

/-- WUR_STAT.CLR reads 1 while a count is not zero. -/
def Dev.settleWur (d : Dev) : Dev :=
  d.putB F.WUR_STAT_CLR (d.get F.WUR_STAT_WAKEN != 0 || d.get F.WUR_STAT_FALSEN != 0 || d.get F.WUR_STAT_CHKERR != 0)

/-- Writing 1 to WUR_STAT.CLR. -/
def Dev.wurClear (d : Dev) : Dev := ((d.put F.WUR_STAT_WAKEN 0).put F.WUR_STAT_FALSEN 0).put F.WUR_STAT_CHKERR 0

/-! ## The block itself -/

/-- RADIO_PHR_ERROR: a PHR with a length above 255 or a mode switch (R420). -/
def Dev.phrError (d : Dev) (len : Nat) (modeSwitch : Bool) : Dev :=
  if d.radioUp && (255 < len || modeSwitch) then d.bump F.RADIO_CNT_PHYERR else d

/-- MAC_CFG.EN or JOINEN changed (R434, R438). -/
def Dev.macSwitched (d : Dev) : Dev :=
  if d.flag F.MAC_CFG_EN then (if d.jstate ≤ 1 then (if d.mayScan then d.idleRadio else (d.applyPlan).idleRadio) else d)
  else if d.inNet then d.leave leftOff
  else (((d.clearLinks).onRadio (fun r => { r with peer := none, ord := [] })).applyPlan).put F.MAC_STAT_JSTATE 0

/-- The MAC_LINK view (MAC_LINKSEL). -/
def Dev.linkView (d : Dev) : Word :=
  match (d.radio.links.filter (fun l => l.sf == d.get F.MAC_LINKSEL_SF))[d.get F.MAC_LINKSEL_INDEX]? with
  | none => 0
  | some l => Word.ofN (l.neigh % 65536 * 2 ^ 48 + l.slot % 65536 * 2 ^ 32 + l.chofs % 65536 * 2 ^ 16 + l.flags % 64)

/-- The radio's hidden state right after a chip reset: what the trusted work area keeps stays (R432, R443). -/
def Radio.restart (r : Radio) : Radio :=
  { scan := 0, chan := 0, peer := none, nonce := 0, due := 0, boff := 0, hold := none, coord := 0xFFFF, parentEui := 0, leaseEnd := 0, renew := 0,
    links := [], sched := [], be := 1, skip := 0, lastSync := 0, restored := false, savedE := r.savedE, lost := false, ord := [],
    alarms := [], rseq := 0, origs := [], reportDue := false, quietFrom := 0, quietEnd := 0, heldWakes := [], lateAcks := [], graceDue := false,
    graceEnd := 0, awakeTill := none, resync := false, floors := [], fc := r.fc, hwm := r.hwm, hwmIdx := r.hwmIdx,
    exhausted := false, prevErase := 0, pool := [], app := [], rxtag := 0, given := [],
    discards := [], slotTick := 0, txNonce := [], txMsg := [], rekeyAsk := false }

/-- A block that stands with RADIO as a request when RADIO or MAC is quiesced: an APP_UP goes to its HOME as R456 has it, any other to the owner that
gave it, with FULL = 1 (R283 step 3). -/
def Dev.radioReturn (d : Dev) (g : Nat × Nat) : Dev :=
  if bitsOf (d.load (blockAddr g.1)) 71 64 = 0x14 then d.appUpBack g.1 8 0
  else ((d.giveBack g.1 g.2 8 Own.radio ((d.reg F.TIDE_SEC).toNat % 2 ^ 48)).radioDone g.1).raise Ev.radioTx

/-- RADIO or MAC is quiesced: the blocks given to RADIO return with BLOCK_RESET, the frames queued go, and the originators of replies, application
requests and orders that go with them are told after release (R283, R456; log 113). A quiesce of MAC ends the network state with it. -/
def Dev.radioQuiesce (d : Dev) (mac : Bool) : Dev :=
  let orders := d.heldOrders.filterMap (fun h => match h.master with | .radio a => some (a, h.rseq) | _ => none)
  let replies := (d.radio.ord.filter (·.reply)).map (fun m => (m.dest, m.rseq))
  let apps := d.radio.app.map (fun a => (a.2.2.1, a.2.2.2.1))
  let out := d.radio.discards ++ replies ++ apps ++ orders
  let d := d.radio.given.foldl Dev.radioReturn d
  let d := d.onHeldOrders (fun l => l.filter (fun h => match h.master with | .radio _ => false | _ => true))
  let d := d.onRadio (fun r => { r with ord := [], app := [], pool := [] })
  let d := if mac then d.onRadio (fun r => { r.restart with alarms := r.alarms, rseq := r.rseq }) else d
  d.onRadio (fun r => { r with discards := out })

/-- After release each request that went is answered BLOCK_RESET, before any other reply (log 113); MAC starts again from its registers. -/
def Dev.radioRelease (d : Dev) (mac : Bool) : Dev :=
  let out := d.radio.discards
  let d := d.onRadio (fun r => { r with discards := [], ord := (out.map (fun x => (⟨0x21, x.1, x.2, 8, [], 0, true, false, none⟩ : RMsg))) ++ r.ord })
  if mac then d.idleRadio else d

end Sys2Proof.Machine
end

