-- ==== Sys2Proof/Machine/Collar.lean ====
section
/-!
DEFINITION. The Collar's metering: applying a post, the fallback program, the channel table, protected parameters and the
accumulator checkpoints (spec/08_collar.md R239 to R263; spec/11_flow_and_temperature.md R325; spec/12_energy.md R351 to
R362).
-/
namespace Sys2Proof.Machine

/-! ## Channel table -/

/-- Who carries channel `n`: 0 Collar, 1 Left, 2 Right, 3 both (COLLAR_CHTAB.CARRIER). -/
def Dev.carrier (d : Dev) (n : Nat) : Nat := (d.get F.COLLAR_CHTAB_CARRIER >>> (2 * n)) % 4

/-- The stretch factor M of channel `n` (COLLAR_CHTAB.STRETCH). -/
def Dev.stretchOf (d : Dev) (n : Nat) : Nat := 2 ^ ((d.get F.COLLAR_CHTAB_STRETCH >>> (2 * n)) % 4)

/-- A configured channel: KIND is not OFF. -/
def Dev.configured (d : Dev) (n : Nat) : Bool := d.kind n != kOff

/-- A table of 2-bit codes, channel 0 first. -/
def codes2 (f : Nat → Nat) : Nat := channels.foldl (fun a n => a + f n % 4 * 4 ^ n) 0

/-- The configured table (R86, R249; log 17). -/
def Dev.configTable (d : Dev) : Nat := codes2 (fun n => if d.configured n then (if Config.carrierRight n then 2 else 1) else 0)

/-- A change of the table raises COLLAR_MSG (R244). -/
def Dev.setTable (d : Dev) (carrier stretch : Nat) (paired : Bool) : Dev :=
  let d1 := ((d.put F.COLLAR_CHTAB_CARRIER carrier).put F.COLLAR_CHTAB_STRETCH stretch).putB F.COLLAR_CHTAB_PAIRED paired
  if d1.reg F.COLLAR_CHTAB = d.reg F.COLLAR_CHTAB then d1 else d1.raise Ev.collarMsg

/-- All configured channels to one carrier, M = 1. -/
def Dev.allTo (d : Dev) (code : Nat) : Dev := d.setTable (codes2 (fun n => if d.configured n then code else 0)) 0 false

/-! ## Posts -/

/-- The T1 period in effect, LSB 2^-24 s. -/
def Dev.periodQ (d : Dev) : Nat := bitsOf (d.reg (F.TMR_CMP0 1)) 47 0 * 512

/-- The covered period of a post whose last cycle is `cyc`: M × the T1 period of that cycle (R240). -/
def Dev.covered (d : Dev) (n cyc : Nat) : Nat :=
  d.stretchOf n * (if cyc = d.get F.COLLAR_CYCLE_CYCLE then d.periodQ else d.col.endedTicks * 512)

/-- A post has been applied for this channel and CYCLE (R240). -/
def Dev.posted (d : Dev) (n cycle : Nat) : Bool := d.met.posts.contains (n, cycle)

/-- What a post's segments bring: nothing while a start waits for the shot floor (R46). -/
def Dev.billed (d : Dev) (segs : List Seg) : List Seg :=
  if d.sup.filled then segs else segs.map (fun s => { s with a1 := 0, a2 := 0, a3 := 0 })

/-- Apply a whole post (R241 to R243), and what an applied post brings: MET_CHn_STAT, data-log flags, probe-swap times,
vigil flow, the loop (R343, R366, R370, R381 to R385). `p` is the covered period. -/
def Dev.applyPost (d : Dev) (n flags cycle : Nat) (segs : List Seg) (p : Nat) : Dev :=
  let vigil := d.get F.SYS_MODE_MODE == 4 && decide (d.met.vigilCycle < cycle)
  let r := (d.onMet (fun m => { m with vigilNow := vigil })).applySegs n 0 (d.billed segs)
  let d := ((r.1.put (F.MET_CH_STAT_NSEG n) segs.length).put (F.MET_CH_STAT_FLAGS n) flags).put (F.MET_CH_STAT_CYCLE n) cycle
  let d := d.logFlag (flags % 8)
  let d := r.2.foldl (fun d a => d.probeSwap n a.quad a.dur (0 < a.a1)) d
  let d := d.loopPost n flags p r.2
  let d := if d.vigilFlowDue n then d.vigilFlow n else d
  d.onMet (fun m => { m with posts := ((n, cycle) :: m.posts).take 256 })

/-- A GAP record carrying a duration (LSB 2^-24 s); it flags the data-log periods (R95, R253, R370). -/
def Dev.gap (d : Dev) (n dur : Nat) : Dev := (d.log ⟨0x09, 15, n, Word.ofN dur, 0, []⟩).logFlag 2

/-! ## The fallback program -/

/-- An item of a redundant pair is in service: neither failed nor retired (R26). -/
def Dev.itemOk (d : Dev) (i : Nat) : Bool := !d.bit F.BIST_DEGR_FAILED i && !d.bit F.BIST_DEGR_RETIRED i

/-- At least one member of each front-end pair the channel needs is in service (R254). -/
def Dev.fbServed (d : Dev) (n : Nat) : Bool :=
  let k := d.kind n
  let tdc := d.itemOk 9 || d.itemOk 10
  let adc := (d.itemOk 11 || d.itemOk 12) && (d.itemOk 13 || d.itemOk 14)
  if k = kPulse then true else if k = kVolume then tdc else tdc && adc

/-- The lowest path of the channel's pipe in P of R325, with its mean intervals: neither lost nor held, its weight above 0, both directions
collected in the cycle. -/
def Dev.fbPath (d : Dev) (n : Nat) (m : FbMeas) : Option (Nat × Nat × Nat) :=
  [0, 1, 2, 3].findSome? (fun p =>
    if d.servesPipe p (d.get (F.MET_CH_DESC_PIPE n)) && d.pathOk p && bitsOf (d.pathParam p 4) 23 0 != 0 then m.paths.find? (fun x => x.1 == p)
    else none)

/-- The flow of R325 from one path's mean intervals (LSB 2^-24 ps), in 2^-40 m³/s; none where it divides by zero. -/
def Dev.fbFlow (d : Dev) (p flood ebb : Nat) : Option Int :=
  let tau := (bitsOf (d.pathParam p 2) 47 0 : Int) * 65536
  let tf := (flood : Int) - tau
  let te := (ebb : Int) - tau
  let dt := te - tf - d.getS (F.USF_ZOFS_DT0 p) * 65536
  let l : Int := bitsOf (d.pathParam p 0) 35 0
  let x := signed 36 (bitsOf (d.pathParam p 1) 35 0)
  let num := (bitsOf (d.pathParam p 5) 35 0 : Int) * bitsOf (d.pathParam p 7) 35 0 * l * l * dt * 2147483648
  let den := x * tf * te
  if den = 0 then none else some (if 0 < den then near num den.natAbs else near (-num) den.natAbs)

/-- That flow, a free value where R325 divides by zero (log 15). -/
def Dev.fbSample (d : Dev) (p flood ebb : Nat) : Dev × Int :=
  match d.fbFlow p flood ebb with
  | some q => (d, q)
  | none => (d.free.2, (d.free.1 : Int))

/-- The flow cutoff of R354 on one sample: the sample as counted, and whether the channel is then running. -/
def cutoff (qon qoff : Nat) (running : Bool) (q : Int) : Int × Bool :=
  if qoff = 0 then (q, true)
  else if running then (if q.natAbs < qoff then (0, false) else (q, true))
  else if qon ≤ q.natAbs then (q, true) else (0, false)

/-- The quadrant of R351; 0 within 0.05 K. -/
def quadrant (rev : Bool) (dtheta : Int) : Nat :=
  if dtheta.natAbs ≤ 838860 then 0
  else if rev then (if 0 < dtheta then 4 else 3) else (if 0 < dtheta then 1 else 2)

/-- An RTD record (R324 table). -/
def Dev.rtdRecord (d : Dev) (r : Nat) : List Word := (List.range 8).map (fun i => d.param (0x140 + 8 * (r % 8) + i))

/-- Halves an interval `k` times, keeping the end where `p` holds and the end where it does not. -/
def lastTrue (p : Int → Bool) : Nat → Int → Int → Int
  | 0, lo, _ => lo
  | k + 1, lo, hi => let mid := (lo + hi) / 2; if p mid then lastTrue p k mid hi else lastTrue p k lo mid

/-- R0 × (1 + A·θ + B·θ² + C·(θ − 100)·θ³) × 2^160 in µΩ of an RTD record at `t` × 2^-24 K, C taken as 0 from 0 up (R340; A, B and C have LSB 2^-64). -/
def rtdOhms (rec : List Word) (t : Int) : Int :=
  let w (i : Nat) : Int := (rec.getD i 0).toInt
  let c : Int := if t < 0 then w 4 * (t - 100 * 2 ^ 24) * t ^ 3 else 0
  ((rec.getD 1 0).toNat : Int) * (2 ^ 160 + w 2 * t * 2 ^ 72 + w 3 * t ^ 2 * 2 ^ 48 + c)

/-- The solution θ of R340 in 2^-24 K, rounded down, for R = RREF × `s` / `ref` − `lead`; none where the format has none. -/
def rtdSolve (rec : List Word) (rref : Word) (lead : Nat) (s ref : Int) : Option Int :=
  let want : Int := ((rref.toNat : Int) * s - lead * ref) * 2 ^ 160
  let le (t : Int) : Bool := if 0 < ref then rtdOhms rec t * ref ≤ want else want ≤ rtdOhms rec t * ref
  if ref = 0 || !le (-(2 ^ 35)) || le (2 ^ 35 - 1) then none else some (lastTrue le 36 (-(2 ^ 35)) (2 ^ 35 - 1))

/-- The temperature of R340: the solution, within 1 mK from −50 °C to +200 °C, plus the trim; outside that range no bound is stated for the error, and
where there is no solution the value is open (log 18). -/
def rtdTheta (rec : List Word) (rref : Word) (lead : Nat) (s ref : Int) : Int :=
  let e := Config.rtdFree rec s ref rref
  match rtdSolve rec rref lead s ref with
  | some t => (if -(50 * 2 ^ 24) ≤ t && t ≤ 200 * 2 ^ 24 then t + max (-16777) (min 16777 e) else t + e) + (rec.getD 6 0).toInt
  | none => e

/-- The VALUEs of a sensor and its REF input, where both were collected in the cycle and the REF conversion is of the sensor's own pair (R340). -/
def Dev.fbRatio (d : Dev) (sensor ref : Nat) (m : FbMeas) : Option (Int × Int) :=
  let v (i : Nat) : Option Int := (m.inputs.find? (fun x => x.1 == i)).map (·.2)
  if d.get (F.ADC_IN_PAIR sensor) != d.get (F.ADC_IN_PAIR ref) then none
  else match v sensor, v ref with
    | some a, some b => some (a, b)
    | _, _ => none

/-- The temperature of RTD record `r`, where it was measured (R340). -/
def Dev.fbTheta (d : Dev) (r : Nat) (m : FbMeas) : Option Int :=
  let rec8 := d.rtdRecord r
  let w := rec8.getD 0 0
  let lead := if d.get (F.ADC_IN_WIRE (bitsOf w 3 0)) = 0 then (rec8.getD 5 0).toNat else 0
  (d.fbRatio (bitsOf w 3 0) (bitsOf w 7 4) m).map (fun x => rtdTheta rec8 (d.param 0x180) lead x.1 x.2)

/-- The heat coefficient k of R352 in mJ/(µL·K), as a fraction: (h(θf) − h(θr)) / (v(θm) × (θf − θr)), within 0.02 % from 0 °C to 150 °C at up to
2.5 MPa; beyond them no bound is stated for the error (log 18). -/
def heatK (f r th : Int) (p : Nat) : Nat × Nat :=
  let h := fracSub (Config.if97H f p) (Config.if97H r p)
  let v := Config.if97V th p
  let inside (t : Int) : Bool := 0 ≤ t && t ≤ 150 * 2 ^ 24
  let e := Config.heatError f r th p
  let e := if inside f && inside r && inside th && p ≤ 2500000 then max (-200) (min 200 e) else e
  (h.1.natAbs * 2 ^ 24 * v.2 * (1000000 + e).toNat, h.2 * v.1 * (f - r).natAbs * 1000000)

/-- The density ρ = 1 / v(θm, p) in mg/µL, as a fraction (R352). -/
def rhoOf (th : Int) (p : Nat) : Nat × Nat := let v := Config.if97V th p; (v.2, v.1)

/-- n / d to nearest, ties away from zero, of amounts that are not negative (R353). -/
def amount (n d : Nat) : Int := let r := ratio n d; nearest (r.1 : Int) r.2

/-- The amounts of a fallback segment of kind THERMAL (R351, R352): quadrant, A1, A3, and FLAGS bit 2. `vn` / 2^40 is V in
2^-24 µL. -/
def Dev.fbThermal (d : Dev) (n vn : Nat) (rev : Bool) (m : FbMeas) : Nat × Int × Int × Nat × Int :=
  let p := d.get (F.MET_CH_REF_P1 n)
  let last := Store.get (fun _ => 0) d.col.theta n
  match d.fbTheta (d.get (F.MET_CH_DESC_IN1 n)) m, d.fbTheta (d.get (F.MET_CH_DESC_IN2 n)) m with
  | some f, some r =>
    let th := if d.flag (F.MET_CH_DESC_VLEG n) then f else r
    let rho := rhoOf th p
    let k := heatK f r th p
    let q := quadrant rev (f - r)
    let a1 := if q = 0 then 0 else amount (vn * k.1 * (f - r).natAbs) (2 ^ 40 * k.2 * 2 ^ 24)
    (q, a1, amount (vn * rho.1) (2 ^ 40 * rho.2), 0, th)
  | _, _ =>
    let rho := rhoOf last p
    (0, 0, amount (vn * rho.1) (2 ^ 40 * rho.2), 4, last)

/-- The gauge pressure of bridge record `b` in 2^-24 Pa, where it was measured: the polynomial in the ratio of bridge and REF values, compensated with
the temperature of the RTD record that the bridge names (R360; spec/11_flow_and_temperature.md, sensor records; log 18). -/
def Dev.fbPressure (d : Dev) (b : Nat) (m : FbMeas) : Option Int :=
  let w (i : Nat) : Word := d.param (0x188 + 8 * (b % 4) + i)
  let c (k : Nat) : Int := (w (1 + k)).toInt
  match d.fbRatio (bitsOf (w 0) 3 0) (bitsOf (w 0) 7 4) m with
  | none => none
  | some (x, y) =>
    if y = 0 then none
    else
      let num := c 0 * y ^ 3 + c 1 * x * y ^ 2 + c 2 * x ^ 2 * y + c 3 * x ^ 3
      let p := near (if 0 < y then num else -num) (y ^ 3).natAbs
      if w 5 = 0 then some p else (d.fbTheta (bitsOf (w 0) 11 8 % 8) m).map (fun t => Config.bridgeComp (w 5) t p)

/-- The base volume of R360, where temperature and pressure were measured and the quotient exists. -/
def Dev.fbGas (d : Dev) (n vn : Nat) (m : FbMeas) : Option Int :=
  match d.fbTheta (d.get (F.MET_CH_DESC_IN1 n)) m, d.fbPressure (d.get (F.MET_CH_DESC_IN2 n)) m with
  | some th, some pg =>
    let pa := pg + d.get (F.MET_CH_REF_P1 n) * 16777216
    let tn := d.get (F.MET_CH_REF_TB n) * 16777216
    let td := 10 * (100 * th + 27315 * 16777216)
    let num := vn * pa.natAbs * tn * d.get (F.MET_CH_ZR_ZR n)
    let den := 2 ^ 40 * d.get (F.MET_CH_REF_P2 n) * 16777216 * td.natAbs * 16777216
    if den = 0 then none else some (if decide (pa < 0) == decide (td < 0) then amount num den else -amount num den)
  | _, _ => none

/-- The segment of `k` pulses of a PULSE channel (R362). -/
def Dev.pulseSeg (d : Dev) (n k dur : Nat) : Seg :=
  let v := k * d.get (F.MET_CH_PULSE_PWEIGHT n)
  ⟨false, 0, dur, 0, (v * 2 ^ 24 : Nat), (v * d.get (F.MET_CH_PULSE_RHO n) : Nat)⟩

/-- A cycle ends: the counts of the PULSE channels at its end, and those at its start, are kept (R252, R253, R362). -/
def Dev.pulseMark (d : Dev) : Dev :=
  (channels.filter (fun n => d.kind n == kPulse)).foldl (fun d n =>
    let c := d.get (F.MET_CH_PCNT_COUNT n)
    d.onMet (fun m => { m with pcnt1 := Store.set (fun _ => 0) m.pcnt1 n (Store.get (fun _ => 0) m.pcnt0 n), pcnt0 := Store.set (fun _ => 0) m.pcnt0 n c })) d

/-- The pulses of one cycle, the one in progress or the one before it. -/
def Dev.pulsesOf (d : Dev) (n cycle : Nat) : Nat :=
  let start := Store.get (fun _ => 0) d.met.pcnt0 n
  if cycle = d.get F.COLLAR_CYCLE_CYCLE then (d.get (F.MET_CH_PCNT_COUNT n) + 2 ^ 48 - start) % 2 ^ 48
  else (start + 2 ^ 48 - Store.get (fun _ => 0) d.met.pcnt1 n) % 2 ^ 48

/-- The fallback program's segment and FLAGS for one channel over `dur` (R252, R354, R358 to R362). No rule states a GAS channel's base volume where
its temperature or pressure was not measured: a free value, but nothing where the flow sample is cut (R355; log 15). -/
def Dev.fbSegment (d : Dev) (n dur : Nat) (m : FbMeas) : Dev × Seg × Nat :=
  if d.kind n = kPulse then
    let c := d.get (F.MET_CH_PCNT_COUNT n)
    let k := (c + 2 ^ 48 - Store.get (fun _ => 0) d.met.pcnt0 n) % 2 ^ 48
    (d.onMet (fun x => { x with pcnt0 := Store.set (fun _ => 0) x.pcnt0 n c }), d.pulseSeg n k dur, 1)
  else
    match d.fbPath n m with
    | some (p, fl, eb) =>
      let y := d.fbSample p fl eb
      let d := y.1
      let c := cutoff (d.get (F.MET_CH_CUT_QON n)) (d.get (F.MET_CH_CUT_QOFF n)) (d.met.running.contains n) y.2
      let d := d.onMet (fun x => { x with running := x.running.filter (· != n) ++ (if c.2 then [n] else []) })
      let q := c.1
      let rev := decide (q < 0)
      let vn := q.natAbs * 1000000000 * dur
      let a2 := amount vn (2 ^ 40)
      if d.kind n = kThermal then
        let t := d.fbThermal n vn rev m
        let d := d.onCol (fun x => { x with theta := Store.set (fun _ => 0) x.theta n t.2.2.2.2 })
        (d, ⟨rev, t.1, dur, t.2.1, a2, t.2.2.1⟩, 1 + t.2.2.2.1)
      else if d.kind n = kGas then
        match if q = 0 then some 0 else d.fbGas n vn m with
        | some a1 => (d, ⟨rev, 0, dur, a1, a2, 0⟩, 1)
        | none =>
          let f := d.free
          (f.2, ⟨rev, 0, dur, (f.1 : Int), a2, 0⟩, 1)
      else
        let rho := Config.volumeRho n
        (d, ⟨rev, 0, dur, 0, a2, amount (vn * rho.1) (2 ^ 40 * rho.2)⟩, 1)
    | none => (d, ⟨false, 0, dur, 0, 0, 0⟩, 3)

/-- The fallback program posts for one channel (R252): in VIGIL only the volume (R365). -/
def Dev.fbPost (d : Dev) (n dur cycle : Nat) (m : FbMeas) : Dev :=
  let r := d.fbSegment n dur m
  r.1.applyPost n r.2.2 cycle [r.2.1] dur

/-- The fallback program carries the channel. -/
def Dev.fbCarries (d : Dev) (n : Nat) : Bool :=
  d.col.fb && d.carrier n == 0 && d.configured n && d.kind n != kDerived && d.fbServed n

/-- The fallback program carries a channel, which SYS_MODE.FALLBACK shows (R252). -/
def Dev.fbAny (d : Dev) : Bool := channels.any (fun n => d.fbCarries n)

/-- SYS_MODE as it reads (R252). -/
def Dev.modeWord (d : Dev) : Word := mergeMask (d.reg F.SYS_MODE) (maskOf 7 7) (if d.fbAny then BitVec.allOnes 72 else 0)

/-- Integration has started: in Stage 3 with the first fallback measurement (R82). -/
def Dev.integrating (d : Dev) : Bool := d.get F.SYS_MODE_STAGE != 3 || d.loop.firstFb

/-- The fallback cycle ends after `dur` of T1: a post for every channel it carries, over what it has integrated (R82, R86, R252); fallback metering flags
the data-log periods (R370). -/
def Dev.fbCycle (d : Dev) (dur : Nat) (fb : FbMeas) : Dev :=
  if d.integrating then
    let c := d.get F.COLLAR_CYCLE_CYCLE
    let own := dur - 512 * d.col.fbFrom
    let d1 := channels.foldl (fun d n => if d.fbCarries n then d.fbPost n own c fb else d) d
    let d2 := if d.col.fb then d1.logFlag 1 else d1
    d2.onCol (fun x => { x with fbFrom := 0 })
  else d

/-- The block of a result that still holds it: the cycle it is of, and the completion word it was returned with. -/
def Dev.resultBlock (d : Dev) (own cyc : Nat) (e : Option (Nat × Nat × Nat)) : Option Nat :=
  match e with
  | some (b, c, low) => if c = cyc && d.load (blockAddr b + 63) = completionWord 0 own low then some b else none
  | none => none

/-- The mean interval of a path and direction in the Seam, where a result of cycle `cyc` with a collected pair stands there (R253, R309). -/
def Dev.seamMean (d : Dev) (k cyc : Nat) : Option Nat :=
  match d.resultBlock Own.tdc cyc ((d.usf.results.find? (fun e => e.1 == k)).map (·.2)) with
  | some b => if bitsOf (d.load (blockAddr b)) 31 16 = 0 then none else some (d.load (blockAddr b + 3)).toNat
  | none => none

/-- The mean VALUE of an input record in the Seam, where a result of cycle `cyc` with a collected conversion stands there (R253, R339). -/
def Dev.seamValue (d : Dev) (i cyc : Nat) : Option Int :=
  match d.resultBlock Own.adc cyc ((d.adc.results.find? (fun e => e.1 == i)).map (·.2)) with
  | some b => if bitsOf (d.load (blockAddr b)) 39 36 = 0 then none else some (d.load (blockAddr b + 1)).toInt
  | none => none

/-- The front-end results of cycle `cyc` in the Seam (R253). -/
def Dev.seamMeas (d : Dev) (cyc : Nat) : FbMeas :=
  { paths := [0, 1, 2, 3].filterMap (fun p => match d.seamMean (2 * p) cyc, d.seamMean (2 * p + 1) cyc with
      | some f, some e => some (p, f, e)
      | _, _ => none),
    inputs := (List.range 16).filterMap (fun i => (d.seamValue i cyc).map (fun v => (i, v))) }

/-- FALLBACK_FILL of one channel and cycle from the results in the Seam, or a GAP where the cycle has no result (R253). -/
def Dev.fallbackFill (d : Dev) (n cycle : Nat) : Dev :=
  if !d.configured n || d.kind n = kDerived then d
  else
    let dur := d.covered n cycle
    let m := d.seamMeas cycle
    if d.kind n = kPulse then
      ((d.applyPost n 1 cycle [d.pulseSeg n (d.pulsesOf n cycle) dur] dur).log ⟨0x35, 15, n, Word.ofN cycle, 0, []⟩).logFlag 1
    else if (d.fbPath n m).isSome then
      let running := d.met.running
      let d := d.onMet (fun x => { x with running := x.running.filter (· != n) })
      let d := ((d.fbPost n dur cycle m).log ⟨0x35, 15, n, Word.ofN cycle, 0, []⟩).logFlag 1
      d.onMet (fun x => { x with running := running })
    else d.gap n dur

/-- The fallback program starts: each channel in the cut state (R354), PULSE counts taken up (R252). -/
def Dev.fbStart (d : Dev) : Dev :=
  let counts := (channels.filter (fun n => d.kind n == kPulse)).foldl (fun l n => Store.set (fun _ => 0) l n (d.get (F.MET_CH_PCNT_COUNT n))) d.met.pcnt0
  (d.onMet (fun m => { m with running := [], pcnt0 := counts })).onCol (fun c => { c with fb := true, fbFrom := 0 })

/-- The fallback program ends. -/
def Dev.fbStop (d : Dev) : Dev := d.onCol (fun c => { c with fb := false })

/-! ## Protected parameters -/

/-- An RWT field was written, or a word of the parameter area: in SERVICE the change is kept for the boundary; one per field,
its first old and last new value (R257), but every write of CHEM, WDAY and PHASE (R50, R130; log 59). -/
def Dev.noteChange (d : Dev) (x : ParamChange) : Dev :=
  if d.get F.SYS_MODE_MODE != 5 then d
  else
    let same (y : ParamChange) : Bool := x.addr != F.PWR_CELL && x.addr != F.TIDE_WDAY && y.addr == x.addr && y.hi == x.hi && y.lo == x.lo && y.param == x.param
    d.onCol (fun c => { c with changes := c.changes.filter (fun y => !same y) ++ [{ x with old := ((c.changes.find? same).map (·.old)).getD x.old }] })

/-- The bits a word of the trusted parameter area may have set, where a chapter documents its fields (R324, the sensor records,
spec/11_flow_and_temperature.md). -/
def paramBits (off : Nat) : Word :=
  let all : Word := BitVec.allOnes 72
  if 0x100 ≤ off && off < 0x140 then
    match off % 16 with
    | 0 => maskOf 35 0
    | 1 => maskOf 35 0
    | 2 => maskOf 47 0
    | 3 => maskOf 71 71 ||| maskOf 47 0
    | 4 => maskOf 23 0
    | 5 => maskOf 35 0
    | 6 => maskOf 35 0
    | 7 => maskOf 35 0
    | 8 => maskOf 35 0
    | 9 => maskOf 1 0
    | _ => 0
  else if 0x140 ≤ off && off < 0x180 && off % 8 = 0 then maskOf 7 0
  else if 0x188 ≤ off && off < 0x1A8 && off % 8 = 0 then maskOf 11 0
  else all

/-- The registers with an RWT field, in the order of the register map. -/
def rwtRegs : List Nat :=
  (List.range 21).flatMap (fun b => (regRows b).flatMap (fun r =>
    if r.fields.any (fun f => f.acc == .rwt) then (List.range r.count).map (fun i => r.base + r.stride * i) else []))

/-- Where the trusted parameter area keeps the RWT fields of register `a`: their values, and in the next word the bits that have a value. R257 says
that they are there; the place is the model's (DESIGN CHOICE, log 110). -/
def rwtAt (a : Nat) : Nat := paramBase + 0x200 + 2 * rwtRegs.idxOf a

/-- The bits of a register's RWT fields. -/
def rwtFields (a : Nat) : List FieldDef := ((rowAt a).map (fun r => r.fields.filter (fun f => f.acc == .rwt))).getD []

/-- A field's value is one that R13 leaves as it is. -/
def FieldDef.inRange (f : FieldDef) (w : Word) : Bool := legal f.rng (f.hi + 1 - f.lo) (bitsOf w f.hi f.lo) == bitsOf w f.hi f.lo

/-- A word of the parameter area lies in the range a chapter documents for it (R258): its bits; the trim of an RTD record in the temperature format (R6); a
trusted copy of RWT fields within those fields' ranges. -/
def paramWordOk (off : Nat) (w : Word) : Bool :=
  (w &&& ~~~(paramBits off)) == 0
    && (!(0x140 ≤ off && off < 0x180 && off % 8 = 6) || (decide (-(2 ^ 35) ≤ w.toInt) && decide (w.toInt < 2 ^ 35)))
    && (!(0x200 ≤ off && off < 0x200 + 2 * rwtRegs.length && off % 2 = 0) || (rwtFields (rwtRegs.getD ((off - 0x200) / 2) 0)).all (fun f => f.inRange w))

/-- A changed parameter lies in its documented range (R258): RWT fields were ranged when written (R13). -/
def paramInRange (x : ParamChange) : Bool := !x.param || paramWordOk (x.addr - paramBase) x.new

/-- PARAM_CHANGE at the boundary: the copy into the trusted parameter area, the record, PCOUNT (R257). -/
def Dev.commitChange (d : Dev) (x : ParamChange) : Dev :=
  let d := if x.param then d.store x.addr x.new
    else
      let a := rwtAt x.addr
      let m := maskOf x.hi x.lo
      (d.store a (mergeMask (d.load a) m (placed x.hi x.lo x.new.toNat))).store (a + 1) (d.load (a + 1) ||| m)
  let bad := if paramInRange x then [] else [x.addr]
  let d := d.onCol (fun c => { c with sealBad := c.sealBad.filter (· != x.addr) ++ bad })
  (d.log ⟨0x13, x.cls, 127, x.new, x.addr, [(x.old, 0, 0)]⟩).bump F.COLLAR_LOGSTAT_PCOUNT

/-- All writes of the cycle, one record per field, a value written back as it was among them (R50, R130, R257; log 59). -/
def Dev.commitChanges (d : Dev) : Dev := (d.col.changes.foldl (fun d x => d.commitChange x) d).onCol (fun c => { c with changes := [] })

/-- The bits of an RWT register that Stage 2 loads from the trusted parameter area (R79, R257): the Tideline's stand as they are, the
Collar's routing is that of the ROM (R292), T1 runs as the mode sets it, and a field that is a command is none to keep (log 19). -/
def reloadMask (a : Nat) : Word :=
  let all : Word := BitVec.allOnes 72
  if a / 0x400 = 0x13 || a / 0x400 = 0x15 || a / 0x400 = 0x16 then 0
  else if a = F.TMR_CNT 1 || a = F.TMR_CMP0 1 || a = F.BIST_CMD || a = F.LBL_CMD then 0
  else if a = F.TMR_CFG 1 then all &&& ~~~(maskOf 0 0)
  else if a = F.USF_ZCTL then all &&& ~~~(maskOf 3 0)
  else if a = F.LOOP_FIX then all &&& ~~~(maskOf 16 16)
  else all

/-- At Stage 2 the RWT fields take their trusted values (R50, R79, R257). -/
def Dev.loadTrusted (d : Dev) : Dev :=
  rwtRegs.foldl (fun d a => d.setReg a (mergeMask (d.reg a) (d.load (rwtAt a + 1) &&& reloadMask a) (d.load (rwtAt a)))) d

/-! ## Checkpoints -/

/-- Three 24-bit residues per word, the first in [71:48] (R263, R474). -/
def pack3 : List Nat → List Word
  | a :: b :: c :: t => Word.ofN (a % 2 ^ 24 * 2 ^ 48 + b % 2 ^ 24 * 2 ^ 24 + c % 2 ^ 24) :: pack3 t
  | [a, b] => [Word.ofN (a % 2 ^ 24 * 2 ^ 48 + b % 2 ^ 24 * 2 ^ 24)]
  | [a] => [Word.ofN (a % 2 ^ 24 * 2 ^ 48)]
  | [] => []

/-- The residue number `i` of packed words. -/
def unpack3 (ws : List Word) (i : Nat) : Nat := bitsOf (ws.getD (i / 3) 0) (71 - 24 * (i % 3)) (48 - 24 * (i % 3))

/-- The place of checkpoint slot `s` (R263). -/
def ckAddr (s : Nat) : Nat := 0x8E000 + 0x140 * (s % 25)

/-- The eleven accumulators of each channel in checkpoint order. -/
def ckValues (f : Nat → Nat → Nat) : List Nat := channels.flatMap (fun n => (List.range 11).map (fun k => f n k))

/-- Words 0 to 317 of a checkpoint (R263). -/
def Dev.ckWords (d : Dev) (seq : Nat) : List Word :=
  let present := channels.foldl (fun a n => if d.configured n then a + 2 ^ n else a) 0
  let vig (f : Nat → Nat → Nat) : List Nat := channels.flatMap (fun n => [f n 11, f n 12])
  [Word.ofN (0xACC5 * 2 ^ 56 + 2 ^ 48 + seq % 2 ^ 48), d.reg F.TIDE_SEC, d.reg F.COLLAR_CYCLE,
      Word.ofN (present + (if d.get F.SYS_MODE_MODE = 4 then 65536 else 0))]
    ++ (ckValues d.acc).map Word.ofN ++ pack3 (ckValues d.residue) ++ (vig d.acc).map Word.ofN ++ pack3 (vig d.residue)
    ++ [d.reg F.TIDE_CIVOFS, Word.ofN (d.get F.TIDE_WDAY_WDAY)] ++ List.replicate 34 0

/-- CHECKPOINT_COMMIT: the HMAC words last (R263). -/
def Dev.commitCk (d : Dev) : Dev :=
  let seq := d.col.ckSeq
  let ws := d.ckWords seq
  let a := ckAddr seq
  ((d.storeAll a ws).storeAll (a + 318) (mac128 (d.keyAt 0).key ws)).onCol (fun c => { c with ckSeq := seq + 1 })

/-- A checkpoint slot is valid: its magic and version, its HMAC, no uncorrectable word (R80, R263, R509). -/
def Dev.ckValid (d : Dev) (s : Nat) : Bool :=
  let ws := d.loadAll (ckAddr s) 318
  bitsOf (ws.getD 0 0) 71 48 == 0xACC501 && decide (d.loadAll (ckAddr s + 318) 2 = mac128 (d.keyAt 0).key ws)
    && !(List.range 320).any (fun i => Store.get (fun _ => false) d.ecc (ckAddr s + i))

/-- SEQ of a slot. -/
def Dev.ckSeqOf (d : Dev) (s : Nat) : Nat := bitsOf (d.load (ckAddr s)) 47 0

/-- The valid slot with the highest SEQ (R80). -/
def Dev.ckLatest (d : Dev) : Option Nat :=
  (List.range 25).foldl (fun b s =>
    if d.ckValid s then
      match b with
      | none => some s
      | some t => if d.ckSeqOf t < d.ckSeqOf s then some s else some t
    else b) none

/-- Every slot holds the factory blank pattern: words that read as 0 (R80; log 2). -/
def Dev.ckBlank (d : Dev) : Bool := (List.range 25).all (fun s => (d.loadAll (ckAddr s) 320).all (· == 0))

/-- Accumulators, vigil volumes and residues from a checkpoint slot (R78, R263). -/
def Dev.ckRestore (d : Dev) (s : Nat) : Dev :=
  let a := ckAddr s
  let res := d.loadAll (a + 180) 59
  let vres := d.loadAll (a + 271) 11
  let d1 := channels.foldl (fun d n => (List.range 11).foldl (fun d k =>
    d.setAcc n k ((d.load (a + 4 + 11 * n + k)).toNat * 2 ^ 24 + unpack3 res (11 * n + k))) d) d
  channels.foldl (fun d n =>
    (d.setAcc n 11 ((d.load (a + 239 + 2 * n)).toNat * 2 ^ 24 + unpack3 vres (2 * n))).setAcc n 12
      ((d.load (a + 240 + 2 * n)).toNat * 2 ^ 24 + unpack3 vres (2 * n + 1))) d1

end Sys2Proof.Machine
end

