-- ==== Sys2Proof/Machine/Flags.lean ====
section
/-!
DEFINITION. Every flag computation of the engines (spec/06_programming_model.md R162, R163;
spec/07_instruction_reference.md R201, R204 to R206).
-/
namespace Sys2Proof.Machine

/-- FL as software sees it: Z, N, C, V, S from bit 0 (R161). -/
def Flags.bits (f : Flags) : BitVec 5 :=
  BitVec.ofNat 5 (f.z.toNat + 2 * f.n.toNat + 4 * f.c.toNat + 8 * f.v.toNat + 16 * f.s.toNat)

/-- FL from its bits. -/
def Flags.ofBits (b : BitVec 5) : Flags := ⟨b.getLsbD 0, b.getLsbD 1, b.getLsbD 2, b.getLsbD 3, b.getLsbD 4⟩

/-- ZN(r) (R198). -/
def Flags.zn (f : Flags) (r : Word) : Flags := { f with z := r == 0, n := r.msb }

/-- S is only ever set (R163). -/
def Flags.sat (f : Flags) (b : Bool) : Flags := { f with s := f.s || b }

/-- Z N C V of an exact signed result and a carry (R162). -/
def Flags.arith (f : Flags) (r : Word) (carry : Bool) (exact : Int) : Flags :=
  { f.zn r with c := carry, v := exact < -(2 ^ 71) || 2 ^ 71 ≤ exact }

/-- Carry out of u(a) + u(b) + cin (R162). -/
def carryAdd (a b : Word) (cin : Nat) : Bool := 2 ^ 72 ≤ a.toNat + b.toNat + cin

/-- No borrow from u(a) − u(b) − bin (R162, R204). -/
def noBorrow (a b : Word) (bin : Nat) : Bool := b.toNat + bin ≤ a.toNat

/-- Does the condition code hold (R201)? -/
def Flags.holds (f : Flags) (cond : BitVec 4) : Bool :=
  match cond.toNat with
  | 0 => true
  | 1 => f.z
  | 2 => !f.z
  | 3 => f.n != f.v
  | 4 => f.n == f.v
  | 5 => !f.z && f.n == f.v
  | 6 => f.z || f.n != f.v
  | 7 => !f.c
  | 8 => f.c
  | 9 => f.c && !f.z
  | 10 => !f.c || f.z
  | 11 => f.n
  | 12 => !f.n
  | 13 => f.v
  | 14 => !f.v
  | _ => f.s

end Sys2Proof.Machine
end

