-- ==== Sys2Proof/Machine/Operands.lean ====
section
/-!
DEFINITION. Every operand form of the engines' instructions: registers, immediates, shift amounts, bit fields, effective
addresses, accumulators, and the rounding and saturation of spec/07_instruction_reference.md R198.
-/
namespace Sys2Proof.Machine

/-- W[r] (R161). -/
def EngState.reg (e : EngState) (r : WReg) : Word := e.w[r]

/-- W[r] := v. No register is hard-wired (R161). -/
def EngState.setReg (e : EngState) (r : WReg) (v : Word) : EngState := { e with w := e.w.set r v }

/-- An accumulator: false ACCA, true ACCB (R161). -/
def EngState.acc (e : EngState) (x : Bool) : Acc144 := if x then e.accb else e.acca

/-- Store an accumulator, modulo 2^144. -/
def EngState.setAcc (e : EngState) (x : Bool) (v : Acc144) : EngState :=
  if x then { e with accb := v } else { e with acca := v }

/-- sext(IMM22) (R198). -/
def sextImm (imm : BitVec 22) : Word := imm.signExtend 72

/-- The shift amount n of R205. -/
def shiftAmount (e : EngState) : ShAmt → Nat
  | .imm n => n.toNat
  | .reg b => (e.reg b).toNat % 256

/-- The effective address of LD and ST (R209). -/
def effAddr (e : EngState) (a : WReg) (imm : BitVec 22) : Nat := (e.reg a + sextImm imm).toNat % 2 ^ 20

/-- The effective address of LDH and STH (R209). -/
def effAddrH (e : EngState) (a : WReg) (off : BitVec 20) : Nat := (e.reg a + off.signExtend 72).toNat % 2 ^ 20

/-- The selected half of a word (R2, R209). -/
def halfOf (w : Word) (h : Bool) : Half := if h then w.extractLsb' 36 36 else w.extractLsb' 0 36

/-- The mask of a half. -/
def halfMask (h : Bool) : Word := if h then maskOf 71 36 else maskOf 35 0

/-- 36 bits in the place of a half. -/
def halfPlaced (h : Bool) (v : Half) : Word := if h then v.setWidth 72 <<< 36 else v.setWidth 72

/-- A bit field and its width are inside the word (R208). -/
def fieldOk (p l : BitVec 7) : Bool := l.toNat != 0 && l.toNat ≤ 72 && p.toNat ≤ 71 && p.toNat + l.toNat ≤ 72

/-- rnd(v, k): to nearest, ties toward +∞ (R198). -/
def rnd (v : Int) (k : Nat) : Int := if k = 0 then v else (v + 2 ^ (k - 1)) / 2 ^ k

/-- trunc(n / b) (R198). -/
def truncDiv (n b : Int) : Int := Int.tdiv n b

/-- v clamped to lo..hi. -/
def clampI (lo hi v : Int) : Int := max lo (min hi v)

/-- The range of s(x) (R198). -/
def lo72 : Int := -(2 ^ 71)
def hi72 : Int := 2 ^ 71 - 1

/-- sat72(v) and whether it clamped (R198). -/
def sat72 (v : Int) : Word × Bool := (BitVec.ofInt 72 (clampI lo72 hi72 v), v < lo72 || hi72 < v)

/-- satu72(v) and whether it clamped (R198). -/
def satu72 (v : Int) : Word × Bool := (BitVec.ofInt 72 (clampI 0 (2 ^ 72 - 1) v), v < 0 || 2 ^ 72 - 1 < v)

/-- The operands of MUL and MAC under SG (R212). -/
def mulOperand (sg : BitVec 2) (first : Bool) (w : Word) : Int :=
  if sg.toNat = 1 || (sg.toNat = 2 && !first) then w.toNat else w.toInt

/-- The product, exact, per SG (R212). -/
def product (e : EngState) (a b : WReg) (sg : BitVec 2) : Int := mulOperand sg true (e.reg a) * mulOperand sg false (e.reg b)

end Sys2Proof.Machine
end

