-- ==== Sys2Proof/Machine/Alu.lean ====
section
/-!
DEFINITION. What the instructions do that touch nothing but their engine's registers, flags, accumulators and loop stack
(spec/07_instruction_reference.md R202 to R219): one function from EngState to EngState each. The instruction address
is advanced by Machine/Engine.lean.
-/
namespace Sys2Proof.Machine

/-- Store a result and the flags. -/
def EngState.write (e : EngState) (d : WReg) (r : Word) (f : Flags) : EngState := { e.setReg d r with fl := f }

/-- The number of 1 bits (R204). -/
def popCount (w : Word) : Nat := (List.range 72).countP (fun i => w.getLsbD i)

/-- The number of leading zero bits, 0 to 72 (R204). -/
def leadingZeros (w : Word) : Nat := ((List.range 72).takeWhile (fun i => !w.getMsbD i)).length

/-- A saturated result: sat72 or satu72 with Z, N and S (R204, R206). -/
def EngState.writeSat (e : EngState) (d : WReg) (r : Word × Bool) : EngState := e.write d r.1 ((e.fl.zn r.1).sat r.2)

/-- The ALU functions of R204. -/
def EngState.alu (e : EngState) (f : AluFn) (d ra rb : WReg) : EngState :=
  let a := e.reg ra
  let b := e.reg rb
  let cin := e.fl.c.toNat
  let zn (r : Word) := e.write d r (e.fl.zn r)
  match f with
  | .add => e.write d (a + b) (e.fl.arith (a + b) (carryAdd a b 0) (a.toInt + b.toInt))
  | .adc => e.write d (a + b + BitVec.ofNat 72 cin)
      (e.fl.arith (a + b + BitVec.ofNat 72 cin) (carryAdd a b cin) (a.toInt + b.toInt + cin))
  | .sub => e.write d (a - b) (e.fl.arith (a - b) (noBorrow a b 0) (a.toInt - b.toInt))
  | .sbc => e.write d (a - b - BitVec.ofNat 72 (1 - cin))
      (e.fl.arith (a - b - BitVec.ofNat 72 (1 - cin)) (noBorrow a b (1 - cin)) (a.toInt - b.toInt - ((1 - cin : Nat) : Int)))
  | .neg => e.write d (0 - a) (e.fl.arith (0 - a) (noBorrow 0 a 0) (0 - a.toInt))
  | .abs => e.write d (BitVec.ofInt 72 a.toInt.natAbs)
      { e.fl.zn (BitVec.ofInt 72 a.toInt.natAbs) with v := a.toInt == -(2 ^ 71) }
  | .min => zn (if a.toInt ≤ b.toInt then a else b)
  | .max => zn (if a.toInt ≤ b.toInt then b else a)
  | .minu => zn (if a.toNat ≤ b.toNat then a else b)
  | .maxu => zn (if a.toNat ≤ b.toNat then b else a)
  | .cmp => { e with fl := e.fl.arith (a - b) (noBorrow a b 0) (a.toInt - b.toInt) }
  | .adds => e.writeSat d (sat72 (a.toInt + b.toInt))
  | .subs => e.writeSat d (sat72 (a.toInt - b.toInt))
  | .negs => e.writeSat d (sat72 (-a.toInt))
  | .abss => e.writeSat d (sat72 a.toInt.natAbs)
  | .addus => e.writeSat d (satu72 ((a.toNat : Int) + b.toNat))
  | .subus => e.writeSat d (satu72 ((a.toNat : Int) - b.toNat))
  | .and => zn (a &&& b)
  | .or => zn (a ||| b)
  | .xor => zn (a ^^^ b)
  | .andn => zn (a &&& ~~~b)
  | .not => zn (~~~a)
  | .tst => { e with fl := e.fl.zn (a &&& b) }
  | .popc => zn (BitVec.ofNat 72 (popCount a))
  | .clz => zn (BitVec.ofNat 72 (leadingZeros a))

/-- SEL (R204). -/
def EngState.sel (e : EngState) (d a b : WReg) (cond : BitVec 4) : EngState :=
  e.setReg d (if e.fl.holds cond then e.reg a else e.reg b)

/-- The result of a shift and the last bit shifted out (R205). -/
def shiftRes (f : ShFn) (a : Word) (n : Nat) : Word × Bool :=
  match f with
  | .shl => (a <<< n, n != 0 && n ≤ 72 && a.getLsbD (72 - n))
  | .shr => (a >>> n, n != 0 && n ≤ 72 && a.getLsbD (n - 1))
  | .asr => (a.sshiftRight n, n != 0 && (if n ≤ 72 then a.getLsbD (n - 1) else a.msb))
  | .ror => (a.rotateRight (n % 72), n % 72 != 0 && (a.rotateRight (n % 72)).msb)
  | .shls => (a, false)

/-- The shifts of R204 and R205. -/
def EngState.shift (e : EngState) (f : ShFn) (d a : WReg) (amt : ShAmt) : EngState :=
  let n := shiftAmount e amt
  match f with
  | .shls => e.writeSat d (sat72 ((e.reg a).toInt * 2 ^ n))
  | f => let r := shiftRes f (e.reg a) n; e.write d r.1 { e.fl.zn r.1 with c := r.2 }

/-- The immediate functions (R207). -/
def EngState.immOp (e : EngState) (f : ImmFn) (d ra : WReg) (imm : BitVec 22) : EngState :=
  let a := e.reg ra
  let b := sextImm imm
  match f with
  | .addi => e.write d (a + b) (e.fl.arith (a + b) (carryAdd a b 0) (a.toInt + b.toInt))
  | .andi => e.write d (a &&& b) (e.fl.zn (a &&& b))
  | .ori => e.write d (a ||| b) (e.fl.zn (a ||| b))
  | .xori => e.write d (a ^^^ b) (e.fl.zn (a ^^^ b))
  | .cmpi => { e with fl := e.fl.arith (a - b) (noBorrow a b 0) (a.toInt - b.toInt) }

/-- EXTR (R208). -/
def EngState.extr (e : EngState) (d a : WReg) (p l : BitVec 7) (x : Bool) : EngState :=
  let f := bitsOf (e.reg a) (p.toNat + l.toNat - 1) p.toNat
  let r := if x then BitVec.ofInt 72 (signed l.toNat f) else BitVec.ofNat 72 f
  e.write d r (e.fl.zn r)

/-- INS (R208). -/
def EngState.ins (e : EngState) (d a : WReg) (p l : BitVec 7) : EngState :=
  e.setReg d (withBits (e.reg d) (p.toNat + l.toNat - 1) p.toNat (e.reg a).toNat)

/-- MOVL (R203). -/
def EngState.movl (e : EngState) (d : WReg) (high zext : Bool) (lit : BitVec 36) : EngState :=
  e.setReg d (if high then mergeMask (e.reg d) (halfMask true) (halfPlaced true lit)
    else if zext then lit.setWidth 72 else lit.signExtend 72)

/-- EXT (R211). -/
def EngState.ext (e : EngState) (x : Bool) (d : WReg) (sh : BitVec 8) (r u : Bool) : EngState :=
  let v := (e.acc x).toInt
  let v := if r then rnd v sh.toNat else v / 2 ^ sh.toNat
  e.writeSat d (if u then satu72 v else sat72 v)

/-- MUL (R212). -/
def EngState.mul (e : EngState) (x : Bool) (a b : WReg) (sg : BitVec 2) : EngState :=
  e.setAcc x (BitVec.ofInt 144 (product e a b sg))

/-- MAC (R212). -/
def EngState.mac (e : EngState) (x : Bool) (a b : WReg) (sg : BitVec 2) (neg : Bool) : EngState :=
  e.setAcc x (if neg then e.acc x - BitVec.ofInt 144 (product e a b sg) else e.acc x + BitVec.ofInt 144 (product e a b sg))

/-- The exact quotient and remainder of DIV, clamped, with V (R213). -/
def divRes (a b lo hi : Int) (sh : Nat) : Int × Int × Bool :=
  let n := a * 2 ^ sh
  if b = 0 then (if n < 0 then lo else hi, 0, true)
  else
    let q := truncDiv n b
    (clampI lo hi q, n - q * b, q < lo || hi < q)

/-- DIV (R213). -/
def EngState.div (e : EngState) (d ra rb : WReg) (sh : BitVec 7) (u m : Bool) : EngState :=
  let a := e.reg ra
  let b := e.reg rb
  let r := if u then divRes a.toNat b.toNat 0 (2 ^ 72 - 1) sh.toNat else divRes a.toInt b.toInt lo72 hi72 sh.toNat
  let w := BitVec.ofInt 72 (if m then r.2.1 else r.1)
  e.write d w (({ e.fl.zn w with v := r.2.2 }).sat r.2.2)

/-- RECIP (R214). -/
def EngState.recip (e : EngState) (d ra : WReg) (sh : BitVec 8) : EngState :=
  let a := (e.reg ra).toInt
  if a = 0 then
    let w := BitVec.ofInt 72 hi72
    e.write d w (({ e.fl.zn w with v := true }).sat true)
  else
    let m : Int := a.natAbs
    let q := (2 ^ sh.toNat + m / 2) / m
    let v := if a > 0 then decide (q > 2 ^ 71 - 1) else decide (q > 2 ^ 71)
    let r := sat72 (if a > 0 then q else -q)
    e.write d r.1 (({ e.fl.zn r.1 with v := v }).sat (v || r.2))

/-- POLY (R215). -/
def EngState.poly (e : EngState) (d a b : WReg) (sh : BitVec 8) : EngState :=
  e.writeSat d (sat72 (rnd ((e.reg d).toInt * (e.reg a).toInt) sh.toNat + (e.reg b).toInt))

/-- Which of a table's words INTERP reads, from x, X0, N and K (R216): an end point and S, or the index, f and K of an
interpolation. -/
inductive InterpCase
  | endPoint (i : Nat) (s : Bool)
  | between (i : Nat) (f : Int)
deriving DecidableEq, Repr

def interpCase (x x0 : Int) (n k : Nat) : InterpCase :=
  let dd := x - x0
  if dd < 0 then .endPoint 0 true
  else
    let i := (dd / 2 ^ k).toNat
    if i ≥ n - 1 then .endPoint (n - 1) (decide (dd > (n - 1 : Nat) * 2 ^ k))
    else .between i (dd - i * 2 ^ k)

/-- The interpolated value (R216). -/
def interpValue (y0 y1 f : Int) (k : Nat) : Word × Bool := sat72 (y0 + rnd ((y1 - y0) * f) k)

/-- The loop end test of R219 at address `a`, the engine having completed an instruction whose next address is `next`. -/
def loopEnd : List LoopLevel → BitVec 21 → BitVec 21 → List LoopLevel × BitVec 21
  | [], _, next => ([], next)
  | l :: ls, a, next =>
    if l.stop = a then
      if l.count - 1 > 0 then ({ l with count := l.count - 1 } :: ls, l.start) else loopEnd ls a next
    else (l :: ls, next)

/-- The instruction completes without a taken branch: IA moves on, and the loop end test runs (R166, R219). `len` is 2
for an L-format instruction. -/
def EngState.complete (e : EngState) (len : Nat) : EngState :=
  let r := loopEnd e.loops (e.ia + BitVec.ofNat 21 (len - 1)) (e.ia + BitVec.ofNat 21 len)
  { e with loops := r.1, ia := r.2, wait := .none }

/-- A taken branch: no end test runs (R217, R219). -/
def EngState.jump (e : EngState) (target : BitVec 21) : EngState := { e with ia := target, wait := .none }

/-- BR (R217). -/
def EngState.br (e : EngState) (cond : BitVec 4) (link : Bool) (target : BitVec 21) : EngState :=
  if e.fl.holds cond then
    (if link then e.setReg 15 ((e.ia + 1).setWidth 72) else e).jump target
  else e.complete 1

/-- BRR: W[A] is read before W15 is written (R217). -/
def EngState.brr (e : EngState) (cond : BitVec 4) (link : Bool) (a : WReg) : EngState := e.br cond link ((e.reg a).setWidth 21)

/-- LOOP and LOOPI (R218): a count of 0 skips the body; either way the instruction completes, and an enclosing level that ends here is tested
(R219). -/
def EngState.pushLoop (e : EngState) (count len : Nat) : EngState :=
  if count = 0 then
    let r := loopEnd e.loops e.ia (e.ia + BitVec.ofNat 21 (len + 1))
    { e with loops := r.1, ia := r.2, wait := .none }
  else
    let r := loopEnd e.loops e.ia (e.ia + 1)
    { e with loops := ⟨e.ia + 1, e.ia + BitVec.ofNat 21 len, count⟩ :: r.1, ia := r.2, wait := .none }

end Sys2Proof.Machine
end

