-- ==== Sys2Proof/Machine/Yilroril.lean ====
section
/-!
DEFINITION. The 36-bit encodings of the engines' instructions (spec/06_programming_model.md R164, R165;
spec/07_instruction_reference.md R199 to R230): `YOp.encode` and `YOp.decode`. The table of commands gives no row any
bits; these are the words an engine fetches, which a trap record carries and a debug step decodes.
-/
namespace Sys2Proof.Machine

/-- FUNC of an ALU function (R204). -/
def aluFunc : AluFn → Nat
  | .add => 0x00 | .adc => 0x01 | .sub => 0x02 | .sbc => 0x03 | .neg => 0x04 | .abs => 0x05 | .min => 0x06 | .max => 0x07
  | .minu => 0x08 | .maxu => 0x09 | .cmp => 0x0A | .adds => 0x10 | .subs => 0x11 | .negs => 0x12 | .abss => 0x13
  | .addus => 0x14 | .subus => 0x15 | .and => 0x20 | .or => 0x21 | .xor => 0x22 | .andn => 0x23 | .not => 0x24
  | .tst => 0x25 | .popc => 0x26 | .clz => 0x27

/-- The ALU function with a FUNC code (R204). -/
def aluOf (func : Nat) : Option AluFn :=
  match func with
  | 0x00 => some .add | 0x01 => some .adc | 0x02 => some .sub | 0x03 => some .sbc | 0x04 => some .neg | 0x05 => some .abs
  | 0x06 => some .min | 0x07 => some .max | 0x08 => some .minu | 0x09 => some .maxu | 0x0A => some .cmp
  | 0x10 => some .adds | 0x11 => some .subs | 0x12 => some .negs | 0x13 => some .abss | 0x14 => some .addus
  | 0x15 => some .subus | 0x20 => some .and | 0x21 => some .or | 0x22 => some .xor | 0x23 => some .andn
  | 0x24 => some .not | 0x25 => some .tst | 0x26 => some .popc | 0x27 => some .clz
  | _ => none

/-- FUNC of a shift (R204). -/
def shFunc : ShFn → Nat
  | .shls => 0x16 | .shl => 0x30 | .shr => 0x31 | .asr => 0x32 | .ror => 0x33

/-- The shift with a FUNC code (R204). -/
def shOf (func : Nat) : Option ShFn :=
  match func with
  | 0x16 => some .shls | 0x30 => some .shl | 0x31 => some .shr | 0x32 => some .asr | 0x33 => some .ror
  | _ => none

/-- Opcode of an immediate function (R199). -/
def immOpc : ImmFn → Nat
  | .addi => 0x05 | .andi => 0x06 | .ori => 0x07 | .xori => 0x08 | .cmpi => 0x09

/-- R format (R164): OP, D, A, B, FN. -/
def encR (op d a b fn : Nat) : BitVec 36 := BitVec.ofNat 36 (op * 2 ^ 30 + d * 2 ^ 26 + a * 2 ^ 22 + b * 2 ^ 18 + fn)

/-- I and L formats (R164): OP, D, A and 22 bits. -/
def encI (op d a imm : Nat) : BitVec 36 := BitVec.ofNat 36 (op * 2 ^ 30 + d * 2 ^ 26 + a * 2 ^ 22 + imm)

/-- FN of a shift amount (R205). -/
def amtFn : ShAmt → Nat × Nat
  | .imm n => (0, 128 + n.toNat)
  | .reg b => (b.val, 0)

/-- The 36 bits of an instruction (R199 to R230). Reserved and unread fields are zero. -/
def YOp.encode : YOp → BitVec 36
  | .nop => encR 0 0 0 0 0
  | .doze => encR 0 0 0 0 (1 * 2 ^ 14)
  | .movfl d => encR 0 d.val 0 0 (2 * 2 ^ 14)
  | .movtfl a => encR 0 0 a.val 0 (3 * 2 ^ 14)
  | .lpop => encR 0 0 0 0 (4 * 2 ^ 14)
  | .mov d a => encR 0x01 d.val a.val 0 0
  | .movi d imm => encI 0x02 d.val 0 imm.toNat
  | .movl d high zext _ => encI 0x03 d.val 0 (high.toNat + 2 * zext.toNat)
  | .alu f d a b => encR 0x04 d.val a.val b.val (aluFunc f * 2 ^ 12)
  | .sel d a b c => encR 0x04 d.val a.val b.val (0x0B * 2 ^ 12 + c.toNat)
  | .shift f d a n => encR 0x04 d.val a.val (amtFn n).1 (shFunc f * 2 ^ 12 + (amtFn n).2)
  | .immOp f d a imm => encI (immOpc f) d.val a.val imm.toNat
  | .extr d a p l x => encR 0x0A d.val a.val 0 (x.toNat * 2 ^ 14 + l.toNat * 2 ^ 7 + p.toNat)
  | .ins d a p l => encR 0x0B d.val a.val 0 (l.toNat * 2 ^ 7 + p.toNat)
  | .ld d a imm => encI 0x10 d.val a.val imm.toNat
  | .ldh d a off u h => encI 0x11 d.val a.val (off.toNat * 4 + u.toNat * 2 + h.toNat)
  | .st d a imm => encI 0x12 d.val a.val imm.toNat
  | .sth d a off h => encI 0x13 d.val a.val (off.toNat * 4 + h.toNat)
  | .clracc x => encR 0x18 0 0 0 (x.toNat * 2 ^ 13)
  | .movta x a b => encR 0x18 0 a.val b.val (1 * 2 ^ 14 + x.toNat * 2 ^ 13)
  | .movtas x a => encR 0x18 0 a.val 0 (2 * 2 ^ 14 + x.toNat * 2 ^ 13)
  | .movfa x d high => encR 0x18 d.val 0 0 (3 * 2 ^ 14 + x.toNat * 2 ^ 13 + high.toNat)
  | .ext x d sh r u => encR 0x18 d.val 0 0 (4 * 2 ^ 14 + x.toNat * 2 ^ 13 + u.toNat * 2 ^ 10 + r.toNat * 2 ^ 8 + sh.toNat)
  | .mul x a b sg => encR 0x19 0 a.val b.val (x.toNat * 2 ^ 13 + sg.toNat * 2 ^ 11)
  | .mac x a b sg neg => encR 0x1A 0 a.val b.val (x.toNat * 2 ^ 13 + sg.toNat * 2 ^ 11 + neg.toNat * 2 ^ 10)
  | .div d a b sh u m => encR 0x1B d.val a.val b.val (m.toNat * 2 ^ 8 + u.toNat * 2 ^ 7 + sh.toNat)
  | .recip d a sh => encR 0x1C d.val a.val 0 sh.toNat
  | .poly d a b sh => encR 0x1D d.val a.val b.val sh.toNat
  | .interp d a b => encR 0x1E d.val a.val b.val 0
  | .br c k t => encI 0x20 c.toNat (k.toNat * 8) t.toNat
  | .brr c k a => encR 0x21 c.toNat a.val 0 k.toNat
  | .loop a len => encI 0x22 0 a.val len.toNat
  | .loopi c len => encI 0x23 0 0 (c.toNat * 2 ^ 10 + len.toNat)
  | .claim d a => encR 0x28 d.val a.val 0 0
  | .give d a b c r f => encR 0x29 d.val a.val b.val (f.toNat * 2 ^ 5 + r.toNat * 2 ^ 4 + c.toNat)
  | .testown d a => encR 0x2A d.val a.val 0 0
  | .waitev d a => encR 0x2C d.val a.val 0 0
  | .signal n => encR 0x2D 0 0 0 n.toNat
  | .arm i s dis => encR 0x2E 0 0 0 (dis.toNat * 2 ^ 13 + i.toNat * 2 ^ 8 + s.toNat)
  | .shot d a => encR 0x30 d.val a.val 0 0
  | .conv d a => encR 0x31 d.val a.val 0 0
  | .svc n => encI 0x38 0 0 n.toNat
  | .trap c => encI 0x39 0 0 c.toNat
  | .mark a tag => encR 0x3A 0 a.val 0 tag.toNat

/-- The literal slot of an L-format word (R164). -/
def YOp.literal : YOp → Option (BitVec 36)
  | .movl _ _ _ lit => some lit
  | _ => none

/-- Bits `hi`..`lo` of an instruction. -/
def ib (w : BitVec 36) (hi lo : Nat) : Nat := (w.toNat / 2 ^ lo) % 2 ^ (hi + 1 - lo)

/-- A register field. -/
def ireg (w : BitVec 36) (lo : Nat) : WReg := Fin.ofNat 16 (ib w (lo + 3) lo)

/-- One bit. -/
def iflag (w : BitVec 36) (k : Nat) : Bool := ib w k k == 1

/-- The SYS group (R202). -/
def decodeSys (w : BitVec 36) : Option YOp :=
  match ib w 17 14 with
  | 0 => some .nop
  | 1 => some .doze
  | 2 => some (.movfl (ireg w 26))
  | 3 => some (.movtfl (ireg w 22))
  | 4 => some .lpop
  | _ => none

/-- The ALU group (R204, R205). -/
def decodeAlu (w : BitVec 36) : Option YOp :=
  let func := ib w 17 12
  let d := ireg w 26
  let a := ireg w 22
  let b := ireg w 18
  if func = 0x0B then some (.sel d a b (BitVec.ofNat 4 (ib w 3 0)))
  else match shOf func with
    | some f => some (.shift f d a (if iflag w 7 then .imm (BitVec.ofNat 7 (ib w 6 0)) else .reg b))
    | none => match aluOf func with
      | some f => some (.alu f d a b)
      | none => none

/-- The ACC group (R211). -/
def decodeAcc (w : BitVec 36) : Option YOp :=
  let x := iflag w 13
  match ib w 17 14 with
  | 0 => some (.clracc x)
  | 1 => some (.movta x (ireg w 22) (ireg w 18))
  | 2 => some (.movtas x (ireg w 22))
  | 3 => some (.movfa x (ireg w 26) (iflag w 0))
  | 4 => some (.ext x (ireg w 26) (BitVec.ofNat 8 (ib w 7 0)) (iflag w 8) (iflag w 10))
  | _ => none

/-- The instruction an engine reads from 36 bits; `lit` is the other slot of the word, an L-format's literal. An
encoding that no rule defines is `none`: it traps as ILLEGAL (R165, R199). -/
def YOp.decode (w lit : BitVec 36) : Option YOp :=
  let d := ireg w 26
  let a := ireg w 22
  let b := ireg w 18
  let imm := BitVec.ofNat 22 (ib w 21 0)
  match ib w 35 30 with
  | 0x00 => decodeSys w
  | 0x01 => some (.mov d a)
  | 0x02 => some (.movi d imm)
  | 0x03 => some (.movl d (iflag w 0) (iflag w 1) lit)
  | 0x04 => decodeAlu w
  | 0x05 => some (.immOp .addi d a imm)
  | 0x06 => some (.immOp .andi d a imm)
  | 0x07 => some (.immOp .ori d a imm)
  | 0x08 => some (.immOp .xori d a imm)
  | 0x09 => some (.immOp .cmpi d a imm)
  | 0x0A => some (.extr d a (BitVec.ofNat 7 (ib w 6 0)) (BitVec.ofNat 7 (ib w 13 7)) (iflag w 14))
  | 0x0B => some (.ins d a (BitVec.ofNat 7 (ib w 6 0)) (BitVec.ofNat 7 (ib w 13 7)))
  | 0x10 => some (.ld d a imm)
  | 0x11 => some (.ldh d a (BitVec.ofNat 20 (ib w 21 2)) (iflag w 1) (iflag w 0))
  | 0x12 => some (.st d a imm)
  | 0x13 => some (.sth d a (BitVec.ofNat 20 (ib w 21 2)) (iflag w 0))
  | 0x18 => decodeAcc w
  | 0x19 => some (.mul (iflag w 13) a b (BitVec.ofNat 2 (ib w 12 11)))
  | 0x1A => some (.mac (iflag w 13) a b (BitVec.ofNat 2 (ib w 12 11)) (iflag w 10))
  | 0x1B => some (.div d a b (BitVec.ofNat 7 (ib w 6 0)) (iflag w 7) (iflag w 8))
  | 0x1C => some (.recip d a (BitVec.ofNat 8 (ib w 7 0)))
  | 0x1D => some (.poly d a b (BitVec.ofNat 8 (ib w 7 0)))
  | 0x1E => some (.interp d a b)
  | 0x20 => some (.br (BitVec.ofNat 4 (ib w 29 26)) (iflag w 25) (BitVec.ofNat 21 (ib w 20 0)))
  | 0x21 => some (.brr (BitVec.ofNat 4 (ib w 29 26)) (iflag w 0) a)
  | 0x22 => some (.loop a (BitVec.ofNat 10 (ib w 9 0)))
  | 0x23 => some (.loopi (BitVec.ofNat 12 (ib w 21 10)) (BitVec.ofNat 10 (ib w 9 0)))
  | 0x28 => some (.claim d a)
  | 0x29 => some (.give d a b (BitVec.ofNat 4 (ib w 3 0)) (iflag w 4) (iflag w 5))
  | 0x2A => some (.testown d a)
  | 0x2C => some (.waitev d a)
  | 0x2D => some (.signal (BitVec.ofNat 3 (ib w 2 0)))
  | 0x2E => some (.arm (BitVec.ofNat 5 (ib w 12 8)) (BitVec.ofNat 6 (ib w 5 0)) (iflag w 13))
  | 0x30 => some (.shot d a)
  | 0x31 => some (.conv d a)
  | 0x38 => some (.svc (BitVec.ofNat 8 (ib w 7 0)))
  | 0x39 => some (.trap (BitVec.ofNat 16 (ib w 15 0)))
  | 0x3A => some (.mark a (BitVec.ofNat 16 (ib w 15 0)))
  | _ => none

end Sys2Proof.Machine
end

