-- ==== Sys2Proof/Machine/Trace.lean ====
section
/-!
DEFINITION. The trace unit, the engines' run states, trap records and the Sleeves' access checks
(spec/06_programming_model.md R170 to R197).
-/
namespace Sys2Proof.Machine

/-! ## Trace -/

/-- A trace record (R195). -/
def traceWord (kind eng payload : Nat) : Word := Word.ofN (kind * 2 ^ 68 + eng * 2 ^ 66 + payload % 2 ^ 64)

/-- Write a record into the ring at WPTR; a full ring does as MODE says (R195, R197). -/
def Dev.traceWrite (d : Dev) (w : Word) : Dev :=
  if d.traceN ≥ 1024 && d.flag F.DBG_TRCFG_MODE then (d.bump F.DBG_TRSTAT_LOST).put F.DBG_TRSTAT_STOPPED 1
  else
    let p := d.get F.DBG_TRSTAT_WPTR
    let d1 := (d.store (0x1BC00 + p) w).put F.DBG_TRSTAT_WPTR (p + 1)
    if d.traceN ≥ 1024 then (d1.bump F.DBG_TRSTAT_LOST).put F.DBG_TRSTAT_RPTR (d.get F.DBG_TRSTAT_RPTR + 1)
    else d1.onTraceN (fun n => n + 1)

/-- With STREAM the records from RPTR onward are sent while no debug transaction is in progress and the chip is awake (R196, R197; log 12). -/
def Dev.stream (d : Dev) : Dev :=
  if d.flag F.DBG_TRCFG_STREAM && !d.asleep && !d.dport.open_ && d.traceN != 0 && !d.pads.lost && !d.held.contains (19, 0) then
    (d.put F.DBG_TRSTAT_RPTR (d.get F.DBG_TRSTAT_WPTR)).onTraceN (fun _ => 0)
  else d

/-- Trace one event: nothing with EN = 0; a record that falls due in sleep waits for FLOOD (R195, R196). Neither clearing nor setting EN moves WPTR,
RPTR or the count of records that the ring holds (DESIGN CHOICE: R195 does not say, log 118). -/
def Dev.trace (d : Dev) (kind eng payload : Nat) : Dev :=
  if !d.flag F.DBG_TRCFG_EN then d
  else if d.asleep then d.onTraceHeld (fun l => l ++ [traceWord kind eng payload])
  else d.traceWrite (traceWord kind eng payload)

/-- Write every record that fell due in sleep (R196). -/
def Dev.traceFlush (d : Dev) : Dev :=
  d.traceHeld.foldl (fun d w => d.traceWrite w) (d.onTraceHeld (fun _ => []))

/-! ## Engines -/

/-- An engine's programming state. -/
def Dev.eng (d : Dev) : Eng → EngState
  | .collar => d.engC
  | .left => d.engL
  | .right => d.engR

/-- Change an engine's programming state. -/
def Dev.onEng (d : Dev) (e : Eng) (f : EngState → EngState) : Dev :=
  match e with
  | .collar => d.onEngC f
  | .left => d.onEngL f
  | .right => d.onEngR f

/-! Run states (DBG_STAT). -/
namespace Run
abbrev notStarted : Nat := 0
abbrev running : Nat := 1
abbrev waiting : Nat := 2
abbrev halted : Nat := 3
abbrev trapped : Nat := 4
abbrev stopped : Nat := 5
end Run

/-- An engine's run state: DBG_STAT for the Sleeves. -/
def Dev.runOf (d : Dev) : Eng → Nat
  | .collar => d.collarRun
  | .left => d.get F.DBG_STAT_STATEL
  | .right => d.get F.DBG_STAT_STATER

/-- A halt of a Sleeve that begins or ends freezes or frees bus channels, stopped for sleep or not (R152). -/
def Dev.haltMark (d : Dev) (e : Eng) (r : Nat) : Dev := if (d.runOf e == Run.halted) != (r == Run.halted) then d.busMark else d

/-- Set an engine's run state. -/
def Dev.setRun (d : Dev) (e : Eng) (r : Nat) : Dev :=
  match e with
  | .collar => d.onCollarRun (fun _ => r)
  | .left => (d.haltMark .left r).put F.DBG_STAT_STATEL r
  | .right => (d.haltMark .right r).put F.DBG_STAT_STATER r

/-- The halt request of the debug port for a Sleeve (R193). -/
def Dev.haltBit (d : Dev) : Eng → Bool
  | .collar => false
  | .left => d.flag F.DBG_CTL_HALTL
  | .right => d.flag F.DBG_CTL_HALTR

/-- After an instruction completes, a Sleeve runs on or halts (R193); the halt raises DBG (R289). -/
def Dev.goOn (d : Dev) (e : Eng) : Dev := if d.haltBit e then (d.setRun e Run.halted).raise Ev.dbg else d.setRun e Run.running

/-- The other Sleeve. -/
def Eng.twin : Eng → Eng
  | .left => .right
  | .right => .left
  | .collar => .collar

/-- ENG code of trace and trap records (R195, COLLAR_FAULT0). -/
def Eng.code : Eng → Nat
  | .collar => 0
  | .left => 1
  | .right => 2

/-- The owner code of an engine toward the Seam (R187, R220). -/
def Dev.me (d : Dev) : Eng → Nat
  | .collar => Own.collar
  | .left => Own.sleeveL
  | .right => if d.paired then Own.sleeveL else Own.sleeveR

/-- The engine whose task inputs an engine uses (R226, R291). -/
def Dev.inputsOf (d : Dev) (e : Eng) : Eng := if e = .right && d.paired then .left else e

/-- The pending counts, OVF flags and first routing register of an engine's inputs. -/
def pendReg : Eng → Nat
  | .collar => F.EVT_PENDC
  | .left => F.EVT_PENDL
  | .right => F.EVT_PENDR
def ovfReg : Eng → Nat
  | .collar => F.EVT_OVFC
  | .left => F.EVT_OVFL
  | .right => F.EVT_OVFR
def routeReg (e : Eng) (i : Nat) : Nat :=
  match e with
  | .collar => F.EVT_RTC i
  | .left => F.EVT_RTL i
  | .right => F.EVT_RTR i

/-- The number of task inputs of an engine. -/
def inputsN : Eng → Nat
  | .collar => 16
  | _ => 32

/-- The pending count of input `i`. -/
def Dev.pendCount (d : Dev) (e : Eng) (i : Nat) : Nat := bitsOf (d.reg (pendReg e)) (2 * i + 1) (2 * i)

/-- The lowest-numbered input of `mask` with a pending count (R189). -/
def Dev.firstPending (d : Dev) (e : Eng) (mask : Nat) : Option Nat :=
  (List.range (inputsN e)).find? (fun i => (mask >>> i) % 2 == 1 && d.pendCount e i != 0)

/-- Any input has a pending count (R190). -/
def Dev.anyPending (d : Dev) (e : Eng) : Bool := (d.reg (pendReg e)) != 0

/-- Consume one count of input `i` (R189). -/
def Dev.consume (d : Dev) (e : Eng) (i : Nat) : Dev :=
  d.setReg (pendReg e) (withBits (d.reg (pendReg e)) (2 * i + 1) (2 * i) (d.pendCount e i - 1))

/-- What WAITEV returns: the input and its OVF flag (R224). -/
def Dev.waitevWord (d : Dev) (e : Eng) (i : Nat) : Word := Word.ofN (i + 256 * bitsOf (d.reg (ovfReg e)) i i)

/-! ## Where an engine may go -/

/-- The first word of the image an engine sees at 0x9_0000 (R175, R264): A or B. -/
def Dev.imageBase (d : Dev) (e : Eng) : Nat :=
  if (if e = .right then d.flag F.COLLAR_IMG_ACTR else d.flag F.COLLAR_IMG_ACTL) then 0xB0000 else 0x90000

/-- The physical word of an engine's address: a Sleeve's active image, and the halves of PAIRED (R184, R536). -/
def Dev.physical (d : Dev) (e : Eng) (a : Nat) : Nat :=
  if e = .collar then a
  else if 0x90000 ≤ a && a < 0xB0000 then d.imageBase e + (a - 0x90000)
  else if d.paired && e = .right && 0x10000 ≤ a && a < 0x16000 then a + 0x6000
  else a

/-- An instruction address inside an engine's fetch sources (R159, R175). -/
def fetchSource (e : Eng) (a : Nat) : Bool :=
  if e = .collar then a < 0x2000 || (0x80000 ≤ a && a < 0x88000) else 0x90000 ≤ a && a < 0xB0000

/-- General SRAM. -/
def isGeneral (a : Nat) : Bool := 0x10000 ≤ a && a < 0x1C000

/-- Register space (R538). -/
def isRegSpace (a : Nat) : Bool := 0x4000 ≤ a && a < 0x10000

/-- Region-table entry `i` of a Sleeve. -/
def regionReg (e : Eng) (i : Nat) : Nat := if e = .right then F.SYS_RGNR i else F.SYS_RGNL i

/-- An entry covers granule `g` with the permission bit `perm` (R172). -/
def covers (w : Word) (g perm : Nat) : Bool :=
  bitsOf w 35 35 == 1 && bitsOf w perm perm == 1 && bitsOf w 9 0 ≤ g && g ≤ bitsOf w 29 20

/-- A Sleeve's table permits the access to a general SRAM word (R173). -/
def Dev.regionPermits (d : Dev) (e : Eng) (a perm : Nat) : Bool :=
  (List.range 8).any (fun i => covers (d.reg (regionReg e i)) ((a - 0x10000) / 64) perm)

/-- The words the trace ring takes from the Sleeves (R176, R184). -/
def Dev.traceTakes (d : Dev) (a : Nat) : Bool :=
  d.flag F.DBG_TRCFG_EN && if d.paired then 0x15C00 ≤ a && a < 0x16000 else 0x1BC00 ≤ a && a < 0x1C000

/-- General SRAM a Sleeve may load (`perm` 33) or store (`perm` 34) (R173, R176, R184). -/
def Dev.generalOk (d : Dev) (e : Eng) (a perm : Nat) : Bool :=
  !d.traceTakes a && !(d.paired && 0x16000 ≤ a) && d.regionPermits e a perm

/-- A load that R16, R173, R176 and R273 allow an engine (R177 PROT_LOAD otherwise). -/
def Dev.mayLoad (d : Dev) (e : Eng) (a : Nat) : Bool :=
  match e with
  | .collar => memExists a || isRegSpace a
  | e =>
    if isRegSpace a then true
    else if isGeneral a then d.generalOk e a 33
    else if isSeam a then d.mayRead (d.me e) (blockOf a)
    else (0x90000 ≤ a && a < 0xB0000) || (0xD0000 ≤ a && a < 0x100000)

/-- A store that R16, R173 and R176 allow an engine (R177 PROT_STORE otherwise); a Seam store never traps (R169). -/
def Dev.mayStore (d : Dev) (e : Eng) (a : Nat) : Bool :=
  match e with
  | .collar => memExists a && !(a < 0x2000) || isRegSpace a
  | e => isRegSpace a || isSeam a || (isGeneral a && d.generalOk e a 34)

/-- An address outside a Sleeve's half of general SRAM and its active image: a rendezvous in PAIRED (R186). -/
def outsideHalf (a : Nat) : Bool := !((0x10000 ≤ a && a < 0x16000) || (0x90000 ≤ a && a < 0xB0000))

/-- The Collar's blocks of memory for BIST_ECC's counts (spec/16_selftest_and_failover.md R508). -/
def eccField (a : Nat) : Fld :=
  if a < 0x4000 then F.BIST_ECC_COLLAR else if isSeam a then F.BIST_ECC_SEAM
  else if isGeneral a then F.BIST_ECC_GEN else F.BIST_ECC_NV

end Sys2Proof.Machine
end

