-- ==== Sys2Proof/Machine/Quiesce.lean ====
section
/-!
DEFINITION. The quiesce handshake (spec/09_seam_and_events.md R283 to R286; spec/13_loop_and_host.md R403;
spec/16_selftest_and_failover.md R497). A target is a block index with a unit; `Dev.held` lists the targets that accept
nothing.
-/
namespace Sys2Proof.Machine

/-- A target that SEAM_QCTL takes (R286): a block 1 to 19 but TIDE, EVT and SEAM, or a Sleeve. -/
def quiesceOk (t : Nat) : Bool := (1 ≤ t && t ≤ 19 && t != 3 && t != 5 && t != 6) || t == 24 || t == 25

/-- The unit as the target has units (SEAM_QCTL.UNIT). -/
def unitOf (t u : Nat) : Nat := if t = 7 then u % 2 else if t = 8 || t = 9 then u % 4 else 0

/-- The bits of register `a` that belong to a target alone (R285, R497): all of a block's registers; of a pair the unit's own. -/
def unitMask (t u a : Nat) : Word :=
  let all : Word := BitVec.allOnes 72
  if t = 7 then (if 0x5C00 + 0x100 * u ≤ a && a < 0x5D00 + 0x100 * u then all else 0)
  else if t = 8 then (if [F.USF_PATH_CFG u, F.USF_PATH_TIME u, F.USF_AGC u, F.USF_CAP u, F.USF_ZOFS u].contains a then all else 0)
  else if t = 9 then
    (if a != F.ADC_STAT then 0 else if u = 0 then maskOf 5 4 else if u = 1 then maskOf 7 6 else maskOf (10 + u) (10 + u))
  else if t ≤ 19 then (if a / 0x400 = 0x10 + t then all else 0)
  else 0

/-- The bits of a held target that show that it is held: they read as they stand (SEAM_QSTAT apart, ADC_STAT.STATEA, STATEB,
EXCLOST and TDCu_STAT.HELD; the example of R512; log 22). -/
def heldShow (a : Nat) : Word :=
  if a = F.ADC_STAT then BitVec.allOnes 72 else if a = F.TDC_STAT 0 || a = F.TDC_STAT 1 then maskOf 3 3 else 0

/-- The bits of register `a` whose target is held: writes to them are ignored (R285). -/
def Dev.heldMask (d : Dev) (a : Nat) : Word :=
  d.held.foldl (fun m h => if d.quiesce.now = some h then m else m ||| unitMask h.1 h.2 a) 0


/-- A block that stands with LOOP as a request when LOOP is quiesced: to the owner that gave it, with FULL = 1 and BLOCK_RESET, and LOOP_TX
(R283 step 3, R403). -/
def Dev.loopBlocksBack (d : Dev) (g : Nat × Nat) : Dev := (d.giveBack g.1 g.2 8 Own.loop 0).raise Ev.loopTx

/-- What is left of the loop link's work is told the master after release (R403): orders held and reads queued are discarded,
their command codes kept, up to eight. The blocks given to LOOP return. -/
def Dev.loopQuiesce (d : Dev) : Dev :=
  let d := (d.loop.given.foldl Dev.loopBlocksBack d).onLoop (fun l => { l with given := [] })
  let orders := (d.heldOrders.filter (fun h => h.master == Master.loop)).map (·.cmd)
  let queued := (d.loop.sending.toList ++ d.loop.resend.toList ++ d.loop.queue).map (·.cmd)
  let app := d.loop.app.map (·.1)
  let codes := (d.loop.discards ++ queued ++ app ++ orders).take 8
  (d.onHeldOrders (fun l => l.filter (fun h => h.master != Master.loop))).onLoop
    (fun l => { l with discards := codes, queue := [], sending := none, resend := none, app := [], frame := [] })

/-- After release each discarded request is answered BLOCK_RESET, before any other reply (R403). -/
def Dev.loopRelease (d : Dev) : Dev :=
  let rs : List LReply := d.loop.discards.map (fun c => ⟨c, 8, [], false, 0, none⟩)
  d.onLoop (fun l => { l with queue := rs ++ l.queue, discards := [] })

/-- A Sleeve is block-reset: its programming state is that of R182, it is stopped, its pending service calls go (R36, R283). -/
def Dev.sleeveReset (d : Dev) (right : Bool) : Dev :=
  let e := if right then Eng.right else Eng.left
  ((d.onEng e (fun _ => EngState.init 0)).setRun e Run.stopped).onCol
    (fun c => { c with svcQ := c.svcQ.filter (fun q => q.who != Caller.sleeve right) })

/-- CLK is quiesced: an open or settling window is abandoned, the converters resume, waiting requests go. The end of an open window is the end
that the deferred fields of TDC and USF wait for (R10, R313). -/
def Dev.windowDrop (d : Dev) : Dev :=
  let was := d.flag F.CLK_SLKSTAT_OPEN
  let d := if was then ((d.tdcClose 0).tdcClose 1).usfClose.applyPendIn windowRegs else d
  let d := if was || d.slack.opening.isSome then
      (((d.put F.CLK_SLKSTAT_OPEN 0).put F.CLK_STAT_SLACK 0).put F.PWR_STAT_SLACK 0).put F.PWR_STAT_SRC d.sup.savedSrc
    else d
  d.onSlack (fun s => { s with waiting := [], poolWait := [], opening := none })

/-- LBL is quiesced: the SPI write in progress runs to its end, each other request completes, with LBL_DONE for it; a block of the Collar's goes back
with BLOCK_RESET. -/
def Dev.labelDrop (d : Dev) : Dev :=
  let d := d.label.blocks.foldl (fun d b => (d.giveBack b Own.collar 8 Own.label 0).raise Ev.lblDone) d
  (d.raiseN Ev.lblDone (d.label.jobs.length - 1)).onLabel (fun l => { l with jobs := l.jobs.take 1, blocks := [], zeroDue := false })

/-- DBG is re-initialised: no Sleeve is held halted any more, the trace ring is empty, the port idles. -/
def Dev.debugInit (d : Dev) : Dev :=
  let go (d : Dev) (e : Eng) : Dev := if d.runOf e == Run.halted then d.setRun e Run.running else d
  (((go (go d .left) .right).onTraceN (fun _ => 0)).onTraceHeld (fun _ => [])).onDport (fun _ => Port.init)

/-- Steps 2 to 4 of R283 for one target: work is abandoned, requests complete with BLOCK_RESET. -/
def Dev.quiesceWork (d : Dev) (t u : Nat) : Dev :=
  if t = 7 then d.tdcQuiesce u
  else if t = 8 then d.usfQuiesce u
  else if t = 9 then (if u < 2 then d.adcQuiesce u else d.excQuiesce (u - 2))
  else if t = 2 then d.windowDrop
  else if t = 4 then d.onLinks (fun _ => [])
  else if t = 12 then d.loopQuiesce
  else if t = 14 || t = 15 then d.radioQuiesce (t == 15)
  else if t = 17 then d.labelDrop
  else if t = 18 then d.onBist (fun b => { b with run := none, runSpan := none, cmd := none })
  else if t = 24 then d.sleeveReset false
  else if t = 25 then d.sleeveReset true
  else d

/-- The owner code whose remaining blocks revert in step 5. A unit of a pair or a path holds blocks through its requests alone (R284); what else its
code owns reverts once no unit of it is left. -/
def Dev.ownerOf (d : Dev) (t u : Nat) : Option Nat :=
  let last (n own : Nat) : Option Nat := if (List.range n).all (fun v => v == u || d.held.contains (t, v)) then some own else none
  match t with
  | 7 => last 2 Own.tdc
  | 8 => last 4 Own.usf
  | 9 => if u < 2 then last 2 Own.adc else none
  | 12 => some Own.loop
  | 13 => some Own.host
  | 14 => some Own.radio
  | 15 => some Own.radio
  | 17 => some Own.label
  | 24 => some Own.sleeveL
  | 25 => some Own.sleeveR
  | _ => none

/-- The requests outstanding to a target (SEAM_QSTAT.NREQ). -/
def Dev.requestsOf (d : Dev) (t u : Nat) : Nat :=
  if t = 7 then (d.tdc u).queue.length
  else if t = 8 then (d.usf.queue.filter (fun r => r.path == u)).length
  else if t = 9 then (if u < 2 then (d.adc.queue.filter (fun r => r.unit == u)).length else 0)
  else if t = 2 then d.slack.waiting.length + d.slack.poolWait.length + d.slack.opening.toList.length
  else if t = 12 then d.loop.queue.length + d.loop.sending.toList.length + d.heldOrders.length
  else if t = 14 || t = 15 then d.radio.ord.length
  else if t = 17 then d.label.jobs.length - 1
  else 0

/-- All the blocks. -/
def blocks : List Nat := List.range 256

/-- Step 5: every block the target still owns reverts. -/
def Dev.revertAll (d : Dev) (own : Nat) : Dev := blocks.foldl (fun d b => if d.owner b = own then d.revertBlock b else d) d

/-- Steps 2 to 6 of R283 for a target that accepts nothing any more. -/
def Dev.quiesceSteps (d : Dev) (t u : Nat) : Dev :=
  let nreq := d.requestsOf t u
  let d1 := d.quiesceWork t u
  let nrev := match d.ownerOf t u with
    | some o => (blocks.filter (fun b => d1.owner b == o)).length
    | none => 0
  let d2 := match d.ownerOf t u with
    | some o => d1.revertAll o
    | none => d1
  let d3 := ((d2.put F.SEAM_QSTAT_LASTTGT (u * 32 + t)).put F.SEAM_QSTAT_NREQ (satTo 255 nreq)).put F.SEAM_QSTAT_NREV (satTo 255 nrev)
  ((d3.put F.SEAM_QSTAT_HELD 1).put F.SEAM_QSTAT_DONE 1).raise Ev.quiesced

/-- A target accepts no new request from now on (step 1). -/
def Dev.holdTarget (d : Dev) (t u : Nat) : Dev := d.onHeld (fun l => if l.contains (t, u) then l else l ++ [(t, u)])

/-- QUIESCE_REQUEST: a new quiesce starts, or waits for the one in progress (R283, R286). -/
def Dev.quiesceRequest (d : Dev) (t u : Nat) : Dev :=
  let u := unitOf t u
  if !quiesceOk t || d.held.contains (t, u) then d
  else if d.quiesce.now.isSome then d.onQuiesce (fun q => { q with wait := q.wait ++ [(t, u)] })
  else
    let d := (d.holdTarget t u).onQuiesce (fun q => { q with now := some (t, u) })
    ((d.put F.SEAM_QSTAT_LASTTGT (u * 32 + t)).put F.SEAM_QSTAT_BUSY 1).put F.SEAM_QSTAT_HELD 0

/-- The oldest waiting quiesce starts (R286); one whose target is held by now is none. -/
def Dev.quiesceNext (d : Dev) : Dev :=
  match d.quiesce.wait.dropWhile (fun r => d.held.contains r) with
  | [] => d.onQuiesce (fun q => { q with wait := [] })
  | r :: rs => (d.onQuiesce (fun q => { q with wait := rs })).quiesceRequest r.1 r.2

/-- QUIESCE_COMPLETE: steps 2 to 6 of the quiesce in progress (R283). A quiesce of a Sleeve is a Sleeve fault (R91, R246). -/
def Dev.quiesceComplete (d : Dev) : Dev :=
  match d.quiesce.now with
  | none => d
  | some (t, u) =>
    let d1 := ((d.quiesceSteps t u).onQuiesce (fun q => { q with now := none })).put F.SEAM_QSTAT_BUSY 0
    let d2 := if t = 24 || t = 25 then d1.onCol (fun c => { c with faultDue := c.faultDue ++ [t - 23] }) else d1
    d2.quiesceNext

/-- Up to `n` quiesces that are in progress or wait run to their step 6. -/
def Dev.quiesceDrain : Nat → Dev → Dev
  | 0, d => d
  | n + 1, d => if d.quiesce.now.isSome then Dev.quiesceDrain n d.quiesceComplete else d

/-- All of steps 1 to 6 at once, as the Collar and the BIST controller quiesce a unit they isolate or fail: after the quiesce in progress and those
that wait (R286). -/
def Dev.quiesceNow (d : Dev) (t u : Nat) : Dev :=
  let d := Dev.quiesceDrain (d.quiesce.wait.length + 1) d
  if d.held.contains (t, u) then d else (d.quiesceSteps t u).holdTarget t u

/-- The parts of a target beyond its registers at their first values (step 7). -/
def Dev.reinitHidden (d : Dev) (t u : Nat) : Dev :=
  if t = 2 then (d.onClk (fun _ => Clock.init)).onSlack (fun _ => Slack.init)
  else if t = 4 then (d.onTmr (fun _ => [])).onSeqPrev (fun _ => none)
  else if t = 8 then d.loadOffset u
  else if t = 12 then d.loopRelease
  else if t = 14 || t = 15 then d.radioRelease (t == 15)
  else if t = 13 then d.onPort (fun _ => Port.init)
  else if t = 19 then d.debugInit
  else if t = 24 then d.setRun .left Run.notStarted
  else if t = 25 then d.setRun .right Run.notStarted
  else d

/-- The registers of a block that the map lists. -/
def blockRegs (t : Nat) : List Nat :=
  (regRows t).flatMap (fun r => (List.range r.count).map (fun i => r.base + r.stride * i))

/-- Step 7: the target's registers are at their reset values, pending values gone, and it is no longer held. DBG_STAT shows the Sleeves, which are
targets of their own, and stands. -/
def Dev.releaseTarget (d : Dev) (t u : Nat) : Dev :=
  let d1 := (blockRegs t).foldl (fun d a =>
    let m := unitMask t u a
    if m = 0 || a = F.DBG_STAT then d else d.setReg a (mergeMask (d.reg a) m (resetWord a))) d
  let d2 := d1.onShadow (fun s => s.filter (fun e => unitMask t u e.1 == 0))
  let d3 := (d2.onHeld (fun l => l.filter (fun h => h != (t, u)))).reinitHidden t u
  ((d3.put F.SEAM_QSTAT_HELD 0).put F.SEAM_QSTAT_DONE 1).raise Ev.quiesced

/-- QUIESCE_RELEASE: a held target is released (R283 step 7). -/
def Dev.quiesceRelease (d : Dev) (t u : Nat) : Dev :=
  let u := unitOf t u
  if d.held.contains (t, u) && d.quiesce.now != some (t, u) then d.releaseTarget t u else d

end Sys2Proof.Machine
end

