-- ==== Sys2Proof/Machine/Images.lean ====
section
/-!
DEFINITION. The sealed part and its seal, and the application images (spec/08_collar.md R232 to R234, R258, R264 to R268).
-/
namespace Sys2Proof.Machine

/-! ## The sealed part -/

/-- A digest of 32 bytes as four words of 64 bits, most significant first (R99, R264). -/
def hashWords (h : List Nat) : List Word := (List.range 4).map (fun i => Word.ofN (bytesNat ((h.drop (8 * i)).take 8)))

/-- Words as bytes, nine each, most significant first (R260; taken for every hash of whole words, log 23). -/
def wordsBytes (ws : List Word) : List Nat := ws.flatMap wordBytes

/-- The sealed part (R232). -/
def Dev.sealedPart (d : Dev) : List Word := d.loadAll 0x80000 0x7000

/-- The seal's first word (R232). -/
abbrev sealAddr : Nat := 0x87FF0

/-- The sealed part hashes to the seal reference (R78, R233; the seal's layout: log 23). -/
def Dev.sealMatches (d : Dev) : Bool :=
  decide (d.loadAll sealAddr 4 = hashWords (sha256 (wordsBytes d.sealedPart))) && !d.badIn 0x80000 0x7000

/-- The seal's HMAC verifies under the record key (R232, R233). -/
def Dev.sealMacOk (d : Dev) : Bool := decide (d.loadAll (sealAddr + 14) 2 = mac128 (d.keyAt 0).key (d.loadAll sealAddr 14))

/-- The trusted image version in the seal. -/
def Dev.sealVersion (d : Dev) : Nat := bitsOf (d.load (sealAddr + 4)) 31 0

/-- Write the seal over the sealed part as it stands, with a version, its HMAC last (R97, R232, R258). -/
def Dev.writeSeal (d : Dev) (version : Nat) : Dev :=
  let ws := hashWords (sha256 (wordsBytes d.sealedPart)) ++ [Word.ofN version] ++ List.replicate 9 0
  (d.storeAll sealAddr ws).storeAll (sealAddr + 14) (mac128 (d.keyAt 0).key ws)

/-- The identification checksum (R234). -/
def Dev.idsum (d : Dev) : Nat :=
  bytesNat ((sha256 (wordsBytes ((List.range 0x2000).map Config.rom ++ d.sealedPart))).take 4)

/-- The ROM's hash of the root key agrees with Pocket slot 1 (R233). -/
def Dev.rootOk (d : Dev) : Bool := decide (Config.rootHash = sha256 (d.keyAt 1).key)

/-- The Collar's private SRAM passes item 1: it has not failed and holds no uncorrectable word (R254, R505; log 26). -/
def Dev.sramSound (d : Dev) : Bool := !d.bit F.BIST_DEGR_FAILED 1 && !d.badIn 0x2000 0x2000

/-! ## Application images -/

/-- The first word of image A (false) or B (true). -/
def imgBase (b : Bool) : Nat := if b then 0xB0000 else 0x90000

/-- Word `k` of an image's header. -/
def Dev.imgWord (d : Dev) (b : Bool) (k : Nat) : Word := d.load (imgBase b + k)

def Dev.imgVersion (d : Dev) (b : Bool) : Nat := bitsOf (d.imgWord b 0) 31 0
/-- The checkpoint format of an image's channel programs (R264). -/
def Dev.imgCkfmt (d : Dev) (b : Bool) : Nat := bitsOf (d.imgWord b 0) 47 32

def Dev.imgEntry (d : Dev) (b : Bool) : BitVec 21 := BitVec.ofNat 21 (bitsOf (d.imgWord b 2) 20 0)

/-- An image's declared length in words (R264), no further than its region. -/
def Dev.imgLen (d : Dev) (b : Bool) : Nat := min 0x20000 (bitsOf (d.imgWord b 1) 19 0)

/-- SHA-256 of words 16 to the end (R264). -/
def Dev.imgHash (d : Dev) (b : Bool) : List Nat := sha256 (wordsBytes (d.loadAll (imgBase b + 16) (d.imgLen b - 16)))

/-- Eight-byte values of header words. -/
def Dev.imgBytes (d : Dev) (b : Bool) (k n : Nat) : List Nat :=
  (d.loadAll (imgBase b + k) n).flatMap (fun w => natBytes 8 (w.toNat % 2 ^ 64))

/-- The first check of R83 and R265 that an image fails: 1 its header, 2 its hash, 3 its signature under slot 2, 4 TRVER,
5 VERSION below the floor (the last two are IMG_VERIFY's). None: it verifies. The numbers of the checks are open (log 6). -/
def Dev.imgFails (d : Dev) (b full : Bool) : Option Nat :=
  let head := d.loadAll (imgBase b) 8
  if bitsOf (d.imgWord b 0) 71 48 != 0x1A6E01 || d.badIn (imgBase b) (d.imgLen b) then some 1
  else if d.loadAll (imgBase b + 4) 4 != hashWords (d.imgHash b) then some 2
  else if !d.keyUsable 2 2 || !Config.ecdsaOk (d.keyAt 2).key (sha256 (wordsBytes head)) (d.imgBytes b 8 8) then some 3
  else if full && decide (d.get F.COLLAR_ID_TRVER < bitsOf (d.imgWord b 3) 15 0) then some 4
  else if full && decide (d.imgVersion b < (d.param (0x800 + Config.imageFloorAt % 0x800)).toNat) then some 5
  else none

/-- Set or clear an image's VAL bit. -/
def Dev.setVal (d : Dev) (b v : Bool) : Dev := d.putB (if b then F.COLLAR_IMG_VALB else F.COLLAR_IMG_VALA) v

/-- Set or clear an image's REJ bit (R267). -/
def Dev.setRej (d : Dev) (b v : Bool) : Dev := d.putB (if b then F.COLLAR_IMG_REJB else F.COLLAR_IMG_REJA) v

def Dev.imgVal (d : Dev) (b : Bool) : Bool := d.flag (if b then F.COLLAR_IMG_VALB else F.COLLAR_IMG_VALA)
def Dev.imgRej (d : Dev) (b : Bool) : Bool := d.flag (if b then F.COLLAR_IMG_REJB else F.COLLAR_IMG_REJA)

/-- The active image of a Sleeve. -/
def Dev.activeOf (d : Dev) (right : Bool) : Bool := d.flag (if right then F.COLLAR_IMG_ACTR else F.COLLAR_IMG_ACTL)

/-- Make an image a Sleeve's active one; VERSION shows the Left Sleeve's, which is marked active for the next start, and whose hash the clean shutdown
record carries (R83, R99). -/
def Dev.setActive (d : Dev) (right b : Bool) : Dev :=
  if right then d.putB F.COLLAR_IMG_ACTR b
  else
    let h := d.imgHash b
    ((d.putB F.COLLAR_IMG_ACTL b).put F.COLLAR_IMG_VERSION (d.imgVersion b)).onCol (fun c => { c with marked := b, imgHash := h })

/-- A record of an image: A: image, VERSION; B: hash, leftmost 40 bits (R262). -/
def Dev.imgNote (d : Dev) (ty : Nat) (b : Bool) : Dev :=
  d.log ⟨ty, 15, 127, Config.payload ty 0 [b.toNat, d.imgVersion b], bytesNat ((d.imgHash b).take 5), []⟩

/-- A record of a trusted image: A: image 2, VERSION; B: hash, leftmost 40 bits (R262, R268). -/
def Dev.trustedNote (d : Dev) (ty v : Nat) (ws : List Word) : Dev :=
  d.log ⟨ty, 15, 127, Config.payload ty 0 [2, v], bytesNat ((sha256 (wordsBytes ws)).take 5), []⟩

/-- IMAGE_INVALID: A: image, failing check. -/
def Dev.imgInvalid (d : Dev) (b : Bool) (check : Nat) : Dev := (d.setVal b false).noteVals 0x40 127 [b.toNat, check]

/-- The image an update session writes: the one that is not active on the Left Sleeve (R265). -/
def Dev.inactive (d : Dev) : Bool := !d.activeOf false

end Sys2Proof.Machine
end

