-- ==== Sys2Proof/Machine/Modes.lean ====
section
/-!
DEFINITION. Mode changes and the entry into HOLD (spec/02_power_and_modes.md R27, R56 to R62; spec/08_collar.md R254).
-/
namespace Sys2Proof.Machine

/-! Causes of R64. -/
namespace Cause
abbrev stage3 : Nat := 0x01
abbrev short : Nat := 0x02
abbrev poolLow : Nat := 0x03
abbrev restored : Nat := 0x04
abbrev loopLost : Nat := 0x05
abbrev loopBack : Nat := 0x06
abbrev sealOpen : Nat := 0x07
abbrev sealClosed : Nat := 0x08
abbrev foreignLabel : Nat := 0x09
abbrev adopted : Nat := 0x0A
abbrev refusedLabel : Nat := 0x0B
abbrev abandoned : Nat := 0x0C
abbrev recheck : Nat := 0x0D
abbrev sleeves : Nat := 0x10
abbrev tdcPair : Nat := 0x11
abbrev adcPair : Nat := 0x12
abbrev excPair : Nat := 0x13
abbrev trusted : Nat := 0x14
end Cause

/-- The mode code of SYS_MODE. -/
def Dev.mode (d : Dev) : Nat := d.get F.SYS_MODE_MODE

/-- MODE_CHANGE: SYS_MODE, the record and the MODE cause on HIRQ (R56, R64, R416). A zero-flow learning run ends with SERVICE (R327). -/
def Dev.changeMode (d : Dev) (new base cause : Nat) : Dev :=
  let old := d.mode
  let d := ((((d.put F.SYS_MODE_PREV old).put F.SYS_MODE_MODE new).put F.SYS_MODE_BASE base).put F.SYS_MODE_CAUSE cause).bump
    F.SYS_MODE_TRANS
  let d := (d.noteVals 0x10 127 [old, new, cause]).irq Irq.mode
  if old = 5 && new != 5 then d.zeroAbort else d

/-- The run state and T1's period of the regime, from now: LOOP runs full, every other regime lean (R19, R49, R59). While
SYSCLK is on the LF crystal the way to the run state is that of a wake (R106). A change at
a boundary keeps the counter, which has just wrapped. -/
def Dev.applyRegime (d : Dev) : Dev :=
  let d := if d.asleep || d.get F.CLK_STAT_SRC = 0 then d
    else if d.regime = 1 then (if d.get F.CLK_STAT_SRC = 2 || d.flag F.CLK_STAT_RELOCK then d else d.startLock) else d.toLean
  (d.setReg (F.TMR_CMP0 1) (Word.ofN d.modePeriod)).onShadow (fun s => Store.erase s (F.TMR_CMP0 1))

/-- As above at once, T1 from zero (R59; log 11). -/
def Dev.applyRegimeNow (d : Dev) : Dev :=
  let d := d.applyRegime
  d.rearmT1 d.modePeriod

/-! ## Sleeves -/

/-- A Sleeve is in service: started, neither trapped nor stopped, not held. -/
def Dev.sleeveUp (d : Dev) (e : Eng) : Bool :=
  let r := d.runOf e
  (r == Run.running || r == Run.waiting || r == Run.halted) && !d.held.contains ((if e = .right then 25 else 24), 0)

/-- The Collar stops a Sleeve; its register file is kept. -/
def Dev.stopSleeve (d : Dev) (e : Eng) : Dev :=
  if d.runOf e = Run.notStarted then d else d.setRun e Run.stopped

/-- The Collar starts a Sleeve at the entry address of its active image (R182, R291). A halt request of the debug port holds
(R193). -/
def Dev.startSleeve (d : Dev) (e : Eng) : Dev :=
  let right := decide (e = .right)
  let entry := d.imgEntry (d.activeOf right)
  let d := d.onEng e (fun _ => EngState.init entry)
  let d := if right then d.disconnect (F.EVT_RTR 0) F.EVT_PENDR F.EVT_OVFR else d.disconnect (F.EVT_RTL 0) F.EVT_PENDL F.EVT_OVFL
  d.setRun e (if d.haltBit e then Run.halted else Run.running)

/-! ## HOLD -/

/-- Every channel that fallback metering does not serve gets a GAP record; its duration is not known yet (R254, log 24). -/
def Dev.holdGaps (d : Dev) (fb : Bool) : Dev :=
  channels.foldl (fun d n =>
    if d.configured n && d.kind n != kDerived && !(fb && d.fbServed n) then
      let f := d.free
      f.2.gap n f.1
    else d) d

/-- HOLD_ENTRY: the mode, the Sleeves stopped, every channel with the Collar, lean run, fallback metering where the Collar's own
checks pass, T1 at 4 s, the ALARM frame and the HOLD cause (R27, R59, R90, R254, R455). `may`: nothing rules fallback metering
out (R78 step 2, R80). -/
def Dev.holdEnterIf (d : Dev) (cause : Nat) (may : Bool) : Dev :=
  if d.mode = 7 || d.col.shut.isSome then d
  else
    let d := d.changeMode 7 (d.get F.SYS_MODE_BASE) cause
    let d := ((d.stopSleeve .left).stopSleeve .right).setTable 0 0 false
    let d := d.onCol (fun c => { c with actStep := none, modeReq := none, back := [], leftPaired := false, faultDue := [], catchup := [], fillDue := [], restart := [], waitSlice := [] })
    let fb := may && d.sealMatches && d.sramSound
    let d := if fb then d.fbStart else d.fbStop
    (((d.holdGaps fb).applyRegimeNow).pushAlarm AlarmCode.hold [cause]).irq Irq.hold

/-- HOLD_ENTRY by a failure while the device runs. -/
def Dev.holdEnter (d : Dev) (cause : Nat) : Dev := d.holdEnterIf cause true

/-- A trusted fault (R180, R27). -/
def Dev.trustedFault (d : Dev) : Dev := d.holdEnter Cause.trusted

/-! ## Loss of redundant parts -/

/-- The HOLD that the present failures of pairs call for (R27, R505): both members of the TDC, ADC or excitation pair failed or
retired. -/
def Dev.pairsLost (d : Dev) : Option Nat :=
  let lost (i : Nat) : Bool := d.bit F.BIST_DEGR_FAILED i || d.bit F.BIST_DEGR_RETIRED i
  if lost 9 && lost 10 then some Cause.tdcPair
  else if lost 11 && lost 12 then some Cause.adcPair
  else if lost 13 && lost 14 then some Cause.excPair
  else none

/-! ## SEAL -/

/-- One SEAL_OPEN record for each opening, and its ALARM frame (R59, R61, R455). -/
def Dev.sealOpened (d : Dev) : Dev :=
  if d.sup.sealLogged then d
  else ((d.onSup (fun s => { s with sealLogged := true })).note 0x11).pushAlarm AlarmCode.sealOpen []

/-- SEAL closes: the fixed loop current and a zero-flow learning run end (R327, R386). -/
def Dev.sealShut (d : Dev) : Dev := (d.put F.LOOP_FIX_EN 0).zeroAbort

/-- SEAL_CHANGE: a level held for 50 ms (R59, R61, R289). -/
def Dev.sealChange (d : Dev) (opened : Bool) : Dev :=
  if d.flag F.SYS_MODE_SEAL == opened then d
  else
    let d := (d.putB F.SYS_MODE_SEAL opened).raise Ev.sealPin
    if !opened then d.sealShut.onSup (fun s => { s with sealLogged := false })
    else if d.mode = 4 || d.mode = 6 || d.mode = 7 then d.sealOpened else d

/-- The mode that a regime gives: SERVICE while SEAL is open, with protected writes (R59, R61). -/
def Dev.enterRegime (d : Dev) (base cause : Nat) : Dev :=
  if d.flag F.SYS_MODE_SEAL && base != 4 then d.sealOpened.changeMode 5 base cause else d.changeMode base base cause

end Sys2Proof.Machine
end

