-- ==== Sys2Proof/Machine/Sleeves.lean ====
section
/-!
DEFINITION. Sleeve faults, migration, restart, PAIRED and image activation (spec/08_collar.md R244 to R251, R265 to R267;
spec/16_selftest_and_failover.md R504). A Sleeve is named by its code: 1 Left, 2 Right.
-/
namespace Sys2Proof.Machine

/-- The engine of a Sleeve's code. -/
def engOf (s : Nat) : Eng := if s = 2 then .right else .left

/-- The code of the other Sleeve. -/
def otherSleeve (s : Nat) : Nat := 3 - s

/-- The channels a Sleeve carries: its code, or both (R237 ASSIGN). -/
def Dev.carriedBy (d : Dev) (s : Nat) : List Nat := channels.filter (fun n => d.carrier n == s || d.carrier n == 3)

/-! ## Trap records -/

/-- COLLAR_FAULT0 to COLLAR_FAULT2 hold the latest trap record (R247). -/
def Dev.showFault (d : Dev) (s : Nat) (t : TrapRec) : Dev :=
  let d := d.setReg (F.COLLAR_FAULT 0) (Word.ofN (t.instr.toNat * 2 ^ 36 + t.cause * 2 ^ 24 + s * 2 ^ 22 + t.ia.toNat))
  let d := d.setReg (F.COLLAR_FAULT 1) (Word.ofN (t.daddr % 2 ^ 20 * 2 ^ 52 + t.ticks % 2 ^ 48))
  d.setReg (F.COLLAR_FAULT 2) (withBits (d.reg (F.COLLAR_FAULT 2)) 15 0 t.tcode)

/-- The faults of a Sleeve within the last 86,400 s (R249). -/
def Dev.recentFaults (d : Dev) (s : Nat) : Nat :=
  (d.col.faults.filter (fun f => f.1 == s && decide (d.seconds < f.2 + 86400))).length

/-- NFL and NFR of COLLAR_FAULT2. -/
def Dev.showFaultCounts (d : Dev) : Dev :=
  let w := withBits (d.reg (F.COLLAR_FAULT 2)) 23 16 (satTo 255 (d.recentFaults 1))
  d.setReg (F.COLLAR_FAULT 2) (withBits w 31 24 (satTo 255 (d.recentFaults 2)))

/-- A retired Sleeve (COLLAR_FAULT2.RETL, RETR). -/
def Dev.retired (d : Dev) (s : Nat) : Bool := bitsOf (d.reg (F.COLLAR_FAULT 2)) (31 + s) (31 + s) == 1

/-- The M that SLEEVE_RETIRED names: the largest of the channels the Sleeve carried as it retired (R262 names M and does not say whose; log 6). -/
def Dev.sleeveStretch (d : Dev) (s : Nat) : Nat := (d.carriedBy s).foldl (fun m n => max m (d.stretchOf n)) 1

/-- SLEEVE_RETIRED (R249): no longer restarted until the next chip reset; its item is retired (R504, BIST_DEGR, BIST_EVT). -/
def Dev.retire (d : Dev) (s : Nat) : Dev :=
  if d.retired s then d
  else
    let d1 := (d.setReg (F.COLLAR_FAULT 2) (withBits (d.reg (F.COLLAR_FAULT 2)) (31 + s) (31 + s) 1)).noteVals 0x37 127 [s, d.sleeveStretch s]
    (d1.putBit F.BIST_DEGR_RETIRED (5 + s) true).event F.BIST_EVT_RETIRED Ev.bistFault

/-- SLEEVE_FAULT: the fault counts, the record, and retirement at the third in a day (R247, R249, R502). -/
def Dev.sleeveFaultNote (d : Dev) (s : Nat) (t : Option TrapRec) : Dev :=
  let d := match t with
    | some t => d.showFault s t
    | none => d
  let now := d.seconds
  let d := (d.onCol (fun c => { c with faults := (s, now) :: c.faults.filter (fun f => decide (now < f.2 + 86400)) })).showFaultCounts
  let d := d.log ⟨0x32, 15, 127, d.reg (F.COLLAR_FAULT 0), bitsOf (d.reg (F.COLLAR_FAULT 2)) 15 0, []⟩
  if 3 ≤ d.recentFaults s || d.col.retireDue.contains s then
    (d.retire s).onCol (fun c => { c with retireDue := c.retireDue.filter (· != s) })
  else d

/-! ## Migration -/

/-- The stretch rule (R248): the smallest M whose load fits 0.85, as its code 0 to 3; 3 where none fits. `bs`, `bm` in 1/256. -/
def stretchFor (bs bm : Nat) : Nat :=
  ([0, 1, 2, 3].find? (fun k => 100 * (2 ^ k * bs + bm) ≤ 85 * 256 * 2 ^ k)).getD 3

/-- The busy fraction of a Sleeve (COLLAR_LOAD). -/
def Dev.busyOf (d : Dev) (s : Nat) : Nat := if s = 1 then d.get F.COLLAR_LOAD_BUSYL else d.get F.COLLAR_LOAD_BUSYR

/-- Give a moved channel's blocks, those the Collar holds, to the Sleeve that takes it up (R247 step 4); with FULL = 0 where it is to start without a
checkpoint (R266). -/
def Dev.moveBlocks (d : Dev) (n s : Nat) (full : Bool) : Dev :=
  (Config.channelBlocks n).foldl (fun d b => if d.owner (b % 256) = Own.collar then d.giveBlock (b % 256) s full else d) d

/-- A new table at a boundary: the Collar gives what it holds of every channel that changes to a Sleeve, as in a migration (R244, R247; log 121). -/
def Dev.handTable (d : Dev) (carrier stretch : Nat) (paired full : Bool) : Dev :=
  let was := d.get F.COLLAR_CHTAB_CARRIER
  let d := d.setTable carrier stretch paired
  channels.foldl (fun d n => if d.carrier n != 0 && d.carrier n != (was >>> (2 * n)) % 4 then d.moveBlocks n (if d.carrier n = 2 then 2 else 1) full else d) d

/-- MIGRATE: the channels of `moved` go to Sleeve `s` with stretch code `k`, one record for each (R247, R248). -/
def Dev.migrate (d : Dev) (moved : List Nat) (src s k : Nat) : Dev :=
  let cyc := d.get F.COLLAR_CYCLE_CYCLE
  let carrier := codes2 (fun n => if moved.contains n then s else if d.carrier n = 3 then s else d.carrier n)
  let old := d.get F.COLLAR_CHTAB_STRETCH
  let stretch := codes2 (fun n => if moved.contains n then k else old >>> (2 * n))
  let d := d.setTable carrier stretch false
  let d := d.onCol (fun c => { c with stretchFrom := c.stretchFrom.filter (fun e => !moved.contains e.1) ++ moved.map (fun n => (n, cyc)) })
  let d := moved.foldl (fun d n => d.noteVals 0x33 n [src, s, 2 ^ k]) d
  if k = 0 then d else d.noteVals 0x36 127 [s, 2 ^ k]

/-- Sleeve `s` has faulted (R247): record, block reset, migration to the survivor with catch-up posts for the current cycle, or
HOLD where none survives (R27). The faulted Sleeve waits for its BIST slice (R249, R504). -/
def Dev.sleeveFault (d : Dev) (s : Nat) (t : Option TrapRec) : Dev :=
  let d := d.sleeveFaultNote s t
  let d := d.quiesceNow (23 + s) 0
  let d := d.onCol (fun c => { c with faultDue := c.faultDue.filter (· != s), restart := c.restart.filter (· != s) })
  let d := if d.retired s then d else d.onCol (fun c => { c with waitSlice := c.waitSlice.filter (· != s) ++ [s] })
  let o := otherSleeve s
  if !d.sleeveUp (engOf o) then d.holdEnter Cause.sleeves
  else
    let moved := d.carriedBy s
    let cyc := d.get F.COLLAR_CYCLE_CYCLE
    let k := stretchFor (d.busyOf o) (d.busyOf s)
    let d := d.migrate moved s o k
    let d := moved.foldl (fun d n => d.moveBlocks n o true) d
    d.onCol (fun c => { c with catchup := c.catchup ++ (moved.filter (fun n => !d.posted n cyc && !c.catchup.contains (n, cyc))).map (fun n => (n, cyc)) })

/-! ## PAIRED entry (R185, R250) -/

/-- PAIRED_ENTRY: both halves of general SRAM are zeroed, both Sleeves start, every channel shows code 3; SLEEVE_R's blocks revert, for it owns none
(R185, R187, R250; log 106). -/
def Dev.pairedEntry (d : Dev) : Dev :=
  let d := (List.range 256).foldl (fun d b => if d.owner b = Own.sleeveR then d.revertBlock b else d) d
  let d := d.onMem (fun m => m.filter (fun e => !isGeneral e.1))
  let d := d.onEcc (fun l => l.filter (fun e => !isGeneral e.1))
  let d := d.handTable (codes2 (fun n => if d.configured n then 3 else 0)) 0 true true
  ((d.put F.DBG_STAT_PAIRED 1).startSleeve .left).startSleeve .right

/-! ## Image activation (R266, R267) -/

/-- Channels start again: a Sleeve on another image, after its block reset. -/
def Dev.reload (d : Dev) (s : Nat) (b : Bool) : Dev := (((d.quiesceNow (23 + s) 0).releaseTarget (23 + s) 0).setActive (s == 2) b).startSleeve (engOf s)

/-- Activation of the image `b` begins: it runs over the next boundaries. The images to return to are kept, and the cycle is
noted when it ends. -/
def Dev.activate (d : Dev) (b : Bool) : Dev :=
  let old := ((!b).toNat, (d.activeOf true).toNat)
  d.onCol (fun c => { c with actStep := some 0, oldImg := old, actCycle := none })

/-- The image that activation moves the device to. -/
def Dev.target (d : Dev) : Bool := d.col.oldImg.1 == 0

/-- A Sleeve can run: not retired, not waiting for its slice, not held, its items not failed. -/
def Dev.canRun (d : Dev) (s : Nat) : Bool :=
  !d.retired s && !d.col.waitSlice.contains s && !d.col.restart.contains s && !d.held.contains (23 + s, 0) && !d.bit F.BIST_DEGR_FAILED (5 + s)

/-- A Sleeve that takes up the new image at once: in service, or stopped because its image is damaged (R246, R266). One that waits for its BIST
slice, is held or is retired starts on it later. -/
def Dev.reloads (d : Dev) (s : Nat) : Bool := d.sleeveUp (engOf s) || (d.runOf (engOf s) == Run.stopped && d.canRun s)

/-- Channels start on the new image from their checkpoints: its CKFMT is that of the image the device leaves (R266). -/
def Dev.sameFormat (d : Dev) : Bool := d.imgCkfmt d.target == d.imgCkfmt (!d.target)

/-- IMAGE_ACTIVATED: the activation is over (R266, R267). -/
def Dev.activated (d : Dev) : Dev :=
  let c0 := d.get F.COLLAR_CYCLE_CYCLE
  (d.imgNote 0x42 d.target).onCol (fun c => { c with actStep := none, actCycle := some c0 })

/-- The table once the fallback program gives the channels back: the configured one with both Sleeves in service, else the one that is. -/
def Dev.backTable (d : Dev) : Nat :=
  if d.sleeveUp .left && d.sleeveUp .right then d.configTable
  else codes2 (fun n => if d.configured n then (if d.sleeveUp .left then 1 else if d.sleeveUp .right then 2 else 0) else 0)

/-- The next step of an activation. -/
def Dev.actNext (d : Dev) (k : Nat) : Dev := d.onCol (fun c => { c with actStep := some k })

/-- Step 0 with one Sleeve in service, in PAIRED or with an image damaged: the fallback program carries every channel for the reload cycle. Nothing is
reloaded where every Sleeve in service runs the image already. -/
def Dev.reloadCycle (d : Dev) : Dev :=
  let b := d.target
  let p := d.paired
  let on (s : Nat) : Bool := !d.reloads s || (d.sleeveUp (engOf s) && d.activeOf (s == 2) == b)
  if !p && on 1 && on 2 then ((d.setActive false b).setActive true b).activated
  else
    let d := (d.allTo 0).fbStart
    let one (d : Dev) (s : Nat) : Dev := if p || d.reloads s then d.reload s b else d.setActive (s == 2) b
    let d := one (one d 1) 2
    if p then ((d.stopSleeve .left).stopSleeve .right).actNext 4 else d.actNext 3

/-- One boundary of an activation. In SPLIT with both Sleeves: step 0 the Right's channels migrate to the Left and the Right is
restarted on the new image; step 1 every channel moves to the Right and the Left is restarted; step 2 the configured table
comes back. Otherwise the fallback program carries every channel for the reload cycle, and step 3 gives the channels back to the Sleeves in service,
step 4 to the pair (R266). Step 1 needs the Right in service (log 121). -/
def Dev.activationStep (d : Dev) (k : Nat) : Dev :=
  let b := d.target
  let full := d.sameFormat
  let pass (d : Dev) (src s : Nat) : Dev :=
    let moved := d.carriedBy src
    moved.foldl (fun d n => d.moveBlocks n s full) ((d.migrate moved src s 0).reload src b)
  match k with
  | 0 => if d.sleeveUp .left && d.sleeveUp .right && !d.paired then (pass d 2 1).actNext 1 else d.reloadCycle
  | 1 => if d.sleeveUp .right then (pass d 1 2).actNext 2 else d.reloadCycle
  | 2 => (d.handTable d.configTable 0 false full).activated
  | 4 => if d.canRun 1 && d.canRun 2 then d.fbStop.pairedEntry.activated
    else
      let d := [1, 2].foldl (fun d s => if d.canRun s then d.startSleeve (engOf s) else d) d
      (d.fbStop.handTable d.backTable 0 false full).activated
  | _ => (d.fbStop.handTable d.backTable 0 false full).activated

/-- IMAGE_ROLLBACK: a fault of Sleeve `s` on the new image, while its activation runs or within 64 cycles after it, takes the previous image back for both
Sleeves and marks the new one rejected (R267); there is none to go back to where the previous image is damaged or was itself rejected. -/
def Dev.rollback (d : Dev) (s : Nat) : Dev :=
  let bad := d.activeOf (s == 2)
  let within := match d.col.actStep, d.col.actCycle with
    | some _, _ => bad == d.target
    | none, some c => decide (d.get F.COLLAR_CYCLE_CYCLE ≤ c + 64)
    | none, none => false
  if within && d.imgVal (!bad) && !d.imgRej (!bad) then
    ((((d.imgNote 0x43 bad).setRej bad true).setVal bad false).activate (!bad)).onCol (fun x => { x with actCycle := none })
  else d.onCol (fun x => { x with actCycle := if within then none else x.actCycle })

/-! ## PAIRED (R185, R246, R250) -/

/-- PAIRED is left: the Left Sleeve carries every channel for one cycle (R250). W grants of the two region tables that overlap, made where R174 did not
apply, are left standing: the spec does not say what becomes of them (DESIGN CHOICE, log 119). -/
def Dev.pairedLeave (d : Dev) : Dev :=
  let d := (d.allTo 1).put F.DBG_STAT_PAIRED 0
  let d := (d.stopSleeve .right).startSleeve .right
  d.onCol (fun c => { c with leftPaired := true })

/-- Both Sleeves of a pair that diverged: PAIR_DIVERGE is written once, the cycle's channels are filled, and both restart after
their slices (R246). -/
def Dev.pairDiverged (d : Dev) (ia : BitVec 21) : Dev :=
  let cyc := d.get F.COLLAR_CYCLE_CYCLE
  let chans := (channels.filter (fun n => d.carrier n == 3 && !d.posted n cyc)).map (fun n => (n, cyc))
  let show_ (d : Dev) (s : Nat) : Dev := match (d.eng (engOf s)).trap with
    | some t => d.showFault s t
    | none => d
  let d := ((show_ (show_ d 1) 2).noteAB 0x34 127 ia.toNat 0).onCol (fun c => { c with fillDue := c.fillDue ++ chans, waitSlice := [1, 2] })
  let clear (d : Dev) (e : Eng) : Dev := (d.onEng e (fun s => { s with trap := none })).setRun e Run.stopped
  clear (clear d .left) .right

/-- A rendezvous ran out of time: the Sleeve that did not reach it is faulted, PAIRED is left, and the one that waited carries
every channel, started again from the checkpoints (R246). -/
def Dev.pairTimedOut (d : Dev) (s : Nat) (t : TrapRec) : Dev :=
  let d := (d.onEng (engOf s) (fun x => { x with trap := none })).put F.DBG_STAT_PAIRED 0
  let d := ((d.showFault s t).setTable d.configTable 0 false).startSleeve (engOf s)
  let d := d.sleeveFault (otherSleeve s) none
  if d.mode = 7 then d else d.rollback (otherSleeve s)

/-- A Sleeve fault, and what it means for an image just activated (R247, R267). -/
def Dev.faultOf (d : Dev) (s : Nat) (t : Option TrapRec) : Dev :=
  let d := d.sleeveFault s t
  if d.mode = 7 then d else d.rollback s

/-- SLEEVE_FAULT_MIGRATE: the Collar acts on a Sleeve's trap or on a fault without one, as R246 states for each cause. -/
def Dev.sleeveFaultMigrate (d : Dev) (s : Nat) : Dev :=
  let e := engOf s
  if d.mode = 7 then d
  else
    match (d.eng e).trap with
    | some t =>
      if d.runOf e != Run.trapped then d
      else if t.cause = 0x09 then d.pairDiverged t.ia
      else if t.cause = 0x0A then d.pairTimedOut s t
      else if t.cause = 0x05 then
        -- the active image is damaged; where the other one verifies, both Sleeves move to it (R246)
        let bad := d.activeOf (s == 2)
        let d := (d.setVal bad false).onEng e (fun x => { x with trap := none })
        if (d.imgFails (!bad) false).isSome then d.faultOf s (some t)
        else
          let cyc := d.get F.COLLAR_CYCLE_CYCLE
          let chans := ((d.carriedBy s).filter (fun n => !d.posted n cyc)).map (fun n => (n, cyc))
          ((((d.showFault s t).setVal (!bad) true).setRun e Run.stopped).onCol (fun c => { c with fillDue := c.fillDue ++ chans })).activate (!bad)
      else (d.onEng e (fun x => { x with trap := none })).faultOf s (some t)
    | none => if d.col.faultDue.contains s then d.faultOf s none else d

/-! ## What a boundary does for the Sleeves -/

/-- The Sleeves that passed their slice restart; the table comes back one boundary later (R249). -/
def Dev.restartSleeves (d : Dev) : Dev :=
  if d.col.restart.isEmpty then d
  else
    let d1 := d.col.restart.foldl (fun d s => d.startSleeve (engOf s)) d
    let pairAgain := d.paired && d.col.restart.length == 2
    d1.onCol (fun c => { c with restart := [], back := if pairAgain then [] else c.back ++ c.restart })

/-- REBALANCE: the configured table with M = 1, one record for each restarted Sleeve (R249). -/
def Dev.rebalanced (d : Dev) : Dev :=
  if !d.col.back.isEmpty && d.sleeveUp .left && d.sleeveUp .right then
    let d1 := d.col.back.foldl (fun d s => d.noteVals 0x38 127 [s, 1]) (d.handTable d.configTable 0 false true)
    d1.onCol (fun c => { c with back := [], stretchFrom := [] })
  else d

/-- What PAIRED requires: both Sleeves in service on the same image (R250). -/
def Dev.mayPair (d : Dev) : Bool := d.sleeveUp .left && d.sleeveUp .right && d.activeOf false == d.activeOf true

/-- A MODE_REQ takes effect; one whose conditions no longer hold at the boundary, or that asks for the mode the device is in, changes nothing (R250;
log 122). -/
def Dev.modeReqDue (d : Dev) : Dev :=
  let r := d.col.modeReq
  let d := d.onCol (fun c => { c with modeReq := none })
  match r with
  | some true => if !d.paired && d.mayPair && d.col.actStep.isNone then d.pairedEntry else d
  | some false => if d.paired && d.col.actStep.isNone then d.pairedLeave else d
  | none => d

/-- Mode requests, restarts and activation at a boundary (R244, R249, R250, R266). -/
def Dev.sleeveBoundary (d : Dev) : Dev :=
  let d := if d.col.leftPaired then (d.handTable d.configTable 0 false true).onCol (fun c => { c with leftPaired := false }) else d
  let d := d.rebalanced.restartSleeves
  let d := match d.col.actStep with
    | some k => d.activationStep k
    | none => d
  d.modeReqDue

/-- A channel's post is due at the boundary that ends `cyc` (R25, R248): not DERIVED, carried by a Sleeve, at the end of its M
cycles. -/
def Dev.postDue (d : Dev) (n cyc : Nat) : Bool :=
  let c0 := Store.get (fun _ => 0) d.col.stretchFrom n
  d.configured n && d.kind n != kDerived && d.carrier n != 0 && (cyc + d.stretchOf n - c0) % d.stretchOf n == 0

/-- The channels whose post of `cyc` is missing: due, not posted, and neither to be filled nor to come as a catch-up post (R25, R247). -/
def Dev.missing (d : Dev) (cyc : Nat) : List Nat :=
  channels.filter (fun n => d.postDue n cyc && !d.posted n cyc && !d.col.catchup.contains (n, cyc) && !d.col.fillDue.contains (n, cyc))

/-- At the boundary that ends `cyc`: a Sleeve that has not posted every due channel has faulted for it (R25), unless its trap, in PAIRED
either one's, is already waiting for the Collar. The posts may still come as catch-up posts (R247). -/
def Dev.missingPosts (d : Dev) (cyc : Nat) : Dev :=
  let miss := d.missing cyc
  let late (s : Nat) : Bool := d.sleeveUp (engOf s) && !d.col.faultDue.contains s && (d.carriedBy s).any miss.contains
  let due := [1, 2].filter late
  let due := if !d.paired then due
    else if due.isEmpty || d.runOf .left == Run.trapped || d.runOf .right == Run.trapped then [] else [1]
  if d.mode = 7 || d.mode = 0 then d
  else d.onCol (fun c => { c with faultDue := c.faultDue ++ due, catchup := c.catchup ++ miss.map (fun n => (n, cyc)) })

/-- PAIR_TIMEOUT: a rendezvous still open at the boundary traps the Sleeve that waits at it (R187). -/
def Dev.pairTimeout (d : Dev) : Dev :=
  let twins := d.runOf
  let trapOne (d : Dev) (e : Eng) : Dev :=
    match (d.eng e).wait with
    | .rendezvous op =>
      if d.runOf e != Run.waiting || twins (Eng.twin e) == Run.trapped then d
      else
        let r : TrapRec := ⟨0x0A, (d.eng e).ia, YOp.encode op, 0, 0, d.get F.TIDE_TICKS_TICKS⟩
        let d := (d.onEng e (fun s => { s with trap := some r, wait := .none })).setRun e Run.trapped
        let d := if e = .left then d.trace 3 (Eng.code e) (r.cause * 2 ^ 56 + r.ia.toNat) else d
        d.raise Ev.trap
    | _ => d
  if d.paired then trapOne (trapOne d .left) .right else d

/-- COLLAR_LOAD: the averages of the last 16 cycles (R248). -/
def Dev.updateLoad (d : Dev) (bl br : Nat) : Dev :=
  let l := (satTo 255 bl :: d.col.loadL).take 16
  let r := (satTo 255 br :: d.col.loadR).take 16
  let avg (x : List Nat) : Nat := (roundOpen ((x.foldl (· + ·) 0 : Nat)) x.length).toNat
  ((d.onCol (fun c => { c with loadL := l, loadR := r })).put F.COLLAR_LOAD_BUSYL (avg l)).put F.COLLAR_LOAD_BUSYR (avg r)

/-- What could not be posted is filled, or shown as a GAP: channels to fill at once, and catch-up posts that did not come by the
end of the following cycle (R246, R247, R253). `cyc` is the cycle that ends. -/
def Dev.fillBoundary (d : Dev) (cyc : Nat) : Dev :=
  let stale := d.col.catchup.filter (fun e => decide (e.2 < cyc))
  let todo := d.col.fillDue ++ stale
  let d := d.onCol (fun c => { c with fillDue := [], catchup := c.catchup.filter (fun e => !decide (e.2 < cyc)) })
  todo.foldl (fun d e => if d.posted e.1 e.2 then d else d.fallbackFill e.1 e.2) d

end Sys2Proof.Machine
end

