-- ==== Sys2Proof/Machine/Bist.lean ====
section
/-!
DEFINITION. The BIST controller: slices, isolation, failures, qualification and memory errors
(spec/16_selftest_and_failover.md R491 to R512; spec/06_programming_model.md R171).
-/
namespace Sys2Proof.Machine

/-! ## The items of R491 -/

/-- The items, 17 the loop regulator. -/
def bistAll : List Nat := List.range 18

/-- The period of an item in s. -/
def bistPeriod (i : Nat) : Nat := [4, 1, 60, 1, 1, 4, 4, 4, 4, 60, 60, 3600, 3600, 3600, 3600, 600, 60, 0].getD i 0

/-- The slices of a pass. -/
def bistSlices (i : Nat) : Nat := [16, 128, 28, 768, 256, 2048, 64, 64, 64, 1, 1, 1, 1, 1, 1, 3, 4, 1].getD i 1

/-- The longest time of a slice in µs. -/
def bistTime (i : Nat) : Nat := [8, 12, 100, 12, 12, 40, 20, 20, 20, 50, 50, 0, 0, 0, 0, 60, 10, 0].getD i 0

/-- The coverage time in s, in LOOP and in CELL. -/
def bistCover (cell : Bool) (i : Nat) : Nat :=
  if cell then [512, 1024, 13440, 6144, 2048, 65536, 2048, 2048, 2048, 480, 480, 28800, 28800, 28800, 28800, 14400, 1920].getD i 0
  else [64, 128, 1680, 768, 256, 8192, 256, 256, 256, 60, 60, 3600, 3600, 3600, 3600, 1800, 240].getD i 0

/-- Items 11 to 14 are tested isolated. -/
def isolatedItem (i : Nat) : Bool := 11 ≤ i && i ≤ 14

/-- The quiesce target and unit of items 9 to 14 (R496). -/
def unitTarget (i : Nat) : Nat × Nat := if i < 11 then (7, i - 9) else (9, i - 11)

/-- The twin of an item of a pair. -/
def twinItem (i : Nat) : Nat := if i = 6 || i = 9 || i = 11 || i = 13 then i + 1 else i - 1

/-- An item's record. -/
def BItem.zero : BItem := ⟨0, 0, 0, 0, 0, false, []⟩
def Dev.bitem (d : Dev) (i : Nat) : BItem := Store.get (fun _ => BItem.zero) d.bist.items i
def Dev.onBitem (d : Dev) (i : Nat) (f : BItem → BItem) : Dev :=
  let v := f (d.bitem i)
  d.onBist (fun b => { b with items := Store.set (fun _ => BItem.zero) b.items i v })

/-- Every item counts from the start (R491, R495). -/
def Dev.bistStart (d : Dev) : Dev :=
  let now := d.seconds
  bistAll.foldl (fun d i => d.onBitem i (fun b => { b with last := now, pass := now })) d

def Dev.enabled (d : Dev) (i : Nat) : Bool := d.bit F.BIST_EN_EN i
def Dev.failedItem (d : Dev) (i : Nat) : Bool := d.bit F.BIST_DEGR_FAILED i
def Dev.retiredItem (d : Dev) (i : Nat) : Bool := d.bit F.BIST_DEGR_RETIRED i

/-- CELL and VIGIL scale the periods (R493). -/
def Dev.cellRegime (d : Dev) : Bool := d.regime == 3 || d.regime == 4

/-- The effective period in LF ticks (R493). -/
def Dev.effPeriod (d : Dev) (i : Nat) : Nat :=
  max (bitsOf (d.reg (F.TMR_CMP0 1)) 47 0)
    (bistPeriod i * 32768 * (if d.cellRegime then 2 ^ d.get F.BIST_CFG_PSCALE else 1))

/-- BIST_ITEM as a read sees it. -/
def Dev.bistItemWord (d : Dev) : Word :=
  let i := d.get F.BIST_ITEMSEL_ITEM
  let b := d.bitem i
  let n := (b.fails.filter (fun t => decide (d.seconds < t + 86400))).length
  Word.ofN (satTo (2 ^ 24 - 1) (d.seconds - b.pass) * 2 ^ 48 + b.next % 65536 * 2 ^ 32 + satTo 255 n * 2 ^ 24
    + b.trans % 256 * 2 ^ 16 + b.passes % 65536)

/-! ## Snapshot, isolation, release -/

/-- The writable bits of a register: its RW, RWT and RWS fields. -/
def writable (a : Nat) : Word :=
  match rowAt a with
  | some r => r.fields.foldl (fun m f => match f.acc with
      | .rw => m ||| maskOf f.hi f.lo
      | .rws => m ||| maskOf f.hi f.lo
      | .rwt => m ||| maskOf f.hi f.lo
      | _ => m) 0
  | none => 0

/-- The configuration snapshot of a unit (R497 step 1). -/
def Dev.snapshot (d : Dev) (i : Nat) : Dev :=
  let t := unitTarget i
  let ws := ((blockRegs t.1).filter (fun a => (unitMask t.1 t.2 a &&& writable a) != 0)).map (fun a => (a, d.reg a))
  d.onBist (fun b => { b with snaps := b.snaps.filter (fun s => s.1 != i) ++ [(i, ws)] })

/-- The unit is released and its snapshot written back (R497 step 4). -/
def Dev.releaseUnit (d : Dev) (i : Nat) : Dev :=
  let t := unitTarget i
  let ws := ((d.bist.snaps.find? (fun s => s.1 == i)).map (·.2)).getD []
  let d1 := (d.releaseTarget t.1 t.2).putBit F.BIST_DEGR_HELD i false
  let d2 := ws.foldl (fun d w => d.setReg w.1 (mergeMask (d.reg w.1) (unitMask t.1 t.2 w.1 &&& writable w.1) w.2)) d1
  d2.onBist (fun b => { b with snaps := b.snaps.filter (fun s => s.1 != i) })

/-- The controller is doing nothing. -/
def Dev.bistIdle (d : Dev) : Dev := ((d.put F.BIST_RUN_STATE 0).put F.BIST_RUN_ITEM 0).put F.BIST_RUN_SLICE 0

/-- ISOLATE_UNIT (R496, R497 steps 1 and 2). -/
def Dev.isolate (d : Dev) (i : Nat) : Dev :=
  let t := unitTarget i
  let d := ((d.snapshot i).quiesceNow t.1 t.2).putBit F.BIST_DEGR_HELD i true
  let d := ((d.put F.BIST_RUN_STATE 2).put F.BIST_RUN_ITEM i).put F.BIST_RUN_SLICE 0
  d.onBist (fun b => { b with iso := some i, ran := b.ran + 1 })

/-- The conditions of R496 for the isolated test of item `i`. -/
def Dev.mayIsolate (d : Dev) (i : Nat) : Bool :=
  let t := unitTarget i
  let m := d.mode
  (m == 1 || m == 2 || m == 3 || m == 5) && d.bist.iso.isNone && d.get F.BIST_DEGR_HELD == 0
    && !d.failedItem (twinItem i) && !d.retiredItem (twinItem i) && !d.failedItem i && !d.retiredItem i
    && (if t.2 < 2 then d.requestsOf 9 t.2 == 0 && (d.adcRun t.2).isNone
        else d.adc.queue.all (fun r => !needsExc (d.get (F.ADC_IN_KIND r.input)) || d.driver r.input != t.2 - 2))

/-- A unit under isolated test is let go at once: the test is abandoned and stays due (R498). -/
def Dev.abandonTest (d : Dev) (i : Nat) : Dev := ((d.releaseUnit i).bistIdle).onBist (fun b => { b with iso := none })

/-! ## Failure -/

/-- BIST_FAIL: A: item, slice index, phase; B: detail. -/
def Dev.bistFailNote (d : Dev) (i slice phase detail : Nat) : Dev :=
  let d := d.log ⟨0x70, 15, 127, Config.payload 0x70 0 [i, slice, phase], detail % 2 ^ 40, []⟩
  let now := d.seconds
  (d.onBitem i (fun b => { b with fails := now :: b.fails.filter (fun t => decide (now < t + 86400)) })).event F.BIST_EVT_FAIL Ev.bistFault

/-- UNIT_RETIRED (R504). -/
def Dev.retireItem (d : Dev) (i : Nat) : Dev :=
  ((d.putBit F.BIST_DEGR_RETIRED i true).noteAB 0x73 127 i 0).event F.BIST_EVT_RETIRED Ev.bistFault

/-- The failures of an item within 86,400 s. -/
def Dev.failsInDay (d : Dev) (i : Nat) : Nat := ((d.bitem i).fails.filter (fun t => decide (d.seconds < t + 86400))).length

/-- The next qualification, or retirement after three failures (R504). -/
def Dev.planQual (d : Dev) (i : Nat) : Dev :=
  if 3 ≤ d.failsInDay i then (d.retireItem i).onBist (fun b => { b with qual := b.qual.filter (fun q => q.1 != i) })
  else
    let at_ := d.seconds + d.get F.BIST_CFG_RETRY
    d.onBist (fun b => { b with qual := b.qual.filter (fun q => q.1 != i) ++ [(i, at_)] })

/-- The pair of excitation that fails shows in EXCLOST. -/
def Dev.showExc (d : Dev) (i : Nat) (lost : Bool) : Dev := if 13 ≤ i && i ≤ 14 then d.putBit F.ADC_STAT_EXCLOST (i - 13) lost else d

/-- FAILOVER: a unit of items 9 to 14 fails (R501), and HOLD follows when no member is left (R505). A twin under isolated test is
released to serve (R498). -/
def Dev.failUnit (d : Dev) (i slice phase detail : Nat) : Dev :=
  if d.failedItem i then d
  else
    let t := unitTarget i
    let d := match d.bist.iso with
      | some j => if j = twinItem i then d.abandonTest j else d
      | none => d
    let d := if d.bist.snaps.any (fun s => s.1 == i) then d else d.snapshot i
    let d := if d.held.contains t then d else d.quiesceNow t.1 t.2
    let d := if d.flag F.BIST_EVT_FAIL then d.raise Ev.bistFault else d
    let d := ((d.putBit F.BIST_DEGR_FAILED i true).bistFailNote i slice phase detail).noteVals 0x71 127 [i, twinItem i]
    let d := (d.showExc i true).planQual i
    match d.pairsLost with
    | some c => d.holdEnter c
    | none => d

/-- The Seam block that failed is withdrawn: HOME = NONE, no owner; its role moves to a spare at the next boundary, and without
a spare it is a trusted fault (R502, R503). -/
def Dev.withdraw (d : Dev) (b : Nat) : Dev :=
  let b := b % 256
  let role := (d.image b).toNat
  let d := ((d.put (F.SEAM_REC_HOME b) Own.none).put (F.SEAM_REC_PRIVATE b) 0).revertBlock b
  let d := d.onBist (fun x => { x with withdrawn := x.withdrawn ++ [b], moves := x.moves ++ [(b, role)] })
  if d.bist.spares.isEmpty then d.trustedFault else d

/-- SEAM_WITHDRAWN at the boundary: the spare takes the owner, HOME and PRIVATE of the withdrawn block. -/
def Dev.moveRoles (d : Dev) : Dev :=
  let d1 := d.bist.moves.foldl (fun d m =>
    match d.bist.spares with
    | [] => d
    | s :: ss =>
      let w := Word.ofN m.2
      let d := ((d.put (F.SEAM_REC_HOME s) (bitsOf w 7 4)).put (F.SEAM_REC_PRIVATE s) (bitsOf w 10 10)).onBist (fun x => { x with spares := ss })
      let d := if bitsOf w 3 0 = Own.none then d else d.giveBlock s (bitsOf w 3 0) false
      d.noteAB 0x78 127 m.1 s) d
  d1.onBist (fun x => { x with moves := [] })

/-- The Sleeves whose region table grants W on an address (R502, item 3). -/
def Dev.grantsW (d : Dev) (a : Nat) : List Nat :=
  [1, 2].filter (fun s => (List.range 8).any (fun i => covers (d.reg (regionReg (engOf s) i)) ((a - 0x10000) / 64) 34))

/-- What the device does when an item's slice has failed (R502). -/
def Dev.failItem (d : Dev) (i slice phase detail : Nat) : Dev :=
  if 9 ≤ i && i ≤ 14 then d.failUnit i slice phase detail
  else
    let d := d.bistFailNote i slice phase detail
    let mark (d : Dev) : Dev := d.putBit F.BIST_DEGR_FAILED i true
    if i = 0 || i = 1 || i = 2 || i = 8 then (mark d).trustedFault
    else if i = 15 then
      if slice < 2 then (mark d).trustedFault
      else (((mark d).onBist (fun b => { b with radioOff := true })).leave leftOff).note 0x7A
    else if i = 6 || i = 7 then
      (mark d).onCol (fun c => { c with faultDue := c.faultDue ++ [i - 5] })
    else if i = 3 then
      let ss := d.grantsW detail
      (mark d).onCol (fun c => { c with faultDue := c.faultDue ++ ss, retireDue := c.retireDue ++ ss })
    else if i = 4 then (mark d).withdraw detail
    else if i = 16 && detail = 0 then d.pllFail
    else d

/-! ## Memory errors -/

/-- The slice of the SRAM item that covers an address, as (item, slice) (R508). -/
def spanOf (a : Nat) : Option (Nat × Nat) :=
  if 0x2000 ≤ a && a < 0x4000 then some (1, (a - 0x2000) / 64)
  else if isGeneral a then some (3, (a - 0x10000) / 64)
  else if isSeam a then some (4, (a - 0x1C000) / 64)
  else none

/-- ECC_CORRECT: a corrected single-bit error is counted, and a second correction of an SRAM address makes its span's slice due
(R171, R508). -/
def Dev.eccCorrect (d : Dev) (a : Nat) : Dev :=
  let d := ((d.onEcc (fun e => Store.erase e a)).bump (eccField a)).event F.BIST_EVT_ECC Ev.bistFault
  match spanOf a with
  | none => d
  | some x =>
    if d.bist.once.contains a then d.onBist (fun b => { b with spanDue := if b.spanDue.contains x then b.spanDue else b.spanDue ++ [x] })
    else d.onBist (fun b => { b with once := b.once ++ [a] })

/-- An uncorrectable word of the nonvolatile store is recorded once, and acts by region (R509). -/
def Dev.nvBad (d : Dev) (a : Nat) : Dev :=
  if a < 0x80000 || d.bist.nvSeen.contains a then d
  else
    let d := (d.noteAB 0x75 127 a 0).onBist (fun b => { b with nvSeen := b.nvSeen ++ [a] })
    if a < 0x87000 then d.trustedFault else d

/-- The uncorrectable words among the `n` from `a` are found by an access (R509). -/
def Dev.nvFound (d : Dev) (a n : Nat) : Dev :=
  (d.ecc.filter (fun e => e.2 && decide (a ≤ e.1) && decide (e.1 < a + n))).foldl (fun d e => d.nvBad e.1) d

/-- The error mark of a word of memory: some true for two wrong bits (R171). -/
def Dev.eccMark (d : Dev) (a : Nat) : Option Bool := (d.ecc.find? (fun m => m.1 == a)).map (·.2)

/-- Words with one wrong bit are corrected and counted (R171). -/
def Dev.correct (d : Dev) (as : List Nat) : Dev := as.foldl (fun d a => if d.eccMark a = some false then d.eccCorrect a else d) d

/-- The Collar loads the `n` words from `a`: single wrong bits are corrected and counted (R171). -/
def Dev.collarLoads (d : Dev) (a n : Nat) : Dev :=
  d.correct ((d.ecc.filter (fun m => !m.2 && decide (a ≤ m.1) && decide (m.1 < a + n))).map (·.1))

/-- Item 5's scrub of the `n` words from `lo`: single-bit errors are corrected and counted, two-bit corrections written to the
log, uncorrectable words recorded (R491, R509). -/
def Dev.scrub (d : Dev) (lo n : Nat) (two : List (Nat × Nat)) : Dev :=
  let marks := d.ecc.filter (fun e => decide (lo ≤ e.1) && decide (e.1 < lo + n))
  let d1 := marks.foldl (fun d e => if e.2 then d.nvBad e.1 else d.eccCorrect e.1) d
  two.foldl (fun d t => if lo ≤ t.1 && t.1 < lo + n then (d.noteVals 0x74 127 [t.1, t.2]).event F.BIST_EVT_ECC Ev.bistFault else d) d1

/-! ## Running slices -/

/-- The items that run in a mode (R493). -/
def Dev.runsIn (d : Dev) (i : Nat) : Bool :=
  let m := d.mode
  if m = 7 then [0, 1, 2, 8, 15].contains i else d.get F.SYS_MODE_STAGE == 4

/-- The item's idle target is idle (R492, R493). -/
def Dev.targetIdle (d : Dev) (i : Nat) : Bool :=
  let doze (e : Eng) : Bool := d.runOf e == Run.waiting && (d.eng e).wait == Wait.doze
  let cyc := d.get F.COLLAR_CYCLE_CYCLE
  match i with
  | 6 => doze .left && !d.haltBit .left && (d.carriedBy 1).all (fun n => !d.postDue n cyc || d.posted n cyc)
  | 7 => doze .right && !d.haltBit .right && (d.carriedBy 2).all (fun n => !d.postDue n cyc || d.posted n cyc)
  | 8 => doze .collar
  | 9 => !d.tdcBusy 0 && d.tdcUp 0
  | 10 => !d.tdcBusy 1 && d.tdcUp 1
  | _ => true

/-- The order of R493: oldest last slice first, then the lowest item; spans due under R508 ahead of it. -/
def Dev.dueOrder (d : Dev) : List Nat :=
  let rank (i : Nat) : Nat := (if d.bist.spanDue.any (fun s => s.1 == i) then 0 else 1 + (d.bitem i).last) * 32 + i
  (bistAll.filter (fun i => d.bist.due.contains i)).mergeSort (fun a b => rank a ≤ rank b)

/-- The slice of a span that is due out of its turn (R508): none where it is the pass's next slice. -/
def Dev.spanSlice (d : Dev) (i : Nat) : Option Nat :=
  ((d.bist.spanDue.find? (fun s => s.1 == i)).map (·.2)).filter (fun k => k != (d.bitem i).next)

/-- BIST_SLICE: the next due idle slice starts where everything R493 asks holds; a span due under R508 comes before the pass's next slice. -/
def Dev.bistSlice (d : Dev) : Dev :=
  if d.bist.run.isSome || d.get F.BIST_CFG_MAXS ≤ d.bist.ran || d.flag F.CLK_SLKSTAT_OPEN || d.sup.vpool < shotFloor then d
  else
    match d.dueOrder.find? (fun i => !isolatedItem i && d.runsIn i && d.targetIdle i && d.beforeWindow (bistTime i)) with
    | none => d
    | some i =>
      let sp := d.spanSlice i
      let n := sp.getD (d.bitem i).next
      let d := d.onBist (fun b => { b with run := some i, runSpan := sp, ran := b.ran + 1 })
      (((if d.bist.iso.isSome then d else d.put F.BIST_RUN_STATE 1).put F.BIST_RUN_ITEM i).put F.BIST_RUN_SLICE n)

/-- BIST_SLICE_ABORT: a window opened by instruction, or a fence trip, aborts the slice; it stays due (R494). -/
def Dev.bistAbort (d : Dev) : Dev :=
  if d.bist.run.isNone then d
  else (if d.bist.iso.isSome then (d.put F.BIST_RUN_STATE 2) else d.bistIdle).onBist (fun b => { b with run := none, runSpan := none })

/-- A span's slice out of its turn is done: the pass stands where it was (R508). -/
def Dev.spanOver (d : Dev) (i n : Nat) : Dev :=
  let now := d.seconds
  (d.onBitem i (fun b => { b with last := now })).onBist (fun b =>
    { b with due := b.due.filter (· != i), spanDue := b.spanDue.filter (· != (i, n)) })

/-- A slice of item `i` is done, one pass complete at its last slice (R491, R493). -/
def Dev.sliceOver (d : Dev) (i : Nat) : Dev :=
  let now := d.seconds
  let n := (d.bitem i).next + 1
  let whole := bistSlices i ≤ n
  let d := d.onBitem i (fun b =>
    if whole then { b with last := now, next := 0, passes := satInc 65535 b.passes, pass := now, overdue := false }
    else { b with last := now, next := n })
  let d := d.onBist (fun b => { b with due := b.due.filter (· != i), spanDue := b.spanDue.filter (· != (i, n - 1)) })
  match d.bist.cmd with
  | some (j, k) =>
    if j != i then d
    else if k ≤ 1 then (d.onBist (fun b => { b with cmd := none })).put F.BIST_CMD_RUN 0
    else d.onBist (fun b => { b with cmd := some (j, k - 1), due := b.due ++ [i] })
  | none => d

/-- A step that failed and passed on repeat (R499). -/
def Dev.transient (d : Dev) (i : Nat) : Dev :=
  (d.onBitem i (fun b => { b with trans := satInc 255 b.trans })).event F.BIST_EVT_TRANSIENT Ev.bistFault

/-- BIST_SLICE_DONE: the slice in progress completes (R499, R502). The last slice of item 2 compares the sealed part with its
seal (R491). -/
def Dev.bistSliceDone (d : Dev) (o : SliceObs) : Dev :=
  match d.bist.run with
  | none => d
  | some i =>
    let sp := d.bist.runSpan
    let n := sp.getD (d.bitem i).next
    let failed := if i = 2 then n == 27 && !d.sealMatches else o.failed
    let again := if i = 2 then failed else o.again
    let d := (if d.bist.iso.isSome then d.put F.BIST_RUN_STATE 2 else d.bistIdle).onBist (fun b => { b with run := none, runSpan := none })
    let d := if i = 5 then d.scrub (0x80000 + 256 * n) 256 o.two else d
    let d := if i = 1 || i = 3 || i = 4 then d.onBist (fun b => { b with once := b.once.filter (fun a => spanOf a != some (i, n)) }) else d
    let d := (if sp.isSome then d.spanOver i n else d.sliceOver i).raise Ev.bistSlice
    if failed && again then d.failItem i n 0 o.detail else if failed then d.transient i else d

/-- ISOLATED_TEST_DONE: the unit is released at the next boundary, or held as failed (R497, R499, R501). -/
def Dev.isolatedDone (d : Dev) (o : SliceObs) : Dev :=
  match d.bist.iso with
  | none => d
  | some i =>
    let d := (d.bistIdle.onBist (fun b => { b with iso := none, suspect := b.suspect.filter (· != i) })).raise Ev.bistSlice
    let d := d.sliceOver i
    if o.failed && o.again then d.failUnit i 0 0 o.detail
    else (if o.failed then d.transient i else d).onBist (fun b => { b with release := b.release ++ [i] })

/-- A qualification of a unit of items 9 to 14 is over: the unit is released at the next boundary, or tried again (R504). -/
def Dev.qualOver (d : Dev) (i : Nat) (bad : Bool) (detail : Nat) : Dev :=
  let d := (d.raise Ev.bistSlice).onBist (fun b => { b with qual := b.qual.filter (fun q => q.1 != i), qcal := b.qcal.filter (fun q => q != i) })
  if bad then (d.bistFailNote i 0 3 detail).planQual i else d.onBist (fun b => { b with release := b.release ++ [i] })

/-- QUALIFICATION: of a Sleeve that waits for its slice, or of a failed unit whose time has come; a TDC unit that passes has its
period calibration in the next window still before it (R504). -/
def Dev.qualification (d : Dev) (i : Nat) (o : SliceObs) : Dev :=
  let bad := o.failed && o.again
  if i = 6 || i = 7 then
    let s := i - 5
    if !d.col.waitSlice.contains s || d.retired s then d
    else
      let d := d.raise Ev.bistSlice
      if bad then d.bistFailNote i 0 3 o.detail
      else
        let d := if d.held.contains (23 + s, 0) then d.releaseTarget (23 + s) 0 else d
        let d := if d.failedItem i then (d.putBit F.BIST_DEGR_FAILED i false).event F.BIST_EVT_RESTORED Ev.bistFault else d
        d.onCol (fun c => { c with waitSlice := c.waitSlice.filter (· != s), restart := c.restart ++ [s] })
  else if 9 ≤ i && i ≤ 14 && d.failedItem i && !d.retiredItem i
      && (d.bist.qual.any (fun q => q.1 == i && decide (q.2 ≤ d.seconds))) then
    let d := if o.failed && !bad then d.transient i else d
    if i < 11 && !bad then
      d.onBist (fun b => { b with qual := b.qual.filter (fun q => q.1 != i), qcal := b.qcal.filter (fun q => q != i) ++ [i] })
    else d.qualOver i bad o.detail
  else d

/-- BIST_RUN_CMD: BIST_CMD.RUN = 1 asks for a full pass of ITEM from the next boundary (R493). -/
def Dev.bistRunCmd (d : Dev) : Dev :=
  let i := d.get F.BIST_CMD_ITEM
  if d.flag F.BIST_CMD_RUN then
    if i = 17 then d.put F.BIST_CMD_RUN 0
    else (d.onBitem i (fun b => { b with next := 0 })).onBist (fun b => { b with cmd := some (i, bistSlices i) })
  else d.onBist (fun b => { b with cmd := none })

/-! ## Continuous checks (R500) -/

/-- L of a line lies outside 6,144 ps to 15,872 ps; `t` and `l` as fractions. -/
def lapBad (t l : Nat × Nat) : Bool := decide (t.1 * l.2 < 6144 * t.2 * l.1) || decide (15872 * t.2 * l.1 < t.1 * l.2)

/-- The two L differ by more than 3 % of the start line's (R500; log 27). -/
def lapsApart (ls lp : Nat × Nat) : Bool := decide (3 * (ls.2 * lp.1) < 100 * dist (ls.2 * lp.1) (lp.2 * ls.1))

/-- A calibration of period `t` and Λ `ls`, `lp` lies outside the bounds of R500. -/
def calBad (t ls lp : Nat × Nat) : Bool := lapBad t ls || lapBad t lp || lapsApart ls lp

/-- The period calibration that ends the qualification of a held TDC unit, in the next window and with no stamping (R504). -/
def Dev.qualCal (d : Dev) (u : Nat) (o : CalObs) : Dev :=
  let n := d.get (F.TDC_CFG_CALN u)
  if !d.flag F.CLK_SLKSTAT_OPEN || o.start.length < n || o.stop.length < n then d
  else
    let act := (d.tdc u).act
    d.qualOver (9 + u) (calBad (d.clkSet.periodPs d.clk.spreadPos) (lapPeriod act 0 (o.start.take n)) (lapPeriod act 1 (o.stop.take n))) 0

/-- After a period calibration: three windows in a row out of bounds fail the unit. -/
def Dev.calBounds (d : Dev) (u : Nat) : Dev :=
  let c := d.tdc u
  let n := if calBad c.t c.lamS c.lamP then Store.get (fun _ => 0) d.bist.calBad u + 1 else 0
  let d := d.onBist (fun b => { b with calBad := Store.set (fun _ => 0) b.calBad u n })
  if 3 ≤ n then (d.onBist (fun b => { b with calBad := Store.set (fun _ => 0) b.calBad u 0 })).failUnit (9 + u) 0 0 0 else d

/-- ADC_WATCHDOG: a conversion has not completed 2 TCONV after its start. -/
def Dev.adcWatchdog (d : Dev) (u : Nat) : Dev := if (d.adcRun u).isSome then d.failUnit (11 + u) 0 0 0 else d

/-- EXCITATION_LOSS: the source of a pair reports loss of regulation during a conversion; the pair is suspect. -/
def Dev.excitationLoss (d : Dev) (k : Nat) : Dev :=
  let uses (u : Nat) : Bool := (d.adcRun u).isSome && (d.adcHead u).any (fun r => needsExc (d.get (F.ADC_IN_KIND r.input)) && d.driver r.input == k)
  if uses 0 || uses 1 then d.onBist (fun b => { b with suspect := b.suspect.filter (· != 13 + k) ++ [13 + k] }) else d

/-- LOOP_REG at a boundary; `meas` in µA. -/
def Dev.loopReg (d : Dev) (meas : Nat) : Dev :=
  let d := d.put F.LOOP_STAT_MEAS (satTo 65535 meas)
  let st := d.get F.LOOP_STAT_STATE
  if !follows st || !d.enabled 17 then d.onBist (fun b => { b with loopBad := 0, loopGood := 0 })
  else
    let s := d.get F.LOOP_STAT_SETPT
    let out := decide (20000 + s < 100 * dist (4 * d.get F.LOOP_STAT_MEAS) s)
    let d := d.onBist (fun b => if out then { b with loopBad := satTo 3 (b.loopBad + 1), loopGood := 0 } else { b with loopBad := 0, loopGood := satTo 3 (b.loopGood + 1) })
    if d.bist.loopBad = 3 && !d.failedItem 17 then
      ((d.putBit F.BIST_DEGR_FAILED 17 true).noteAB 0x79 127 s (d.get F.LOOP_STAT_MEAS)).event F.BIST_EVT_FAIL Ev.bistFault
    else if d.bist.loopGood = 3 && d.failedItem 17 then
      (d.putBit F.BIST_DEGR_FAILED 17 false).event F.BIST_EVT_RESTORED Ev.bistFault
    else d

/-! ## At a cycle boundary -/

/-- Units whose test passed are released; a failed unit that qualified is restored (R497, R504). -/
def Dev.releaseDue (d : Dev) : Dev :=
  let d1 := d.bist.release.foldl (fun d i =>
    let back := d.failedItem i
    let d := d.releaseUnit i
    if back then (((d.putBit F.BIST_DEGR_FAILED i false).showExc i false).noteAB 0x72 127 i 0).event F.BIST_EVT_RESTORED Ev.bistFault else d) d
  let d2 := d1.onBist (fun b => { b with release := [], ran := 0 })
  bistAll.foldl (fun d i => if d.failedItem i then d.putBit F.BIST_DEGR_HELD i false else d) d2

/-- Enabled items whose effective period has elapsed become due (R493); a failed unit is tested by its qualification instead (R504). -/
def Dev.markDue (d : Dev) : Dev :=
  let el (i : Nat) : Bool := d.enabled i && i != 17 && !(9 ≤ i && i ≤ 14 && (d.failedItem i || d.retiredItem i))
    && (decide (d.effPeriod i ≤ (d.seconds - (d.bitem i).last) * 32768) || d.bist.spanDue.any (fun s => s.1 == i) || d.bist.suspect.contains i
      || (d.bist.cmd.any (fun c => c.1 == i)))
  let new := bistAll.filter (fun i => el i && !d.bist.due.contains i)
  d.onBist (fun b => { b with due := b.due ++ new })

/-- BIST_OVERDUE (R495). -/
def Dev.overdue (d : Dev) : Dev :=
  bistAll.foldl (fun d i =>
    let b := d.bitem i
    let age := d.seconds - b.pass
    if i != 17 && d.enabled i && !b.overdue && decide (2 * bistCover d.cellRegime i < age) then
      ((d.onBitem i (fun b => { b with overdue := true })).event F.BIST_EVT_OVERDUE Ev.bistFault).noteAB 0x76 127 i age
    else d) d

/-- The isolated test of the first due item whose conditions hold (R493, R496). -/
def Dev.isolateDue (d : Dev) : Dev :=
  match d.dueOrder.find? (fun i => isolatedItem i && d.mayIsolate i && decide (shotFloor ≤ d.sup.vpool)) with
  | some i => if d.flag F.CLK_SLKSTAT_OPEN then d else d.isolate i
  | none => d

/-- BIST after step 1 and before step 2 of a boundary (R24, R496, R497). -/
def Dev.bistBoundary (d : Dev) : Dev := (((d.releaseDue).moveRoles).markDue).overdue.isolateDue

/-- BIST_DEGR shows a PLL failure as item 16 (R510); CLR of BIST_ECC and BIST_EN's fixed bits. -/
def Dev.settleBist (d : Dev) : Dev :=
  let d := d.putBit F.BIST_DEGR_FAILED 16 (d.flag F.CLK_STAT_PLL_FAIL)
  d.putB F.BIST_ECC_CLR (bitsOf (d.reg F.BIST_ECC) 63 0 != 0)


end Sys2Proof.Machine
end

