-- ==== Sys2Proof/Machine/Label.lean ====
section
/-!
DEFINITION. The Label: classification, mirrors, HANDOVER, adoption, refusal and claim (spec/15_replacement.md R470 to R490).
The Label itself is outside the device: what it reads from it are operands, what it writes are the jobs of `Dev.label`.
-/
namespace Sys2Proof.Machine

/-! ## Records and blocks -/

/-- The first byte of a mirror slot (R472). -/
def slotByte (right : Bool) : Nat := if right then 0x0E00 else 0x0200

/-- The words of a slot. -/
def Label.slot (l : Label) (right : Bool) : List Word := if right then l.slot1 else l.slot0

/-- Word `k` of a record. -/
def recWord (ws : List Word) (k : Nat) : Word := ws.getD k 0

def recMagic (ws : List Word) : Bool := bitsOf (recWord ws 0) 71 56 == 0x3A7B
def recFormat (ws : List Word) : Bool := bitsOf (recWord ws 0) 55 48 == 1
def recMseq (ws : List Word) : Nat := bitsOf (recWord ws 0) 31 0
def recHead (ws : List Word) : Nat := bitsOf (recWord ws 1) 63 0
def recFlags (ws : List Word) : Nat := bitsOf (recWord ws 4) 71 64
def recLag (ws : List Word) : Nat := bitsOf (recWord ws 4) 63 56
def recCkseq (ws : List Word) : Nat := bitsOf (recWord ws 4) 47 0
def recCfgsum (ws : List Word) : Nat := bitsOf (recWord ws 5) 47 16
def recSite (ws : List Word) : Nat := bitsOf (recWord ws 6) 31 0

/-- The channels with a group, in ascending order (R474). -/
def recChannels (ws : List Word) : List Nat := channels.filter (fun c => (bitsOf (recWord ws 5) 15 0 >>> c) % 2 == 1)

/-- Accumulator `k` of group `g`: integer × 2^24 + residue (R474). -/
def recAcc (ws : List Word) (g k : Nat) : Nat :=
  (recWord ws (8 + 18 * g + k)).toNat * 2 ^ 24 + unpack3 ((ws.drop (8 + 18 * g + 13)).take 5) k

/-- The record's HMAC verifies under Pocket handle 3 (R474). -/
def Dev.recMacOk (d : Dev) (ws : List Word) : Bool :=
  let n := 8 + 18 * (recChannels ws).length
  d.keyUsable 3 0 && decide ((ws.drop n).take 2 = mac128 (d.keyAt 3).key (ws.take n))

/-- A slot is valid (R476). -/
def Dev.recValid (d : Dev) (ws : List Word) : Bool := recMagic ws && recFormat ws && d.recMacOk ws

/-- `a` is newer than `b` in 32-bit serial arithmetic. -/
def serialAfter (a b : Nat) : Bool := a != b && decide ((a + 2 ^ 32 - b) % 2 ^ 32 < 2 ^ 31)

/-- The newer of the slots that pass a test. -/
def newestOf (ok : List Word → Bool) (a b : List Word) : Option (List Word) :=
  if ok a then (if ok b && serialAfter (recMseq b) (recMseq a) then some b else some a)
  else if ok b then some b else none

/-- The newest valid record (R476). -/
def Dev.newestRec (d : Dev) : Option (List Word) := newestOf d.recValid d.label.slot0 d.label.slot1

/-- The record that HANDOVER is about: the newest valid one, else the newest of the form of R474. -/
def Dev.shownRec (d : Dev) : Option (List Word) :=
  match d.newestRec with
  | some r => some r
  | none => newestOf (fun ws => recMagic ws && recFormat ws) d.label.slot0 d.label.slot1

/-- The next MSEQ (R476). -/
def Dev.nextMseq (d : Dev) : Nat :=
  match d.newestRec with
  | some r => (recMseq r + 1) % 2 ^ 32
  | none => 1

/-- This head's HEADID (R474). -/
def Dev.headId (d : Dev) : Nat := d.get F.RADIO_EUI_EUI

/-- SITEID; 0 while handle 3 holds no key (R475, LBL_SUMS). -/
def Dev.siteId (d : Dev) : Nat := if d.keyState 3 = 1 || d.keyState 3 = 2 then keyDigest (d.keyAt 3).key else 0

/-- CFGSUM (R475): the trusted parameters at 0x100 to 0x1FF without learned offsets, and the channel registers as in force. -/
def Dev.cfgsum (d : Dev) : Nat :=
  let ps := (List.range 256).map (fun i => if i < 64 && i % 16 = 3 then (0 : Word) else d.param (0x100 + i))
  let cs := channels.flatMap (fun n => (List.range 9).map (fun k => d.reg (F.MET_CH_DESC n + k)))
  bytesNat ((sha256 (wordsBytes (ps ++ cs))).take 4)

/-- LBL_SUMS as it reads. -/
def Dev.lblSums (d : Dev) : Word := Word.ofN (d.cfgsum * 2 ^ 32 + d.siteId)

/-- Bytes as words, nine each. -/
def bytesWord (bs : List Nat) (k : Nat) : Word := Word.ofN (bytesNat ((bs.drop k).take 9))

/-- The identity block is right: MAGIC and CRC (R473). -/
def identOk (b : List Nat) : Bool :=
  b.take 4 == [0x4C, 0x42, 0x4C, 0x31] && decide (bytesNat ((b.drop 60).take 4) = crc32 (b.take 60))

/-- The zero-offset block's HMAC verifies under the site key (R473). -/
def Dev.zeroBlockOk (d : Dev) (b : List Nat) : Bool :=
  d.keyUsable 3 0 && (b.drop 48).take 16 == (hmacSha256 (d.keyAt 3).key (b.take 48)).take 16

/-- The Label value of path `p` (R473). -/
def Dev.labelValue (d : Dev) (o : LabelObs) (p : Nat) : Option Int :=
  let z := bytesWord o.zero (9 * p)
  let i := bytesWord o.ident (16 + 9 * p)
  if d.zeroBlockOk o.zero && bitsOf z 71 71 == 1 then some (signed 48 (bitsOf z 47 0))
  else if identOk o.ident && bitsOf i 71 71 == 1 then some (signed 48 (bitsOf i 47 0))
  else none

/-- USF_ZOFSp at Stage 2: the learned offset, else the Label's, else none (R326, R473). -/
def Dev.loadOffsets (d : Dev) (o : LabelObs) : Dev :=
  let vs := [0, 1, 2, 3].map (fun p => d.labelValue o p)
  [0, 1, 2, 3].foldl (fun d p => d.loadOffset p) (d.onLabel (fun l => { l with offs := vs }))

/-! ## Faults -/

/-- A Label fault: an entry with the byte address, FAULT and LBL_FAULT (R489). -/
def Dev.labelFault (d : Dev) (kind byte : Nat) : Dev :=
  ((d.pflAdd 4 kind 255 0 0 byte).put F.LBL_STAT_FAULT 1).raise Ev.lblFault

/-! ## HANDOVER -/

/-- The accumulators of every channel, as a base snapshot keeps them. -/
def Dev.accSnapshot (d : Dev) : List (Nat × Nat) := d.met.acc

/-- LABEL_REFUSED (R485): in HANDOVER it ends at the next boundary with CAUSE 0x0B. -/
def Dev.labelRefuse (d : Dev) (reason : Nat) : Dev :=
  let d1 := (((d.put F.LBL_STAT_SUSP 1).put F.LBL_STAT_HO 5).put F.LBL_STAT_REASON reason).noteVals 0x62 127 [reason, d.get F.LBL_STAT_CLASS]
  if d.mode = 6 then d1.onSup (fun s => { s with handoverOver := some Cause.refusedLabel }) else d1

/-- Step 5 of R482: HO = 3, or a refusal for the first failing check. -/
def Dev.handoverCheck (d : Dev) : Dev :=
  match d.shownRec with
  | none => d.labelRefuse 3
  | some r =>
    if recSite r != d.siteId then d.labelRefuse 2
    else if !d.recMacOk r then d.labelRefuse 3
    else if recCfgsum r != d.cfgsum then d.labelRefuse 5
    else (d.put F.LBL_STAT_HO 3).onLabel (fun l => { l with cand := r })

/-- The base snapshot's record in the trusted work area: HEADID, MSEQ, then each accumulator in two words (R232, R481; log 120). -/
def Dev.baseWrite (d : Dev) : Dev :=
  match d.label.base with
  | none => d
  | some b => d.workWrite workBase ([Word.ofN b.1.1, Word.ofN b.1.2] ++ (channels.flatMap (fun n => (List.range 13).flatMap (fun k =>
      let v := Store.get (fun _ => 0) b.2 (accKey n k)
      [Word.ofN (v / 2 ^ 72), Word.ofN v]))))

/-- HANDOVER_START (R481, R482 steps 1 and 2): a snapshot stored for the same record is used again. -/
def Dev.handoverStart (d : Dev) : Dev :=
  let r := d.shownRec.getD []
  let key := (recHead r, recMseq r)
  let d := ((d.changeMode 6 (d.get F.SYS_MODE_BASE) Cause.foreignLabel).put F.LBL_STAT_HO 1).noteAB 0x60 127 key.1 key.2
  let snap := (key, d.accSnapshot)
  (d.onLabel (fun l => { l with base := match l.base with
    | some b => if b.1 = key then some b else some snap
    | none => some snap })).baseWrite

/-- Step 4 of R482: the key wait, or step 5 at once. -/
def Dev.handoverKey (d : Dev) : Dev :=
  if d.keyState 3 = 1 || d.keyState 3 = 2 then d.handoverCheck
  else
    let now := d.seconds
    (d.put F.LBL_STAT_HO 2).onLabel (fun l => { l with keyFrom := now })

/-- What LBL_STAT, LBL_HEAD and LBL_LSUMS show of a read. -/
def Dev.showLabel (d : Dev) : Dev :=
  let d1 := (d.putB F.LBL_STAT_VALID0 (d.recValid d.label.slot0)).putB F.LBL_STAT_VALID1 (d.recValid d.label.slot1)
  match d.shownRec with
  | none => d1
  | some r =>
    let d2 := (d1.put F.LBL_STAT_MSEQ (recMseq r)).setReg F.LBL_LSUMS (Word.ofN (recCfgsum r * 2 ^ 32 + recSite r))
    if d.newestRec.isSome then d2.put F.LBL_HEAD_HEADID (recHead r) else d2

/-- The class of the Label by R480, from what was read. -/
def Dev.labelClass (d : Dev) : Nat :=
  let id := d.get F.LBL_ID_DEVID
  let s := [d.label.slot0, d.label.slot1]
  let known := s.filter (fun ws => recMagic ws && recFormat ws)
  if id = 0 || id = 0xFFFFFFFF then 1
  else if !s.any recMagic then 2
  else if known.isEmpty then 8
  else if !(d.keyState 3 == 1 || d.keyState 3 == 2) || !known.any (fun ws => recSite ws == d.siteId) then 6
  else match d.newestRec with
    | none => 7
    | some r =>
      if recHead r = d.headId then (if d.col.ckSeq ≤ recCkseq r + 2 then 3 else 4)
      else if recSite r = d.siteId then 5 else 6

/-- The slots with MAGIC that fail their HMAC are entered as faults; beside a valid slot an invalid one is none (R480, R489). -/
def Dev.macFaults (d : Dev) : Dev :=
  [false, true].foldl (fun d right => if recMagic (d.label.slot right) then d.labelFault 34 (slotByte right) else d) d

/-- The byte address of the slot that the classification rests on: the newest record's, or with no record of a known FORMAT the first
slot with MAGIC (R489). -/
def Dev.classByte (d : Dev) : Nat :=
  match d.shownRec with
  | some r => slotByte (d.label.slot0 != r)
  | none => slotByte (!recMagic d.label.slot0)

/-- What the device does for a class (R480). HANDOVER itself begins for CLASS 5 and 6 outside it. -/
def Dev.labelAct (d : Dev) (c : Nat) : Dev :=
  let d := d.put F.LBL_STAT_CLASS c
  match c with
  | 1 => ((d.put F.LBL_STAT_SUSP 1).note 0x64).labelFault 32 0
  | 2 => d.onLabel (fun l => { l with firstClaim := true })
  | 4 => (d.noteAB 0x65 127 (recCkseq (d.newestRec.getD [])) 0).labelFault 37 d.classByte
  | 6 => d.labelFault 36 d.classByte
  | 7 => d.macFaults.labelRefuse 3
  | 8 => (d.labelFault 35 d.classByte).labelRefuse 4
  | _ => d

/-- What the Label holds is taken up (R480): device ID, slots and path words. -/
def Dev.labelFetch (d : Dev) (o : LabelObs) : Dev :=
  (d.put F.LBL_ID_DEVID o.devid).onLabel (fun l =>
    { l with slot0 := o.slot0, slot1 := o.slot1, zeros := (List.range 4).map (fun p => bytesWord o.zero (9 * p)), jobs := [], fails := 0, mirrors := 0, lastAcc := [], cand := [], firstClaim := false, zeroDue := false })

/-- Stage 2, step 6: the Label, read before, is classified; a Label of another head starts HANDOVER, unless the device is in HOLD
(R78, R480, R482). -/
def Dev.labelRead (d : Dev) (o : LabelObs) : Dev :=
  let d := d.loadOffsets o
  let c := d.labelClass
  let d := if c != 1 && !identOk o.ident then d.labelFault 35 0 else d
  let d := if c = 1 then d else d.showLabel
  let d := d.labelAct c
  if (c = 5 || c = 6) && d.mode = 0 then d.handoverStart else d

/-- The key has become LOADED in the key wait: the Label is classified again (R482 step 4). A class that is neither 5 nor 6 ends
HANDOVER; its CAUSE is stated for a refusal alone (free value, log 28). -/
def Dev.labelRekeyed (d : Dev) : Dev :=
  if d.mode != 6 || d.get F.LBL_STAT_HO != 2 then d
  else
    let d := d.showLabel
    let c := d.labelClass
    if c = 5 || c = 6 then (d.labelAct c).handoverCheck
    else
      let d := d.labelAct c
      if d.sup.handoverOver.isSome then d
      else
        let f := d.free
        (f.2.put F.LBL_STAT_HO 0).onSup (fun s => { s with handoverOver := some (f.1 % 256) })

/-- KEYWAIT_TIMEOUT (R482, R485). -/
def Dev.keywaitTimeout (d : Dev) : Dev :=
  if d.mode = 6 && d.get F.LBL_STAT_HO = 2 && d.label.keyFrom + d.get F.LBL_CFG_KEYWAIT ≤ d.seconds then d.labelRefuse 1 else d

/-- HANDOVER_ABANDON: the supply is lost during it (R486). -/
def Dev.handoverAbandon (d : Dev) : Dev :=
  if d.mode = 6 then
    ((d.put F.LBL_STAT_HO 6).put F.LBL_STAT_SUSP 1).onSup (fun s => { s with handoverOver := none })
  else d

/-! ## Adoption -/

/-- R484: the Label's value plus what this head has added since the base snapshot. -/
def adoptAcc (label own base : Nat) : Nat := (label + (own + 2 ^ 96 - base) % 2 ^ 96) % 2 ^ 96

/-- Every accumulator of every channel in PRESENT. -/
def Dev.adoptAccs (d : Dev) (r : List Word) (base : List (Nat × Nat)) : Dev :=
  let cs := recChannels r
  (List.range cs.length).foldl (fun d g =>
    let c := cs.getD g 0
    (List.range 13).foldl (fun d k =>
      d.setAcc c k (adoptAcc (recAcc r g k) (d.accRaw c k) (Store.get (fun _ => 0) base (accKey c k)))) d) d

/-- TIDE_SEC goes to the Label's seconds rounded up, plus 1 s, where the Label is not behind; civil time stays (R484, R125). The
time from the release to the next tick is measured, not stated (log 15). -/
def Dev.adoptTime (d : Dev) (r : List Word) : Dev :=
  let now := (d.reg F.TIDE_SEC).toNat
  let lab := (recWord r 2).toNat
  if lab < now then d
  else
    let new := ((lab + 2 ^ 24 - 1) / 2 ^ 24 + 1) * 2 ^ 24
    let f := d.free
    let d := (f.2.setReg F.TIDE_SEC (Word.ofN new)).setReg F.TIDE_CIVOFS (Word.ofI ((d.reg F.TIDE_CIVOFS).toInt - ((new : Int) - now)))
    let d := d.onTide (fun t => { t with firstStep := some (f.1 % 513), haltOld := Word.ofN now })
    d.log ⟨0x21, 15, 127, Word.ofN new, bitsOf (Config.payload 0x21 1 [0, 0]) 71 32, [(Word.ofN now, 0, 0)]⟩

/-- The outage of ADOPTED in Q48.24 s (R488). -/
def Dev.adoptOutage (d : Dev) (r : List Word) : Word :=
  if recFlags r / 8 % 2 = 1 && !d.flag F.SYS_START_TIDE_COLD then
    Word.ofI (((d.reg F.TIDE_SEC).toNat : Int) + (d.reg F.TIDE_CIVOFS).toInt - ((recWord r 2).toNat + (recWord r 3).toInt))
  else BitVec.allOnes 72

/-- ADOPTION of the candidate (R484, R482 steps 6 and 7); the checkpoint and the mirror follow at the same boundary. -/
def Dev.adopt (d : Dev) : Dev :=
  let r := d.label.cand
  let base := (d.label.base.map (·.2)).getD []
  let out := d.adoptOutage r
  let d := (d.adoptAccs r base).adoptTime r
  let d := outputs.foldl (fun d j => if d.flag (F.PLS_CFG_EN j) then d.plsRebase j else d) d
  let d := d.onLabel (fun l => { l with base := none, cand := [] })
  let d := d.log ⟨0x61, 15, 127, recWord r 2, recMseq r * 256 + recFlags r, [(Word.ofN (recHead r), out, recLag r)]⟩
  (d.put F.LBL_STAT_HO 4).onSup (fun s => { s with handoverOver := some Cause.adopted })

/-- The device is ready to adopt at a boundary (R482 step 6). -/
def Dev.adoptDue (d : Dev) : Bool := d.mode == 6 && d.get F.LBL_STAT_HO == 3

/-! ## Mirrors -/

/-- The words of a mirror record, HMAC last (R474). `shut`: FLAGS bit 0. -/
def Dev.mirrorWords (d : Dev) (mseq : Nat) (shut : Bool) : List Word :=
  let cs := channels.filter (fun n => d.configured n)
  let flags := shut.toNat + 2 * (d.mode == 4).toNat + 4 * (d.flag F.SYS_START_PROV).toNat + 8 * (!d.flag F.SYS_START_TIDE_COLD).toNat
  let present := cs.foldl (fun a n => a + 2 ^ n) 0
  let head : List Word := [Word.ofN (0x3A7B * 2 ^ 56 + 2 ^ 48 + mseq % 2 ^ 32), Word.ofN d.headId, d.reg F.TIDE_SEC, d.reg F.TIDE_CIVOFS,
    Word.ofN (flags * 2 ^ 64 + d.get F.LBL_STAT_LAG * 2 ^ 56 + (d.col.ckSeq - 1) % 2 ^ 48), Word.ofN (d.cfgsum * 2 ^ 16 + present),
    Word.ofN (d.get F.COLLAR_ID_IDSUM * 2 ^ 32 + d.siteId), 0]
  let group (n : Nat) : List Word := (List.range 13).map (fun k => Word.ofN (d.acc n k)) ++ pack3 ((List.range 13).map (fun k => d.residue n k))
  let ws := head ++ cs.flatMap group
  ws ++ mac128 (d.keyAt 3).key ws

/-- A mirror record is on its way. -/
def Dev.mirrorBusy (d : Dev) : Bool := d.label.jobs.any (fun j => match j with
  | .mirror _ _ _ => true
  | .zero _ => false)

/-- A mirror record is written (R476, R479). -/
def Dev.startMirror (d : Dev) (shut claim : Bool) : Dev :=
  let m := d.nextMseq
  let ws := d.mirrorWords m shut
  let now := d.seconds
  d.onLabel (fun l => { l with jobs := l.jobs ++ [.mirror m ws claim], lastSec := now, lastAcc := d.accSnapshot })

/-- Something has changed since the last mirror, IDLE has passed, a failed write is to be written again, or the mirror of an adoption was deferred
(R477, R479, R482 step 7). -/
def Dev.mirrorChanged (d : Dev) : Bool :=
  d.label.lastAcc != d.accSnapshot || decide (d.label.lastSec + d.get F.LBL_CFG_IDLE ≤ d.seconds) || d.label.fails != 0
    || d.label.firstClaim || d.newestRec.any (fun r => recHead r != d.headId)

/-- Mirroring runs at all (R477); a record needs the site key (R256, R474). -/
def Dev.mirrorOn (d : Dev) : Bool := d.flag F.LBL_CFG_EN && d.keyUsable 3 0 && !d.flag F.LBL_STAT_SUSP && d.mode != 6 && !d.held.contains (17, 0)

/-- LABEL_MIRROR at a cycle boundary (R477, R478), and a claim ordered by LBL_CMD (R487). Every Label write is paid from the band of the shot floor: a
claim below it waits for a boundary above (R43). -/
def Dev.mirrorBoundary (d : Dev) : Dev :=
  if d.flag F.LBL_CMD_CLAIM && d.keyUsable 3 0 && !d.mirrorBusy && decide (shotFloor ≤ d.sup.vpool) && !d.held.contains (17, 0) then
    ((d.put F.LBL_STAT_SUSP 0).onLabel (fun l => { l with base := none })).startMirror false true
  else if !d.mirrorOn || d.mirrorBusy || !d.mirrorChanged then d
  else if d.sup.vpool < shotFloor then d.bump F.LBL_STAT_LAG
  else d.startMirror false d.label.firstClaim

/-- The final mirror of an orderly shutdown, step B of R94 (R477). -/
def Dev.mirrorFinal (d : Dev) : Dev := if d.mirrorOn then d.startMirror true d.label.firstClaim else d

/-- The mirror that follows an adoption, before HANDOVER is left; below the shot floor it is deferred (R43, R478, R482 step 7). -/
def Dev.mirrorAdopted (d : Dev) : Dev :=
  if !d.flag F.LBL_CFG_EN || d.flag F.LBL_STAT_SUSP || d.mirrorBusy then d
  else if d.sup.vpool < shotFloor then d.bump F.LBL_STAT_LAG
  else d.startMirror false false

/-- The zero-offset block that is due is written, HMAC last, once VPOOL allows a Label write (R43, R327, R473). -/
def Dev.zeroFlush (d : Dev) : Dev :=
  if d.label.zeroDue && decide (shotFloor ≤ d.sup.vpool) && d.keyUsable 3 0 && !d.held.contains (17, 0) then
    let body := wordsBytes ((List.range 4).map (fun i => d.label.zeros.getD i 0)) ++ List.replicate 12 0
    d.onLabel (fun l => { l with zeroDue := false, jobs := l.jobs ++ [.zero (body ++ (hmacSha256 (d.keyAt 3).key body).take 16)] })
  else d

/-- The zero-offset block takes one path's new value and is to be written again (R327, R473). -/
def Dev.writeZeros (d : Dev) (p : Nat) (v : Int) : Dev :=
  d.onLabel (fun l => { l with zeros := (List.range 4).map (fun i => if i = p then Word.ofN (2 ^ 71 + unsigned 48 v) else l.zeros.getD i 0), zeroDue := true })

/-- ZERO_LEARN_END: after NZ boundaries each path of MASK is accepted or rejected, in their order; an accepted offset goes into the
Label's zero-offset field (R327). Without a usable site key the block has no HMAC to carry and is not written (R473). -/
def Dev.zeroLearnEnd (d : Dev) : Dev :=
  if d.usf.zMask = 0 || d.usf.zLeft != 0 then d
  else
    let m := d.usf.zMask
    let d := [0, 1, 2, 3].foldl (fun d p =>
      if (m >>> p) % 2 = 1 then
        let r := d.zeroPath p
        match r.2 with
        | some v => if r.1.keyUsable 3 0 then r.1.writeZeros p v else r.1
        | none => r.1
      else d) d
    d.zeroFlush.zeroOver (d.get F.USF_ZCTL_STAT)

/-- A mirror record stands in its slot (R476, R479, R487). -/
def Dev.mirrorWritten (d : Dev) (m : Nat) (ws : List Word) (claim full : Bool) : Dev :=
  let old := d.newestRec.getD []
  let d := d.onLabel (fun l => if m % 2 = 1 then { l with slot1 := ws } else { l with slot0 := ws })
  let d := d.onLabel (fun l => { l with fails := 0, mirrors := if full then 0 else l.mirrors + 1, firstClaim := if claim then false else l.firstClaim })
  let d := (((d.put F.LBL_STAT_MSEQ m).put F.LBL_STAT_LAG 0).put F.LBL_STAT_WROTE 1).put F.LBL_STAT_PROT 0
  let d := (d.showLabel).raise Ev.lblDone
  if claim then (d.put F.LBL_CMD_CLAIM 0).noteAB 0x63 127 (recHead old) (recMseq old) else d

/-- A failed write (R479): its fault, suspension after eight in a row, and LABEL_CHANGED for another device ID. -/
def Dev.mirrorFailed (d : Dev) (m : Nat) (o : LabelDone) : Dev :=
  let kept := d.get F.LBL_ID_DEVID
  let kind := if o.devid = 0 || o.devid = 0xFFFFFFFF then 32 else if o.devid != kept then 39 else if o.bp != 0 then 38 else 33
  let n := d.label.fails + 1
  let d := ((d.onLabel (fun l => { l with fails := n })).labelFault kind (slotByte (m % 2 == 1))).putB F.LBL_STAT_PROT (o.bp != 0)
  let d := if o.devid = kept then d else (d.put F.LBL_STAT_SUSP 1).noteAB 0x66 127 kept o.devid
  if n = 8 then (d.put F.LBL_STAT_SUSP 1).noteAB 0x67 127 kind 0 else d

/-- LABEL_WRITE_DONE: the oldest write under way ends (R479). While VDDIO is absent it has failed (R522); the zero-offset block then stays due
(log 126). -/
def Dev.labelWriteDone (d : Dev) (o : LabelDone) : Dev :=
  match d.label.jobs with
  | [] => d
  | .zero _ :: js => (d.onLabel (fun l => { l with jobs := js, zeroDue := l.zeroDue || d.pads.lost })).raise Ev.lblDone
  | .mirror m ws claim :: js =>
    let d := d.onLabel (fun l => { l with jobs := js })
    let full := (d.label.mirrors + 1) % 2 ^ d.get F.LBL_CFG_VERIFY == 0
    if !d.pads.lost && !o.wel && o.bp = 0 && o.macOk && (o.allOk || !full) then d.mirrorWritten m ws claim full else d.mirrorFailed m o

/-- LABEL_CLAIM: CLAIM = 1 in SERVICE orders a claim; in any other mode it is not accepted (R487). -/
def Dev.labelClaim (d : Dev) : Dev := if d.mode = 5 then d.put F.LBL_CMD_CLAIM 1 else d

/-- LBL_STAT.BUSY. -/
def Dev.settleLabel (d : Dev) : Dev := d.putB F.LBL_STAT_BUSY (!d.label.jobs.isEmpty)

/-! ## Restoring from the Label -/

/-- The mirror record that can serve R80 as source 2: valid, and of this head. -/
def Dev.ownMirror (d : Dev) : Option (List Word) :=
  match d.newestRec with
  | some r => if recHead r = d.headId then some r else none
  | none => none

/-- Accumulators from a mirror record (R80). -/
def Dev.mirrorRestore (d : Dev) (r : List Word) : Dev :=
  let cs := recChannels r
  (List.range cs.length).foldl (fun d g =>
    let c := cs.getD g 0
    (List.range 13).foldl (fun d k => d.setAcc c k (recAcc r g k)) d) d

end Sys2Proof.Machine
end

