-- ==== Sys2Proof/Machine/Start.lean ====
section
/-!
DEFINITION. Resets and the start stages (spec/03_start_and_shutdown.md R70 to R93, R97 to R102).
-/
namespace Sys2Proof.Machine

/-! ## Resets -/

/-- Registers a chip reset leaves alone: the always-on domain's (the Tideline, SYS_RST), and what shows the fuses, the Pocket and
the rings of the nonvolatile store (R91). -/
def keptReg (a : Nat) : Bool :=
  a / 0x400 == 0x13 || a == F.SYS_RST || a == F.SYS_FUSE || a == F.COLLAR_POCKET || a == F.COLLAR_LOGSTAT || a == F.MET_LOGSTAT

/-- What the supplies and the always-on domain keep over a chip reset. -/
def Supply.afterReset (s : Supply) : Supply :=
  { Supply.init with loopp := s.loopp, vpool := s.vpool, vcell := s.vcell, surplus := s.surplus, dieTemp := s.dieTemp, latch := s.latch }

/-- What the nonvolatile store keeps of the metering block: the rings' layout state (R367 to R373). -/
def Met.afterReset (m : Met) : Met :=
  { Met.init with perH := m.perH, perD := m.perD, genH := m.genH, genD := m.genD, newH := m.newH, newD := m.newD, flagsH := m.flagsH, flagsD := m.flagsD }

/-- What the nonvolatile store keeps of the Collar's state. -/
def Col.afterReset (c : Col) : Col :=
  { Col.init with csSeq := c.csSeq, unclean := c.unclean, marked := c.marked, savedA := c.savedA, savedB := c.savedB, aonLost := c.aonLost }

/-- The whole chip but the always-on domain and the nonvolatile store is at its reset values; SRAM is lost (R91, R93).
SYS_START.TIDE_COLD stays until a master sets the time (R79; log 30). -/
def Dev.chipClear (d : Dev) : Dev :=
  let cold := d.get F.SYS_START_TIDE_COLD
  let regs := d.regs.filter (fun r => keptReg r.1)
  let mem := d.mem.filter (fun m => decide (0x80000 ≤ m.1))
  let ecc := d.ecc.filter (fun m => decide (0x80000 ≤ m.1))
  let d1 : Dev := { Dev.init with regs := regs, mem := mem, ecc := ecc, sup := d.sup.afterReset, tide := d.tide, met := d.met.afterReset, pocket := d.pocket, radio := d.radio.restart, freeN := d.freeN, col := d.col.afterReset, pads := { Pads.init with lost := d.pads.lost } }
  let d2 := d1.onLoop (fun l => { l with pfsum := d.loop.pfsumNv, pfsumNv := d.loop.pfsumNv })
  let d3 := d2.onLabel (fun l => { l with base := d.label.base })
  d3.put F.SYS_START_TIDE_COLD cold

/-- Stage 1 with the loop: LOOPP is present, the start regulator feeds VMAIN (R39, R71). -/
def Dev.stageOne (d : Dev) : Dev :=
  let loop := decide (8000 ≤ d.sup.loopp) && d.sup.latch != some true
  let d := (d.put F.SYS_MODE_STAGE 1).putB F.PWR_STAT_VIN_OK loop
  d.put F.PWR_STAT_SRC (if loop then 3 else if d.sup.latch = some true then 2 else 1)

/-- The device stops without step A of a shutdown: the next start finds the stop abrupt (R97, R98). -/
def Dev.abruptStop (d : Dev) : Dev := d.onCol (fun c => { c with unclean := true })

/-- A chip reset by source `code` of R91, and Stage 1 (R102). -/
def Dev.chipReset (d : Dev) (code : Nat) : Dev :=
  let d := (d.chipClear.put ⟨F.SYS_RST, code - 1, code - 1⟩ 1).put F.SYS_RST_LAST code
  d.stageOne

/-- The rails go off; the always-on domain alone remains (R94). -/
def Dev.powerOff (d : Dev) : Dev := d.chipClear

/-- The device has power: a stage is in progress or done. -/
def Dev.powered (d : Dev) : Bool := d.get F.SYS_MODE_STAGE != 0

/-- LOOP_PRESENCE: LOOPP reaches 8.0 V (R71, R74, R91). Where the device runs already it is a loss that ended before its
confirmation, or in START a pending one (R58, R89). -/
def Dev.loopPresence (d : Dev) (loopp : Nat) : Dev :=
  if loopp < 8000 then d
  else
    let d := d.onSup (fun s => { s with loopp := loopp })
    if d.sup.latch = some true || d.battery then d
    else if !d.powered then d.chipReset 1
    else if d.get F.SYS_MODE_STAGE = 1 then ((d.put F.PWR_STAT_VIN_OK 1).put F.PWR_STAT_SRC 3).onSup (fun s => { s with startLoss := none })
    else if d.flag F.PWR_STAT_VIN_OK then d.buckBack
    else if d.get F.SYS_MODE_STAGE < 4 && d.mode != 7 && d.col.shut.isNone then
      (((d.put F.PWR_STAT_VIN_OK 1).event F.PWR_EVT_VIN_BACK Ev.pwr).setVmain 0).onSup (fun s => { s with startLoss := none })
    else d

/-- CELL_CONFIRM: VCELL has stayed above 2.90 V for 10 ms (R74, R75). -/
def Dev.cellConfirm (d : Dev) (vcell : Nat) : Dev :=
  if vcell ≤ 2900 || d.sup.latch = some false || d.sup.cellStart then d
  else
    let d := d.onSup (fun s => { s with vcell := vcell })
    if !d.powered then ((d.chipReset 2).put F.PWR_STAT_SRC 2).onSup (fun s => { s with cellStart := true })
    else if d.get F.SYS_MODE_STAGE = 1 && !d.flag F.PWR_STAT_VIN_OK then d.onSup (fun s => { s with cellStart := true })
    else d

/-- An abrupt chip reset: BOR, NRST or WDOG (R91, R97). A battery start is confirmed again only after a brown-out. -/
def Dev.abruptReset (d : Dev) (code : Nat) : Dev :=
  if !d.powered then d
  else
    let again := d.sup.latch == some true && code != 3
    (d.abruptStop.chipReset code).onSup (fun s => { s with cellStart := again })

/-- WDOG: the watchdog counts 12 s of LF ticks without service (R91, R92). -/
def Dev.watchdog (d : Dev) : Dev :=
  if 2 ≤ d.get F.SYS_MODE_STAGE && decide (d.col.wdTick + 393216 ≤ d.get F.TIDE_TICKS_TICKS) then d.abruptReset 5 else d

/-- AON_DOMAIN_LOSS: below 1.4 V everything but the nonvolatile store is lost (R74, R79, R102). -/
def Dev.aonLoss (d : Dev) : Dev :=
  let d := (if d.powered then d.abruptStop else d).powerOff
  let d := d.onRegs (fun r => r.filter (fun e => !(e.1 / 0x400 == 0x13 || e.1 == F.SYS_RST)))
  ((d.onTide (fun _ => Tide.init)).onSup (fun s => { s with latch := none })).onCol (fun c => { c with aonLost := true })

/-! ## Billing time and state -/

/-- The largest TIDE_SEC in the valid checkpoints and the legal log; none where there is neither (R79). -/
def Dev.largestTime (d : Dev) : Option Nat :=
  let n := d.logNext
  let cks := ((List.range 25).filter (fun s => d.ckValid s)).map (fun s => (d.load (ckAddr s + 1)).toNat)
  let recs := ((List.range (min n 6144)).map (fun i => logAddr (n - 1 - i))).filter (fun a => bitsOf (d.load a) 71 64 != 0xFF)
  (cks ++ recs.map (fun a => (d.load (a + 1)).toNat)).foldl (fun b v => some (max v (b.getD 0))) none

/-- Where billing state comes from (R80): 0 checkpoint, 1 Label mirror, 2 first start, 3 none. -/
def Dev.billingSource (d : Dev) : Nat :=
  if d.ckLatest.isSome then 0 else if d.ownMirror.isSome then 1 else if d.ckBlank then 2 else 3

/-- A field's trusted value, else its reset value (R79, R257). -/
def Dev.trustedField (d : Dev) (f : Fld) : Dev :=
  let a := rwtAt f.addr
  d.put f (if bitsOf (d.load (a + 1)) f.hi f.lo = 0 then bitsOf (resetWord f.addr) f.hi f.lo else bitsOf (d.load a) f.hi f.lo)

/-- A cold Tideline start (R79). -/
def Dev.coldTime (d : Dev) (src : Nat) : Dev :=
  let slot := ckAddr (d.ckLatest.getD 0)
  let new := match d.largestTime with
    | some t => ((t + 2 ^ 24 - 1) / 2 ^ 24 + 1) * 2 ^ 24
    | none => 0
  let civ : Word := if src = 0 then d.load (slot + 282) else if src = 1 then recWord (d.ownMirror.getD []) 3 else 0
  let d := [F.TIDE_TRIM_TRIM, F.TIDE_AGE_AGE, F.TIDE_AGE0_EPOCH, F.TIDE_WDAY_PHASE, F.TIDE_CTL_DEAD, F.TIDE_CTL_RELSRC,
    F.TIDE_CTL_RELPIN].foldl (fun d f => d.trustedField f) d
  let d := ((d.put F.TIDE_CTL_STOPPED 0).put F.TIDE_CTL_HALTED 0).put F.TIDE_CTL_HALT 0
  let d := d.setReg F.TIDE_CIVOFS civ
  let d := if src = 0 then
      let d0 := (d.setReg F.TIDE_SEC (d.load (slot + 1))).put F.TIDE_WDAY_WDAY (bitsOf (d.load (slot + 283)) 2 0)
      Dev.followDay d0 (d0.setReg F.TIDE_SEC (Word.ofN new))
    else (d.put F.TIDE_WDAY_WDAY 0).setReg F.TIDE_SEC (Word.ofN new)
  let f := d.free
  let d := f.2.onTide (fun t => { t with phase := 0, firstStep := some (f.1 % 513) })
  ((d.recomputeE.log ⟨0x20, 15, 127, Word.ofN new, 0, []⟩).put F.SYS_START_TIDE_COLD 1).onCol (fun c => { c with aonLost := false })

/-- Stage 2, step 4 (R80): accumulators, the next checkpoint SEQ, the time of the last checkpoint, and the records. -/
def Dev.restoreBilling (d : Dev) (src : Nat) : Dev :=
  let d := d.put F.SYS_START_CKPT src
  let next (d : Dev) (seq sec : Nat) : Dev := d.onCol (fun c => { c with ckSeq := seq, lastCk := sec })
  match src with
  | 0 =>
    let s := d.ckLatest.getD 0
    next (d.ckRestore s) (d.ckSeqOf s + 1) (bitsOf (d.load (ckAddr s + 1)) 71 24)
  | 1 =>
    let r := d.ownMirror.getD []
    (next (d.mirrorRestore r) (recCkseq r + 1) (bitsOf (recWord r 2) 71 24)).noteAB 0x05 127 (recCkseq r) 0
  | 2 => ((next d 0 d.seconds).put F.SYS_START_FIRST 1).note 0x04
  | _ => next d 0 d.seconds

/-! ## The clean shutdown record -/

/-- Its first word (R99). -/
abbrev qsAddr : Nat := 0x8FFF0

/-- The first Stage 2 condition of R87 that the record fails; 0 where none does. `ck`: the checkpoint SEQ restored. -/
def Dev.quickEval (d : Dev) (ws : List Word) (cold : Bool) (ck : Nat) : Nat :=
  let w (i : Nat) : Word := ws.getD i 0
  if w 0 = 0 then 1
  else if bitsOf (w 0) 71 48 != 0xC1EA01 || ws.drop 14 != mac128 (d.keyAt 0).key (ws.take 14) || d.badIn qsAddr 16 then 2
  else if decide ((w 1).toNat + 86400 * 2 ^ 24 < (d.reg F.TIDE_SEC).toNat) then 3
  else if cold then 5
  else if bitsOf (w 9) 47 0 != ck then 6 else 0

/-- QUICK_START_EVAL at Stage 2, step 5: the record is copied, judged and invalidated (R87, R88). -/
def Dev.quickStart (d : Dev) (cold : Bool) : Dev :=
  let ws := d.loadAll qsAddr 16
  let d1 := d.put F.SYS_START_QSR (d.quickEval ws cold (d.col.ckSeq - 1))
  (d1.store qsAddr 0).onCol (fun c => { c with qs := some ws, csSeq := max c.csSeq (bitsOf (ws.getD 0 0) 31 0 + 1) })

/-- Under quick start the saved tables and the learned drift come back (R100, R306, R432). -/
def Dev.quickRestore (d : Dev) : Dev :=
  let w := (d.col.qs.getD []).getD 11 0
  let a := d.col.savedA
  let b := d.col.savedB
  let d := if bitsOf w 0 0 = 1 then (d.tdcSet 0 (fun c => { c with act := a })).showHits 0 else d
  let d := if bitsOf w 1 1 = 1 then (d.tdcSet 1 (fun c => { c with act := b })).showHits 1 else d
  if bitsOf w 2 2 = 1 then
    let e := signed 24 (bitsOf w 71 48)
    (d.putS F.MAC_DRIFT_LEARNED e).onRadio (fun r => { r with restored := true, savedE := e })
  else d

/-! ## Stage 2 -/

/-- The Collar sets the HOME of every Seam block that it assigns to a channel to COLLAR (R245, R271). -/
def Dev.homeBlocks (d : Dev) (ns : List Nat) : Dev :=
  ns.foldl (fun d n => (Config.channelBlocks n).foldl (fun d b => d.put (F.SEAM_REC_HOME (b % 256)) Own.collar) d) d

/-- Stage 2, steps 1 and 2: the Collar leaves reset; SRAM is zero, its inputs routed, the trusted values loaded (R78, R170, R233,
R257, R292, R444). -/
def Dev.stageTwo (d : Dev) : Dev :=
  let now := d.get F.TIDE_TICKS_TICKS
  let d := ((d.put F.SYS_MODE_STAGE 2).put F.SYS_START_PROV 1).onCollarRun (fun _ => Run.running)
  let d := (d.onCol (fun c => { c with wdTick := now })).routeCollar
  let d := d.loadTrusted
  let d := d.homeBlocks (channels.filter (fun n => d.configured n))
  let d := (d.onBist (fun b => { b with spares := Config.spareBlocks.map (· % 256) })).clampPlan.clampWur
  let right := d.col.marked
  let d := (d.putB F.COLLAR_IMG_ACTL right).putB F.COLLAR_IMG_ACTR right
  ((d.put F.COLLAR_ID_ROMVER Config.romVersion).put F.COLLAR_ID_TRVER d.sealVersion).put F.COLLAR_ID_IDSUM d.idsum

/-- The boot chain holds (R78 step 2, R233). -/
def Dev.bootOk (d : Dev) : Bool := d.rootOk && d.sealMatches && d.sealMacOk

/-- Stage 2 reads the nonvolatile store: what it finds uncorrectable is recorded, and a record of the trusted work area that holds such a word is invalid
(R509). A code-density table is then rebuilt (R101), a base snapshot taken again; a Pocket slot is EMPTY and the value of a high-water mark open
(log 120). -/
def Dev.storeCheck (d : Dev) : Dev :=
  let d := (((d.nvFound 0x80000 0x7000).nvFound 0x87000 0xFF0).nvFound 0x8E000 0x1F40).nvFound 0x8FFF0 16
  let a := if d.badIn (workTable 0) 0x400 then none else d.col.savedA
  let b := if d.badIn (workTable 1) 0x400 then none else d.col.savedB
  let d := d.onCol (fun c => { c with savedA := a, savedB := b })
  let d := (List.range 16).foldl (fun d h => if d.badIn (workSlot h) 11 then (d.onPocket (fun p => Store.erase p h)).setKeyState h 0 else d) d
  let d := [4, 5, 6].foldl (fun d h =>
    if d.badIn (workHwm h) 3 then
      let f := d.free
      f.2.onRadio (fun r => { r with hwm := Store.set (fun _ => 0) r.hwm h (f.1 % 2 ^ 32) })
    else d) d
  if d.badIn workBase 0x200 then d.onLabel (fun l => { l with base := none }) else d

/-- Fallback metering starts, T1 at 4 s, unless the device is in HOLD (R78 step 7). -/
def Dev.stageTwoMeter (d : Dev) : Dev :=
  if d.mode = 7 then d else d.fbStart.rearmT1 131072

/-- What a start goes on with after the loss of the loop: the cell where one is fitted, else the pool (R89). -/
def Dev.lossSrc (d : Dev) : Nat := if d.flag F.PWR_CFG_BACKUP then 2 else d.standbySrc

/-- Stage 2 is complete (R70, R82, R90): HIRQ, Stage 3 in progress, full run on a loop installation (R85). -/
def Dev.stageTwoEnd (d : Dev) (t2 : Nat) : Dev :=
  let now := d.seconds
  let full := decide (3000 ≤ d.sup.vpool)
  let d := ((d.put F.SYS_START_T2 (satTo 4095 t2)).put F.SYS_MODE_STAGE 3).irq Irq.start
  let d := d.onSup (fun s => { s with filled := full, waitFrom := now })
  let d := if d.flag F.PWR_STAT_VIN_OK then d.put F.PWR_STAT_SRC 0 else if d.battery then d else d.put F.PWR_STAT_SRC d.lossSrc
  if d.battery || d.mode = 7 then d.toLean else d.startLock

/-- The device is in Stage 1 with its supply, or what it goes on with after a loss, and the HF crystal running (R74 to R77, R89). -/
def Dev.stageTwoReady (d : Dev) : Bool :=
  d.get F.SYS_MODE_STAGE == 1 && d.flag F.CLK_STAT_HF_OK && (d.flag F.PWR_STAT_VIN_OK || d.sup.cellStart || d.sup.startLoss.isSome)

/-- The trusted PWR_CFG.INST goes into the latch; a battery start on a loop installation goes back to Stage 1 and waits for
LOOPP (R74, R75). -/
def Dev.latchInst (d : Dev) : Dev :=
  let b := d.battery
  d.onSup (fun s => { s with latch := some b })

/-- Outgoing frame counters resume, and the Label's restored state is shown (R444). -/
def Dev.stageTwoBilling (d : Dev) (o : LabelObs) : Dev :=
  let d := d.labelFetch o
  let src := d.billingSource
  let cold := d.col.aonLost || d.flag F.TIDE_CTL_STOPPED
  let d := if cold then d.coldTime src else d.recomputeE
  let d := d.restoreBilling src
  let d := if src = 3 then d.holdEnterIf Cause.trusted false else d
  let d := d.quickStart cold
  let d := outputs.foldl (fun d j => if d.flag (F.PLS_CFG_EN j) then d.plsRebase j else d) d
  d.labelRead o

/-- Where no first fallback measurement will come, ABRUPT is written as Stage 2 ends; the outage of R82 is then not stated (R98; log 15). -/
def Dev.abruptInHold (d : Dev) : Dev :=
  if d.flag F.SYS_START_ABRUPT && !d.col.fb then
    let f := d.free
    f.2.noteAB 0x03 127 (d.get F.SYS_RST_LAST) (f.1 % 2 ^ 40)
  else d

/-- STAGE2 (R78): the steps in order. `testen`: TESTEN was high at Stage 1 (R76); `t2`: its completion from the start reference in
0.1 ms (R70). -/
def Dev.stage2 (d : Dev) (o : LabelObs) (testen : Bool) (t2 : Nat) : Dev :=
  if !d.stageTwoReady then d
  else
    let back := d.sup.cellStart && d.sup.latch.isNone
    let dirty := d.col.unclean
    let d := d.stageTwo.latchInst
    if back && !d.battery then
      (d.note 0x07).chipClear.stageOne
    else
      let d := (if d.bootOk then d else d.holdEnterIf Cause.trusted false).storeCheck
      let d := d.stageTwoBilling o
      let d := (if dirty then d.put F.SYS_START_ABRUPT 1 else d).onCol (fun c => { c with unclean := true })
      let d := if testen then d.note 0x06 else d
      let d := d.fcRestore.bistStart
      let d := d.stageTwoMeter
      let d := if d.mode = 6 then d.handoverKey else d
      (d.stageTwoEnd t2).abruptInHold

/-! ## The first fallback measurement -/

/-- What one measurement of the source channel says, over `p` (R82, R381). -/
def Dev.fbValue (d : Dev) (fb : FbMeas) (p : Nat) : Dev :=
  let n := d.get F.LOOP_MAP_CHAN
  if !d.fbCarries n then d
  else
    let r := d.fbSegment n p fb
    let s := r.2.1
    let lim (code : Nat) (x : Int) : Nat := plausible (d.amountLimit n code s.dur) x
    let a : Applied := ⟨s.rev, s.quad, s.dur, lim 1 s.a1, lim 2 s.a2, lim 3 s.a3⟩
    if d.get F.LOOP_MAP_QTY = 4 || r.2.2 / 2 % 2 = 1 then r.1 else r.1.loopValue (r.1.primary [a] p) p

/-- FIRST_FALLBACK: the loop follows the measurement where VPOOL allows it, integration starts, and the outage is known
(R46, R82, R98). -/
def Dev.firstFallback (d : Dev) (fb : FbMeas) : Dev :=
  if d.get F.SYS_MODE_STAGE != 3 || d.loop.firstFb || !d.col.fb then d
  else
    let d := if d.sup.filled then d.fbValue fb 67108864 else d
    let now := d.tmrCount 1
    let out := d.seconds - d.col.lastCk
    let d := (d.onLoop (fun l => { l with firstFb := true })).onCol (fun c => { c with fbFrom := now, outage := out })
    if d.flag F.SYS_START_ABRUPT then d.noteAB 0x03 127 (d.get F.SYS_RST_LAST) out else d

/-! ## Stage 3 -/

/-- IMAGE_VERIFIED (R83, R87 condition 4): the start-up BIST follows where it is not skipped (R84, R506). -/
def Dev.imageVerified (d : Dev) : Dev :=
  if d.get F.SYS_MODE_STAGE != 3 || d.mode = 7 then d
  else
    let m := d.col.marked
    let d := (d.nvFound (imgBase m) (d.imgLen m)).nvFound (imgBase (!m)) (if (d.imgFails m false).isNone then 0 else d.imgLen (!m))
    let b := if (d.imgFails m false).isNone then m else !m
    match d.imgFails b false with
    | some _ => (d.imgInvalid m ((d.imgFails m false).getD 0)).holdEnter Cause.sleeves
    | none =>
      let h := d.imgHash b
      let d := ((d.setVal b true).setActive false b).setActive true b
      let same := ((d.col.qs.getD []).drop 4).take 4 == hashWords h
      let q := d.get F.SYS_START_QSR
      if q = 0 && same then (d.put F.SYS_START_BIST_SKIP 1).quickRestore
      else
        let d := if (q = 0 || q = 5 || q = 6) && !same then d.put F.SYS_START_QSR 4 else d
        if d.sup.startLoss.isSome then d else d.put F.BIST_RUN_STATE 3

/-- The items of the start-up BIST (R506). -/
abbrev startItems : List Nat := [0, 1, 8, 15, 16, 3, 4, 5, 6, 7, 9, 10, 11, 13, 12, 14]

/-- A Sleeve that fails its items at start is not started; it qualifies like one that faulted, and with both HOLD follows
(R26, R502, R504). -/
def Dev.failSleeveAtStart (d : Dev) (i slice detail : Nat) : Dev :=
  let d := ((d.putBit F.BIST_DEGR_FAILED i true).bistFailNote i slice 1 detail).onCol (fun c => { c with waitSlice := c.waitSlice.filter (· != i - 5) ++ [i - 5] })
  if d.bit F.BIST_DEGR_FAILED 6 && d.bit F.BIST_DEGR_FAILED 7 then d.holdEnter Cause.sleeves else d

/-- An item passed the full pass of the start-up BIST (R506). -/
def Dev.passedAtStart (d : Dev) (i : Nat) : Dev :=
  let now := d.seconds
  d.onBitem i (fun b => { b with passes := satInc 65535 b.passes, pass := now, last := now })

/-- STARTUP_BIST_DONE (R506): `failed` are the items that failed, each with the slice and its detail, `two` the words with a two-bit
correction, `ms` the duration. Failures act as in running (R501, R502, R509); of items 11 to 14 the twin of a failed member goes
untested. -/
def Dev.startupBist (d : Dev) (failed : List (Nat × Nat × Nat)) (two : List (Nat × Nat)) (ms : Nat) : Dev :=
  if d.get F.SYS_MODE_STAGE != 3 || d.mode = 7 || d.get F.SYS_START_QSR = 0 || d.sup.startLoss.isSome then d
  else
    let bad (i : Nat) : Bool := d.enabled i && failed.any (fun f => f.1 == i)
    let run := startItems.filter (fun i => d.enabled i && !((i = 12 && bad 11) || (i = 14 && bad 13)))
    let d1 := (run.filter bad).foldl (fun d i =>
      let f := ((failed.find? (fun f => f.1 == i)).map (·.2)).getD (0, 0)
      if i = 6 || i = 7 then d.failSleeveAtStart i f.1 f.2 else d.failItem i f.1 1 f.2) d.bistIdle
    let d1 := (run.filter (fun i => !bad i)).foldl Dev.passedAtStart (if run.contains 5 then d1.scrub 0x80000 0x80000 two else d1)
    let ok := (run.filter (fun i => !bad i)).foldl (fun m i => m + 2 ^ i) 0
    d1.noteAB 0x77 127 ok ms

end Sys2Proof.Machine
end

