-- ==== Sys2Proof/Machine/Shutdown.lean ====
section
/-!
DEFINITION. Loss and return of the supplies, the orderly shutdown, and the boundary triggers (spec/02_power_and_modes.md R54 to R62,
spec/03_start_and_shutdown.md R89, R94 to R99, spec/16_selftest_and_failover.md R507, spec/08_collar.md R258, R268).
-/
namespace Sys2Proof.Machine

/-! ## The cycle in progress -/

/-- The elapsed time of the cycle in progress, LSB 2^-24 s. -/
def Dev.elapsed (d : Dev) : Nat := d.tmrCount 1 * 512

/-- One channel's cycle is closed (R95): its increments go to billing where shots were fired or VPOOL stands at the shot floor,
else a GAP record carries the elapsed time. -/
def Dev.closeChannel (d : Dev) (dur cyc : Nat) (fb : FbMeas) (n : Nat) : Dev :=
  if !d.configured n || d.kind n == kDerived || d.posted n cyc then d
  else if decide (shotFloor ≤ d.sup.vpool) || (d.fbPath n fb).isSome then d.fbPost n dur cyc fb
  else d.gap n dur

/-- R95: the cycle in progress is completed or closed before the shutdown. -/
def Dev.closeCycle (d : Dev) (fb : FbMeas) : Dev :=
  let dur := d.elapsed
  let cyc := d.get F.COLLAR_CYCLE_CYCLE
  channels.foldl (fun d n => d.closeChannel dur cyc fb n) d

/-- VIGIL entry and loop return end the cycle in progress early (R59; log 29): the fallback channels post now, a Sleeve's post may
still come as that of the ended cycle. -/
def Dev.cutCycle (d : Dev) (fb : FbMeas) : Dev :=
  let cyc := d.get F.COLLAR_CYCLE_CYCLE
  let d := d.fbCycle d.elapsed fb
  let open_ := (channels.filter (fun n => d.postDue n cyc && !d.posted n cyc)).map (fun n => (n, cyc))
  d.onCol (fun c => { c with catchup := c.catchup ++ open_.filter (fun e => !c.catchup.contains e) })

/-- COLLAR_CYCLE counts the cycle that ended. -/
def Dev.nextCycle (d : Dev) : Dev := d.pulseMark.put F.COLLAR_CYCLE_CYCLE (d.get F.COLLAR_CYCLE_CYCLE + 1)

/-! ## Orderly shutdown -/

/-- E_RES in units of 1/20 µJ (R94). -/
def Dev.reserve (d : Dev) : Nat := d.get F.PWR_CFG_POOLC * (d.sup.vpool * d.sup.vpool - 4840000)

/-- E_RES is at least so many µJ. -/
def Dev.reserveAt (d : Dev) (uj : Nat) : Bool := decide (20 * uj ≤ d.reserve)

/-- The level E_RES reaches: 0 below step A, 1 step A, 2 B, 3 C, 4 D (R94). -/
def Dev.shutLevel (d : Dev) (noD : Bool) : Nat :=
  if d.reserveAt 16000 then (if noD then 3 else 4) else if d.reserveAt 3000 then 2 else if d.reserveAt 2000 then 1 else 0

/-- The rails go off, or the device resets: by the restart service, or because the loop has returned (R94, R96). -/
def Dev.shutEnd (d : Dev) (restart : Bool) : Dev :=
  let bat := d.sup.latch == some true
  if restart then (d.chipReset 6).onSup (fun s => { s with cellStart := bat })
  else if decide (8000 ≤ d.sup.loopp) && !bat then d.chipReset 1
  else d.powerOff

/-- Steps A and B (R94). -/
def Dev.shutAB (d : Dev) (cause level : Nat) : Dev :=
  let d := if d.get F.SYS_START_CKPT = 3 then d else d.commitCk
  let d := (d.noteVals 0x02 127 [cause, level]).onCol (fun c => { c with unclean := false })
  if 2 ≤ level then d.mirrorFinal else d

/-- Step C runs in full run (R94, R507): the PLL locks, where it has not failed. -/
def Dev.shutClock (d : Dev) : Dev :=
  if d.get F.CLK_STAT_SRC = 1 && !d.flag F.CLK_STAT_RELOCK && !d.flag F.CLK_STAT_PLL_FAIL then d.startLock else d

/-- An orderly shutdown begins (R94, R95, R99): causes 1 loop lost, 2 cell dead, 3 restart. Below level 3 it ends at once; from level 3
the shutdown BIST runs (R507). -/
def Dev.shutdown (d : Dev) (cause : Nat) (restart : Bool) (fb : FbMeas) : Dev :=
  if d.col.shut.isSome then d
  else
    let m := d.mode
    let noD := m == 7
    let d := ((d.closeCycle fb).irq Irq.shutdown).pushAlarm AlarmCode.shutdown [cause]
    let level := d.shutLevel noD
    if level = 0 then d.abruptStop.shutEnd restart
    else
      let d := d.shutAB cause level
      if level < 3 then d.shutEnd restart
      else (d.onCol (fun c => { c with shut := some ⟨cause, m, noD, level, restart⟩ })).shutClock.put F.BIST_RUN_STATE 4

/-- The items of the shutdown BIST that run (R507). -/
def Dev.shutItems (d : Dev) : List Nat := startItems.filter (fun i => !d.failedItem i && !d.retiredItem i)

/-- A mask of items. -/
def itemMask (l : List Nat) : Nat := l.foldl (fun m i => m + 2 ^ i) 0

/-- MSEQ of the final mirror record: the one on its way, else the last one written. -/
def Dev.finalMseq (d : Dev) : Nat :=
  d.label.jobs.foldl (fun m j => match j with
    | .mirror k _ _ => k
    | .zero _ => m) (d.get F.LBL_STAT_MSEQ)

/-- Words 0 to 13 of the clean shutdown record (R99). -/
def Dev.cleanWords (d : Dev) (s : Shutdown) (passed : Nat) : List Word :=
  let saved := d.tdcA.act.isSome.toNat + 2 * d.tdcB.act.isSome.toNat + 4 * (d.flag F.MAC_STAT_DRIFTV).toNat
  [Word.ofN (0xC1EA01 * 2 ^ 48 + s.cause * 2 ^ 40 + s.mode * 2 ^ 32 + d.col.csSeq % 2 ^ 32), d.reg F.TIDE_SEC,
    Word.ofN (d.get F.TIDE_TICKS_TICKS), d.reg F.TIDE_CIVOFS] ++ hashWords d.col.imgHash ++
    [Word.ofN passed, Word.ofN (d.finalMseq % 2 ^ 24 * 2 ^ 48 + (d.col.ckSeq - 1) % 2 ^ 48),
      Word.ofN ((d.paired).toNat * 2 ^ 32 + d.get F.COLLAR_CHTAB_CARRIER), Word.ofN (d.get F.MAC_DRIFT_LEARNED * 2 ^ 48 + saved), 0, 0]

/-- A code-density table as words (log 120). -/
def TdcTable.words (t : TdcTable) : List Word := Word.ofN (t.n0 * 2 ^ 36 + t.n1) :: t.bins.map (fun b => Word.ofN (b.1 * 2 ^ 36 + b.2))

/-- A TDC unit's active table goes into the trusted work area (R99, R232, R306). -/
def Dev.tableWrite (d : Dev) (u : Nat) : Dev :=
  match (d.tdc u).act with
  | some t => d.workWrite (workTable u) t.words
  | none => d

/-- Step D: the clean shutdown record, its HMAC last; the tables and the drift are saved (R99, R100, R306, R432). -/
def Dev.shutD (d : Dev) (s : Shutdown) (passed : Nat) : Dev :=
  let ws := d.cleanWords s passed
  let a := d.tdcA.act
  let b := d.tdcB.act
  let d := ((d.tableWrite 0).tableWrite 1).workWrite workDrift [Word.ofI (d.getS F.MAC_DRIFT_LEARNED)]
  ((d.storeAll qsAddr ws).storeAll (qsAddr + 14) (mac128 (d.keyAt 0).key ws)).onCol (fun c =>
    { c with csSeq := c.csSeq + 1, savedA := a, savedB := b })

/-- SHUTDOWN_BIST_DONE: `failed` are the items that failed (R96, R507). -/
def Dev.shutdownBist (d : Dev) (failed : List Nat) : Dev :=
  match d.col.shut with
  | none => d
  | some s =>
    let run := d.shutItems
    let bad := run.filter (fun i => failed.contains i)
    let d :=
      if !bad.isEmpty then d.noteAB 0x0A 127 (itemMask bad) 0
      else if s.noD then d else d.shutD s (itemMask run)
    d.shutEnd s.restart

/-! ## Loss of the loop, loss of the cell -/

/-- The loop is gone for good: LGATE released, VMAIN on the cell switch (R59, R62). -/
def Dev.toCell (d : Dev) : Dev := (d.onSup (fun s => { s with lgate := true, regulating := false })).setVmain 2

/-- Loop loss into VIGIL (R59): the order of the table "Loop loss into VIGIL". The cycle that ends early is a boundary of PWR_MEAS and PWR_HARV too (R47, R67;
log 29). -/
def Dev.vigilEnter (d : Dev) (fb : FbMeas) : Dev :=
  let ho := d.mode == 6
  let d := if ho then d.handoverAbandon else d
  let d := (d.changeMode 4 4 (if ho then Cause.abandoned else Cause.loopLost)).toCell
  let d := (d.note 0x28).pushAlarm AlarmCode.loopLost []
  let d := (d.vigilNote.cutCycle fb).commitCk.mirrorBoundary
  d.nextCycle.applyRegimeNow.updateMeas.updateHarv

/-- A confirmed loss of the loop, acted on by the mode (R57 to R62, R89). -/
def Dev.loopLossAct (d : Dev) (fb : FbMeas) : Dev :=
  if d.mode = 7 then
    if d.usableCell then (((d.toCell).put F.SYS_MODE_BASE 4).note 0x28) else d.shutdown 1 false fb
  else if d.mode = 1 || d.mode = 2 || d.mode = 5 || d.mode = 6 then
    if d.usableCell then d.vigilEnter fb else (d.onSup (fun s => { s with lgate := true })).shutdown 1 false fb
  else if d.mode = 4 then d.toCell
  else d

/-- The start-up BIST is skipped where it has not run (R89). -/
def Dev.skipBist (d : Dev) : Dev := d.put F.SYS_START_BIST_SKIP 1

/-- A loss while the device starts is held until the short boundary; the start goes on on the cell or the pool (R89). The cause is that of R99. -/
def Dev.holdLoss (d : Dev) (cause : Nat) : Dev :=
  let d := d.skipBist.onSup (fun s => { s with startLoss := some cause })
  if cause = 1 then d.setVmain d.lossSrc else d

/-- The device is in a stage before the end of Stage 3, and not in HOLD. -/
def Dev.starting (d : Dev) : Bool := decide (d.get F.SYS_MODE_STAGE < 4) && d.mode != 7

/-- LOOP_LOSS_CONFIRM: LOOPP below 7.5 V for 20 ms (R37, R59). In Stage 1 the start goes on on a pool that holds 2.20 V, else the device stops (R89). -/
def Dev.loopLossConfirm (d : Dev) (loopp : Nat) (fb : FbMeas) : Dev :=
  if !d.flag F.PWR_STAT_VIN_OK || 7500 ≤ loopp || d.col.shut.isSome then d
  else
    let d := (d.onSup (fun s => { s with loopp := loopp })).put F.PWR_STAT_VIN_OK 0
    if d.get F.SYS_MODE_STAGE < 2 && d.sup.vpool < 2200 then d.abruptStop.powerOff
    else
      let d := d.event F.PWR_EVT_VIN_LOST Ev.pwr
      if d.starting then d.holdLoss 1 else d.loopLossAct fb

/-- The device runs on the cell: a battery installation, VIGIL, or HOLD on the cell (R59, R62). -/
def Dev.onCell (d : Dev) : Bool := d.battery || d.get F.SYS_MODE_BASE == 3 || d.get F.SYS_MODE_BASE == 4

/-- CELL_DEAD_CONFIRM: VCELL below DEAD for 1 s (R54, R59). -/
def Dev.cellDeadConfirm (d : Dev) (vcell : Nat) (fb : FbMeas) : Dev :=
  if codeMv (d.get F.PWR_CELL_DEAD) ≤ vcell || d.col.shut.isSome then d
  else
    let d := (d.onSup (fun s => { s with vcell := vcell, cellDead := true })).event F.PWR_EVT_CELL_DEAD Ev.pwr
    if !d.onCell then d else if d.starting then d.holdLoss 2 else d.shutdown 2 false fb

/-! ## Return of the loop -/

/-- Loop return in HOLD: LOOP_BACK has no vigil totals (R62). -/
def Dev.holdLoopBack (d : Dev) : Dev := ((d.put F.SYS_MODE_BASE 2).setVmain 0).log ⟨0x29, 15, 127, 0, 0, []⟩

/-- LOOP_RETURN: LOOPP reaches 8.0 V in VIGIL, or in HOLD on the cell: the regulator takes the fused safe current (R59, R62). During a
shutdown the voltage is only noted (R96). -/
def Dev.loopReturn (d : Dev) (loopp : Nat) : Dev :=
  if loopp < 8000 then d
  else if d.col.shut.isSome then d.onSup (fun s => { s with loopp := loopp })
  else if (d.mode = 4 || (d.mode = 7 && d.get F.SYS_MODE_BASE = 4)) && !d.flag F.PWR_STAT_VIN_OK then
    let d := d.onSup (fun s => { s with loopp := loopp, regulating := true, lgate := false })
    let d := (d.put F.PWR_STAT_VIN_OK 1).event F.PWR_EVT_VIN_BACK Ev.pwr
    if d.mode = 7 then d.holdLoopBack else d
  else d

/-- LOOP_RETURN_CONFIRM: 20 ms at or above 8.0 V in VIGIL (R59, R366; log 29). A HOLD entered since the voltage returned takes the loop
back as R62 says (R58). -/
def Dev.loopReturnConfirm (d : Dev) (fb : FbMeas) : Dev :=
  if d.mode = 7 && d.get F.SYS_MODE_BASE = 4 && d.flag F.PWR_STAT_VIN_OK && d.col.shut.isNone then d.holdLoopBack
  else if d.mode != 4 || !d.flag F.PWR_STAT_VIN_OK || d.col.shut.isSome then d
  else
    let totals := d.vigilTotals
    let d := (d.cutCycle fb).changeMode 2 2 Cause.loopBack
    let d := (d.log ⟨0x29, 15, 127, 0, 0, totals⟩).put F.MET_STAT_VFLOWCH 0
    let d := (((d.put F.SYS_START_PROV 1).onLoop (fun l => { l with full := none })).setVmain 0).nextCycle
    d.applyRegimeNow.updateMeas.updateHarv

/-! ## SEAL closing -/

/-- The verified trusted image staged in the inactive application area is copied into the trusted program region; TRUSTED_UPDATE
(R268). Its new version, where there is one. -/
def Dev.copyTrusted (d : Dev) : Dev × Option Nat :=
  let done := d.onCol (fun c => { c with trusted := none })
  match d.col.trusted with
  | some (n, true) =>
    let ws := d.loadAll (imgBase d.inactive) (min n 0x6000)
    match Config.trustedImage (d.keyAt 1).key ws with
    | some v => ((done.storeAll 0x80000 ws).trustedNote 0x44 v ws, some v)
    | none => (done, none)
  | _ => (done, none)

/-- Every slot 2 key still carries a valid certificate (R258). -/
def Dev.certsOk (d : Dev) : Bool := d.keyState 2 = 0 || d.keyState 2 = 3 || Config.certOk (d.keyAt 1).key (d.keyAt 2).key

/-- The sealed part is hashed again and the changed parameters checked: the new seal under `version`, the identification checksum and SEAL_CLOSE, or HOLD
(R59, R257, R258). -/
def Dev.sealCheck (d : Dev) (version : Nat) : Dev :=
  let base := d.regime
  let good := d.col.sealBad.isEmpty && d.certsOk && !d.badIn 0x80000 0x7000
  let d := d.onCol (fun c => { c with sealBad := [], copied := none })
  if good then
    let d := d.writeSeal version
    let d := d.put F.COLLAR_ID_IDSUM d.idsum
    (d.noteAB 0x12 127 (d.get F.COLLAR_ID_IDSUM) 0).changeMode base base Cause.sealClosed
  else d.holdEnter Cause.recheck

/-- SERVICE ends as SEAL has closed. A staged trusted image is copied first; its copy takes this boundary, the seal follows at the next, and a supply loss in
between leaves the seal unmatched (R258, R268; log 123). -/
def Dev.sealClose (d : Dev) : Dev :=
  let d := d.sealShut.commitChanges
  match d.col.copied with
  | some v => d.sealCheck v
  | none =>
    let r := d.copyTrusted
    match r.2 with
    | some v => r.1.onCol (fun c => { c with copied := some v })
    | none => r.1.sealCheck r.1.sealVersion

/-! ## Boundary triggers -/

/-- LOOP and LOOP-LEAN switch; within SERVICE and HANDOVER only BASE changes (R59, R60). -/
def Dev.switchRegime (d : Dev) (base cause : Nat) : Dev :=
  let d := if d.mode = 1 || d.mode = 2 then d.changeMode base base cause else d.put F.SYS_MODE_BASE base
  d.applyRegime

/-- The harvest and pool triggers, the pool's first (R58, R59); a trigger the mode makes void is discarded. -/
def Dev.harvestTrigger (d : Dev) : Dev :=
  let s := d.sup
  let d := d.onSup (fun s => { s with short := false, rich := false, poolLow := false })
  if d.mode = 4 || d.mode = 7 then d
  else if d.regime = 1 && s.poolLow then d.switchRegime 2 Cause.poolLow
  else if d.regime = 1 && s.short then d.switchRegime 2 Cause.short
  else if d.regime = 2 && s.rich then d.switchRegime 1 Cause.restored
  else d

/-- The boundary triggers: one is acted on at each evaluation, in the order of R58. -/
def Dev.modeTriggers (d : Dev) : Dev :=
  match d.mode, d.sup.handoverOver with
  | 6, some c => (d.onSup (fun s => { s with handoverOver := none })).enterRegime d.regime c
  | m, _ =>
    if d.flag F.SYS_MODE_SEAL && (m == 1 || m == 2 || m == 3) then d.sealOpened.changeMode 5 d.regime Cause.sealOpen
    else if !d.flag F.SYS_MODE_SEAL && m == 5 then d.sealClose
    else d.harvestTrigger

end Sys2Proof.Machine
end

