-- ==== Sys2Proof/Machine/Window.lean ====
section
/-!
DEFINITION. A slack-water window across the blocks: what opening and closing it brings (spec/04_clock_and_tideline.md R113 to R115;
spec/10_tdc.md R298, R301, R306, R311, R313; spec/11_flow_and_temperature.md R317, R322, R328, R337, R342, R345;
spec/16_selftest_and_failover.md R494).
-/
namespace Sys2Proof.Machine

/-- SLACK_REQUEST: a request of T0 or of an instruction, with the one of the other kind where both fall in one SYSCLK cycle
(R113, R114). -/
def Dev.slackRequest (d : Dev) (t0 : Bool) (len : Nat) (other : Option Nat) : Dev := d.winRequest (joinWin ⟨t0, len⟩ other)

/-- The converters and the profile resume without a window: VPOOL fell below 2.40 V while the request settled (R115). -/
def Dev.unsettle (d : Dev) (r : WinReq) : Dev :=
  let d := ((d.put F.CLK_STAT_SPR_HELD 0).put F.PWR_STAT_SLACK 0).put F.PWR_STAT_SRC d.sup.savedSrc
  d.onSlack (fun s => { s with opening := none, poolWait := s.poolWait ++ [r] })

/-- SLACK_OPEN: the settling time has passed. `k`: the step of the spread profile that holds; `cam`, `cbm`: the capacitances measured
where the window is the first of its cycle (R113, R337, R342, R494). -/
def Dev.slackOpen (d : Dev) (k cam cbm : Nat) : Dev :=
  match d.slack.opening with
  | none => d
  | some r =>
    if d.sup.vpool < 2400 then d.unsettle r
    else
      let d := if d.get F.CLK_STAT_SRC = 2 then d.onClk (fun c => { c with spreadPos := k % 100 }) else d
      ((((d.openWin r).adcAbort).bistAbort.tdcOpen 0).tdcOpen 1).usfOpen cam cbm

/-- The window closes after `us` µs: the blocks first, then the clock, then the deferred fields of TDC and USF (R10, R113). -/
def Dev.windowClose (d : Dev) (us : Nat) : Dev :=
  ((((d.tdcClose 0).tdcClose 1).usfClose).closeWin us).applyPendIn windowRegs

/-- SLACK_CLOSE: its length has elapsed. -/
def Dev.slackClose (d : Dev) : Dev := if d.flag F.CLK_SLKSTAT_OPEN then d.windowClose d.slack.cur.len else d

/-- CLOSE = 1 in CLK_SLKCMD: a window opened by instruction alone closes at once, after `us` µs (R114). -/
def Dev.slackCloseCmd (d : Dev) (us : Nat) : Dev :=
  if d.flag F.CLK_SLKSTAT_OPEN && d.flag F.CLK_SLKSTAT_OPENER then d.windowClose (min us d.slack.cur.len) else d

/-- SLACK_CUT: VPOOL falls to 2.25 V in a window, `us` µs after it opened (R115). -/
def Dev.slackCut (d : Dev) (vpool us : Nat) : Dev :=
  if d.flag F.CLK_SLKSTAT_OPEN && decide (vpool ≤ 2250) then
    ((d.onSup (fun s => { s with vpool := vpool })).put F.CLK_SLKSTAT_CUT 1).windowClose (min us d.slack.cur.len)
  else d

/-- TDC_CALIBRATION_DONE and the check of its bounds (R301, R500, R504). -/
def Dev.calibrationDone (d : Dev) (u : Nat) (o : CalObs) : Dev :=
  if d.bist.qcal.contains (9 + u) then d.qualCal u o else
  let d1 := d.tdcCalibrate u o
  if (d1.tdc u).cal && !(d.tdc u).cal then d1.calBounds u else d1

/-- FENCE_TRIP across the blocks (R111, R311, R494). -/
def Dev.fence (d : Dev) (count : Nat) : Dev :=
  if count < 99 || d.get F.CLK_STAT_SRC != 2 then d
  else
    let win := d.flag F.CLK_SLKSTAT_OPEN
    let d := (d.fenceTrip count).bistAbort
    if win then (d.tdcFence 0).tdcFence 1 else d

end Sys2Proof.Machine
end

