-- ==== Sys2Proof/Machine/Orders.lean ====
section
/-!
DEFINITION. Precedence among masters (spec/01_organisation.md R28 to R35).
-/
namespace Sys2Proof.Machine

/-- The class codes of R28. -/
def Master.cls : Master → Nat
  | .collar => 0
  | .sleeveL | .sleeveR | .host | .debug => 1
  | .loop => 2
  | .radio _ => 3

/-- A master's owner code in the Seam (R269): the debug port acts as HOST. -/
def Master.own : Master → Nat
  | .collar => Own.collar
  | .sleeveL => Own.sleeveL
  | .sleeveR => Own.sleeveR
  | .host | .debug => Own.host
  | .loop => Own.loop
  | .radio _ => Own.radio

/-- The orders of this command cycle to one field. -/
def Dev.ordersTo (d : Dev) (a hi lo : Nat) : List Order := d.orders.filter (fun o => o.addr == a && o.hi == hi && o.lo == lo)

/-- The order in force among some: the highest class, the latest within it. -/
def strongest : List Order → Option Order
  | [] => none
  | o :: os => match strongest os with
    | none => some o
    | some p => some (if o.cls < p.cls then o else p)

/-- ORDER_CONFLICT and SYS_ARB (R32, R35): the winner and the loser by class and value. -/
def Dev.conflict (d : Dev) (a : Nat) (win lose : Nat × Nat) : Dev :=
  let d := d.log ⟨0x14, win.1, 127, Config.payload 0x14 0 [a, win.1, lose.1], 0, [(Word.ofN win.2, Word.ofN lose.2, 0)]⟩
  let d := ((d.put F.SYS_ARB_FIELD_ADDR a).put F.SYS_ARB_WINNER win.1).put F.SYS_ARB_LOSER lose.1
  ((d.bump F.SYS_ARB_COUNT).put F.SYS_ARB_CONFLICT 1).raise Ev.arbConflict

/-- An order of class `cls` to a field is noted; the first order of a master after another master's is a conflict, won by the higher class, and
within a class by the later order, which takes effect (R29, R30, R32). -/
def Dev.noteOrderAs (d : Dev) (m : Master) (cls a hi lo v : Nat) : Dev :=
  let os := d.ordersTo a hi lo
  let d := match strongest (os.filter (fun o => o.master != m)) with
    | some o =>
      if os.any (fun p => p.master == m) then d
      else if o.cls < cls then d.conflict a (o.cls, o.value) (cls, v) else d.conflict a (cls, v) (o.cls, o.value)
    | none => d
  d.onOrders (fun l => l.filter (fun o => !(o.addr == a && o.hi == hi && o.lo == lo && o.master == m)) ++ [⟨a, hi, lo, m, cls, v⟩])

/-- An order of a master, in its own class. -/
def Dev.noteOrder (d : Dev) (m : Master) (a hi lo v : Nat) : Dev := d.noteOrderAs m (Master.cls m) a hi lo v

/-- A class above `cls` has ordered the field in this command cycle (R30). -/
def Dev.outrankedAs (d : Dev) (cls a hi lo : Nat) : Bool := (d.ordersTo a hi lo).any (fun o => decide (o.cls < cls))

/-- A class above the master's has ordered the field in this command cycle (R30). -/
def Dev.outranked (d : Dev) (m : Master) (a hi lo : Nat) : Bool := d.outrankedAs (Master.cls m) a hi lo

end Sys2Proof.Machine
end

