-- ==== Sys2Proof/Machine/Services.lean ====
section
/-!
DEFINITION. The Collar's services: the queue, the mailbox, and each service (spec/08_collar.md R235 to R243, R250, R255, R256, R261, R265,
R266; spec/03_start_and_shutdown.md R73, R94; spec/06_programming_model.md R192).
-/
namespace Sys2Proof.Machine

/-! ## The queue -/

/-- The precedence class of a caller (R28, R235). -/
def Caller.cls : Caller → Nat
  | .sleeve _ | .mailbox _ _ => 1
  | .loop _ => 2
  | .radio _ _ _ => 3

/-- The master behind a caller. -/
def Caller.master : Caller → Master
  | .sleeve right => if right then .sleeveR else .sleeveL
  | .mailbox _ dbg => if dbg then .debug else .host
  | .loop _ => .loop
  | .radio p _ _ => .radio p

/-- The interface of an update session (R265). -/
def Caller.iface : Caller → Nat
  | .sleeve _ => 0
  | .mailbox _ _ => 1
  | .loop _ => 2
  | .radio _ _ _ => 3

/-- The services of R237 and who may call them: S, M, P. -/
def svcCallers (n : Nat) : Option (Bool × Bool × Bool) :=
  match n with
  | 0x00 | 0x03 | 0x04 | 0x06 | 0x09 | 0x0E | 0x10 => some (true, true, true)
  | 0x01 | 0x02 => some (true, false, false)
  | 0x05 | 0x07 | 0x0A | 0x0B | 0x0C | 0x0D => some (false, true, true)
  | 0x08 | 0x11 | 0x12 => some (false, true, false)
  | 0x13 => some (true, true, false)
  | _ => none

/-- The caller may call the service. -/
def svcAllowed (n : Nat) (c : Caller) : Bool :=
  match svcCallers n, c with
  | some p, .sleeve _ => p.1
  | some p, .mailbox _ _ => p.2.1
  | some p, _ => p.2.2
  | none, _ => false

/-- The words of a result as bytes for a partner: W1, W2 and W3 (R398). -/
def resultBytes (res : List Word) : List Nat := wordsBytes [res.getD 0 0, res.getD 1 0, res.getD 2 0]

/-- A Sleeve takes up its results: status to W0, W1 to W3 where the service returns them, nothing else (R192). -/
def EngState.svcDone (e : EngState) (status : Nat) (res : List Word) : EngState :=
  let e := e.setReg 0 (Word.ofN status)
  let e := match res[0]? with | some w => e.setReg 1 w | none => e
  let e := match res[1]? with | some w => e.setReg 2 w | none => e
  let e := match res[2]? with | some w => e.setReg 3 w | none => e
  e.complete 1

/-- A Sleeve that waits in SVC goes on with the results. -/
def Dev.wakeSvc (d : Dev) (e : Eng) (status : Nat) (res : List Word) : Dev :=
  if (d.eng e).wait = .svc && d.runOf e = Run.waiting then (d.onEng e (fun s => s.svcDone status res)).goOn e else d

/-- A reply of the loop link is queued (R390, R392). -/
def Dev.loopAnswer (d : Dev) (cmd code : Nat) (data : List Nat) (order : Bool) : Dev :=
  d.onLoop (fun l => { l with queue := l.queue ++ [⟨cmd, code, data, order, 0, none⟩] })

/-- The results go to the caller (R192, R236, R238, R398, R450). -/
def Dev.deliver (d : Dev) (who : Caller) (status : Nat) (res : List Word) : Dev :=
  match who with
  | .sleeve right =>
    if d.paired then (d.wakeSvc .left status res).wakeSvc .right status res
    else d.wakeSvc (if right then .right else .left) status res
  | .mailbox tag _ =>
    let d := (((d.setReg (F.COLLAR_MBXRES 0) (Word.ofN status)).setReg (F.COLLAR_MBXRES 1) (res.getD 0 0)).setReg
      (F.COLLAR_MBXRES 2) (res.getD 1 0)).setReg (F.COLLAR_MBXRES 3) (res.getD 2 0)
    let d := (((d.put F.COLLAR_MBXSTAT_STATUS status).put F.COLLAR_MBXSTAT_TAG tag).put F.COLLAR_MBXSTAT_DONE 1).put F.COLLAR_MBXSTAT_BUSY 0
    d.irq Irq.mbxDone
  | .loop cmd => d.loopAnswer cmd status (if cmd = 0x20 then resultBytes res else []) false
  | .radio peer rseq cmd => d.rioAnswer peer rseq status (if cmd = 0x20 then resultBytes res else [])

/-- Requests whose number R237 does not list are answered UNKNOWN_COMMAND when their turn comes (R236). -/
def Dev.svcDrain (d : Dev) : Nat → Dev
  | 0 => d
  | k + 1 =>
    match d.col.svcQ with
    | [] => d
    | r :: rs =>
      if (svcCallers r.svc).isSome then d
      else ((d.onCol (fun c => { c with svcQ := rs })).deliver r.who 4 []).svcDrain k

/-- The request in service ends (R235, R236). -/
def Dev.svcEnd (d : Dev) (r : SvcReq) (status : Nat) (res : List Word) : Dev :=
  let d := d.onCol (fun c => { c with svcQ := c.svcQ.drop 1 })
  (d.deliver r.who status res).svcDrain 16

/-- Requests in class order, arrival order within a class. -/
def insertReq (r : SvcReq) : List SvcReq → List SvcReq
  | [] => [r]
  | q :: qs => if Caller.cls r.who < Caller.cls q.who then r :: q :: qs else q :: insertReq r qs

/-- A request arrives: it waits while another is in service (R235). -/
def Dev.svcArrive (d : Dev) (r : SvcReq) : Dev :=
  let q := match d.col.svcQ with
    | [] => [r]
    | h :: t => h :: insertReq r t
  (d.onCol (fun c => { c with svcQ := q })).svcDrain 16

/-- An argument, W1 being number 1. -/
def SvcReq.arg (r : SvcReq) (i : Nat) : Word := r.args.getD (i - 1) 0

/-- A number of words, from 1 to `top`. -/
def countArg (top : Nat) (w : Word) : Nat := max 1 (min top w.toNat)

/-- The block a service names is owned by COLLAR and FULL (R237). -/
def Dev.blockReady (d : Dev) (b : Nat) : Bool := d.owner b == Own.collar && d.full b

/-- The words of a block that a request has the Collar load: the first, and their number (R237). -/
def Dev.svcLoads (d : Dev) (r : SvcReq) : Nat × Nat :=
  let one := (r.arg 1).toNat % 256
  let two := (r.arg 2).toNat % 256
  let x : Nat × Nat := match r.svc with
    | 0x01 => (one, 33)
    | 0x0B => (one, countArg 64 (r.arg 3))
    | 0x11 => (two, 64)
    | 0x13 => (two, countArg 64 (r.arg 3))
    | _ => (0, 0)
  (blockAddr x.1, if d.blockReady x.1 then x.2 else 0)

/-- Work on the request in service, where it is a call of service `n`; a caller R237 does not list for it is answered
NOT_PERMITTED. The words it loads are corrected, and one with two wrong bits is a trap of the Collar's, a trusted fault (R171, R180). -/
def Dev.serve (d : Dev) (n : Nat) (f : Dev → SvcReq → Dev × Nat × List Word) : Dev :=
  match d.col.svcQ with
  | [] => d
  | r :: _ =>
    if r.svc != n || d.collarRun = Run.notStarted then d
    else if !svcAllowed n r.who then d.svcEnd r 5 []
    else
      let a := d.svcLoads r
      if d.badIn a.1 a.2 then d.trustedFault
      else
        let x := f (d.collarLoads a.1 a.2) r
        x.1.svcEnd r x.2.1 x.2.2

/-! ## The mailbox -/

/-- COLLAR_MBXCMD was written with GO = 1, by the host or the debug port; `old`: the register before. A GO with the TAG of the last request accepted
is ignored, the whole write (R238). -/
def Dev.mailbox (d : Dev) (dbg : Bool) (old w : Word) : Dev :=
  let tag := bitsOf w 15 8
  if bitsOf w 16 16 = 0 || d.flag F.COLLAR_MBXSTAT_BUSY then d
  else if d.col.mbxTag = some tag then d.setReg F.COLLAR_MBXCMD old
  else
    let args := (List.range 5).map (fun i => d.reg (F.COLLAR_MBXARG (i + 1)))
    let d := ((d.put F.COLLAR_MBXCMD_GO 0).put F.COLLAR_MBXSTAT_BUSY 1).onCol (fun c => { c with mbxTag := some tag })
    (d.raise Ev.mbx).svcArrive ⟨bitsOf w 7 0, .mailbox tag dbg, args⟩

/-! ## Blocks -/

/-- The block goes back to the caller (R237). -/
def Dev.blockBack (d : Dev) (r : SvcReq) (b : Nat) (full : Bool) : Dev := d.giveBlock b (Master.own (Caller.master r.who)) full

/-- A call that is refused though its block is ready: the block goes back empty (R237). -/
def Dev.refuseBack (d : Dev) (r : SvcReq) (b status : Nat) : Dev × Nat × List Word :=
  (if d.blockReady b then d.blockBack r b false else d, status, [])

/-! ## The services of R237 -/

/-- 0x00. -/
def Dev.svcInfo (d : Dev) (_r : SvcReq) : Dev × Nat × List Word := (d, 0, [d.reg F.COLLAR_ID, d.reg F.COLLAR_CHTAB, d.modeWord])

/-- A signed amount of a segment (R239). -/
def segOf (ws : List Word) (i : Nat) : Seg :=
  let w := ws.getD (1 + 4 * i) 0
  ⟨bitsOf w 52 52 == 1, bitsOf w 51 48, bitsOf w 47 0, (ws.getD (2 + 4 * i) 0).toInt, (ws.getD (3 + 4 * i) 0).toInt, (ws.getD (4 + 4 * i) 0).toInt⟩

/-- A segment that R240 refuses on a channel of kind `k`. -/
def segBad (k : Nat) (s : Seg) : Bool :=
  4 < s.quad || ((s.quad == 1 || s.quad == 2) && s.rev) || ((s.quad == 3 || s.quad == 4) && !s.rev) || (k == kThermal && s.quad == 0 && s.a1 != 0)

/-- Whether the caller carries the channel (R240). -/
def Dev.carriedByCaller (d : Dev) (right : Bool) (n : Nat) : Bool :=
  let c := d.carrier n
  c == 3 || c == (if right then 2 else 1)

/-- POST_REFUSED: A: status, CYCLE (R240). -/
def Dev.postRefuse (d : Dev) (chan status cyc : Nat) : Dev × Nat × List Word :=
  ((d.noteVals 0x31 chan [status, cyc]).event F.MET_STAT_REFUSED Ev.met, status, [])

/-- The status of a post by R240, in the order of its table, for a block that is ready. -/
def Dev.postStatus (d : Dev) (right : Bool) (ws : List Word) : Nat :=
  let w := ws.getD 0 0
  let n := bitsOf w 63 60
  let k := bitsOf w 59 56
  let cyc := bitsOf w 47 0
  let cur := d.get F.COLLAR_CYCLE_CYCLE
  let segs := (List.range k).map (fun i => segOf ws i)
  let dur := segs.foldl (fun a s => a + s.dur) 0
  if bitsOf w 71 64 != 1 || k = 0 || 8 < k || segs.any (fun s => segBad (d.kind n) s) then 5
  else if d.kind n = kDerived || d.kind n = kOff || !d.carriedByCaller right n then 5
  else if d.covered n cyc + 16384 < dur then 5
  else if d.posted n cyc || !(cyc == cur || cyc + 1 == cur || d.col.catchup.contains (n, cyc)) then 7
  else 0

/-- 0x01 POST (R239 to R243, R371). -/
def Dev.svcPost (d : Dev) (r : SvcReq) : Dev × Nat × List Word :=
  let b := (r.arg 1).toNat % 256
  let right := r.who == .sleeve true
  if !d.blockReady b then d.postRefuse 127 3 0
  else
    let ws := d.loadAll (blockAddr b) 33
    let w := ws.getD 0 0
    let n := bitsOf w 63 60
    let cyc := bitsOf w 47 0
    let st := d.postStatus right ws
    if st != 0 then
      let x := d.postRefuse n st cyc
      (x.1.blockBack r b false, st, [])
    else
      let segs := (List.range (bitsOf w 59 56)).map (fun i => segOf ws i)
      let d := (d.applyPost n (bitsOf w 55 48) cyc segs (d.covered n cyc)).lateCheck cyc
      ((d.onCol (fun c => { c with catchup := c.catchup.filter (· != (n, cyc)) })).blockBack r b false, 0, [])

/-- 0x02. -/
def Dev.svcAssign (d : Dev) (r : SvcReq) : Dev × Nat × List Word :=
  let mask := channels.foldl (fun a n => if d.carriedByCaller (r.who == .sleeve true) n then a + 2 ^ n else a) 0
  (d, 0, [Word.ofN mask, d.reg F.COLLAR_CHTAB, d.reg F.COLLAR_CYCLE])

/-- 0x03 from a Sleeve or the mailbox: an order to TIDE_CIVOFS (R30, R127, R128). -/
def Dev.svcTimeSet (d : Dev) (r : SvcReq) : Dev × Nat × List Word :=
  let m := Caller.master r.who
  let lost := d.outranked m F.TIDE_CIVOFS 71 0
  let d := d.noteOrder m F.TIDE_CIVOFS 71 0 (r.arg 1 - r.arg 2).toNat
  if lost then (d, 6, [])
  else
    let d := d.deliverTime (r.arg 1) (r.arg 2) (Master.cls m)
    (d, 0, [d.reg F.TIDE_CIVOFS])

/-- 0x04. -/
def Dev.svcParamRead (d : Dev) (r : SvcReq) : Dev × Nat × List Word :=
  if 0xFFF < (r.arg 1).toNat then (d, 5, []) else (d, 0, [d.param (r.arg 1).toNat])

/-- 0x05: the change is kept for the next boundary (R257). -/
def Dev.svcParamWrite (d : Dev) (r : SvcReq) : Dev × Nat × List Word :=
  let o := (r.arg 1).toNat
  if d.mode != 5 || 0xFFF < o then (d, 5, [])
  else (d.noteChange ⟨paramBase + o, 71, 0, d.param o, r.arg 2, Caller.cls r.who, true⟩, 0, [r.arg 2])

/-- Migration or image activation is under way (R237, R249). -/
def Dev.migrating (d : Dev) : Bool :=
  d.col.actStep.isSome || !d.col.back.isEmpty || !d.col.restart.isEmpty || !d.col.waitSlice.isEmpty || d.col.leftPaired || !d.col.faultDue.isEmpty

/-- 0x06 (R250). -/
def Dev.svcModeReq (d : Dev) (r : SvcReq) : Dev × Nat × List Word :=
  let v := (r.arg 1).toNat
  if 1 < v then (d, 5, [])
  else if d.migrating then (d, 1, [])
  else if v = 1 && !d.mayPair then (d, 5, [])
  else (d.onCol (fun c => { c with modeReq := some (v == 1) }), 0, [])

/-- The status of 0x07 (R94, R237, R450). -/
def Dev.restartStatus (d : Dev) (r : SvcReq) : Nat :=
  let coord := match r.who with
    | .radio p _ _ => p == d.radio.coord
    | _ => true
  if d.mode = 7 && !coord then 5 else if !d.reserveAt 16000 || d.col.shut.isSome then 1 else 0

/-- 0x08 (R73). -/
def Dev.svcFuse (d : Dev) (r : SvcReq) : Dev × Nat × List Word :=
  let v := (r.arg 1).toNat
  if d.mode != 5 || d.flag F.SYS_FUSE_LOCKED || 3 < v then (d, 5, [])
  else (((d.put F.SYS_FUSE_SAFE_I v).put F.SYS_FUSE_LOCKED 1).noteAB 0x15 127 v 0, 0, [])

/-- The legal-log records from a SEQ on: the first SEQ held or asked for, and their words (R261). -/
def Dev.logRecords (d : Dev) (seq n : Nat) : Nat × List (List Word) :=
  let next := d.logNext
  let first := max seq (next - 6144)
  let k := min n (next - first)
  (first + k, (List.range k).map (fun i => d.loadAll (logAddr (first + i)) 4))

/-- 0x09. -/
def Dev.svcLogRead (d : Dev) (r : SvcReq) : Dev × Nat × List Word :=
  let b := (r.arg 1).toNat % 256
  if 1 < Caller.cls r.who && 16 < (r.arg 3).toNat then d.refuseBack r b 2
  else if !d.blockReady b then (d, 3, [])
  else
    let x := d.logRecords (bitsOf (r.arg 2) 47 0) (countArg 16 (r.arg 3))
    ((d.fillBlock b Own.collar x.2.flatten).blockBack r b true, 0, [Word.ofN x.2.length, Word.ofN x.1])

/-- 0x0A (R265, R268); BUSY too while an activation runs on the area it would write (log 55). -/
def Dev.svcImgBegin (d : Dev) (r : SvcReq) : Dev × Nat × List Word :=
  let t := (r.arg 1).toNat
  if d.col.session.isSome || d.col.actStep.isSome then (d, 1, [])
  else if 1 < t || (t = 1 && d.mode != 5) then (d, 5, [])
  else
    let b := d.inactive
    let total := min (if t = 1 then 0x6000 else 0x20000) (r.arg 2).toNat
    let now := d.seconds
    let d := (((d.store (imgBase b) 0).setVal b false).setRej b false).put F.COLLAR_IMG_SESSION 1
    let d := d.onCol (fun c => { c with session := some ⟨Caller.iface r.who, t == 1, total, c.sessN, now, false, r.who⟩, sessN := c.sessN + 1, trusted := none })
    (d, 0, [Word.ofN (d.col.sessN - 1)])

/-- 0x0B (R265); a trusted image is taken in SERVICE only (R268). -/
def Dev.svcImgWrite (d : Dev) (r : SvcReq) : Dev × Nat × List Word :=
  let b := (r.arg 1).toNat % 256
  match d.col.session with
  | some s =>
    if s.iface != Caller.iface r.who then d.refuseBack r b 7
    else if s.verifying then d.refuseBack r b 1
    else if s.trusted && d.mode != 5 then d.refuseBack r b 5
    else if !d.blockReady b then (d, 3, [])
    else
      let off := (r.arg 2).toNat
      let ws := (d.loadAll (blockAddr b) (countArg 64 (r.arg 3))).take (s.total - off)
      let now := d.seconds
      let d := (d.storeAll (imgBase d.inactive + off) ws).onCol (fun c => { c with session := c.session.map (fun x => { x with last := now }) })
      (d.blockBack r b false, 0, [])
  | none => d.refuseBack r b 7

/-- 0x0C: the verification runs in the background (R235, R265); BUSY while one runs (log 55). -/
def Dev.svcImgVerify (d : Dev) (r : SvcReq) : Dev × Nat × List Word :=
  match d.col.session with
  | some s =>
    if s.iface != Caller.iface r.who then (d, 7, [])
    else if s.verifying then (d, 1, [])
    else if s.trusted && d.mode != 5 then (d, 5, [])
    else (d.onCol (fun c => { c with session := c.session.map (fun x => { x with verifying := true, who := r.who }) }), 0, [])
  | none => (d, 7, [])

/-- The session is over. -/
def Dev.sessionClose (d : Dev) : Dev := (d.put F.COLLAR_IMG_SESSION 0).onCol (fun c => { c with session := none })

/-- IMG_VERIFY answered ACK as it began; at its completion a failure is BAD_CHECK in the mailbox that asked for it, unless that has another request in
service. A partner has had its one reply and reads COLLAR_IMG (R235, R237, R238; log 55). -/
def Dev.verifyFailed (d : Dev) (s : Session) : Dev :=
  match s.who with
  | .mailbox tag dbg => if d.flag F.COLLAR_MBXSTAT_BUSY then d else d.deliver (.mailbox tag dbg) 3 []
  | _ => d

/-- IMG_VERIFY_DONE: IMAGE_STAGED or IMAGE_INVALID, and COLLAR_MSG (R235, R265, R268). The session ends with its result (log 31). A trusted image is
staged in SERVICE only. -/
def Dev.imgVerified (d : Dev) : Dev :=
  match d.col.session with
  | some s =>
    if !s.verifying then d
    else
      let b := d.inactive
      let d := d.sessionClose
      if s.trusted then
        let ws := d.loadAll (imgBase b) s.total
        match if d.mode = 5 then Config.trustedImage (d.keyAt 1).key ws else none with
        | some v => ((d.onCol (fun c => { c with trusted := some (s.total, true) })).trustedNote 0x41 v ws).raise Ev.collarMsg
        | none => (((d.onCol (fun c => { c with trusted := none })).noteVals 0x40 127 [2, 3]).verifyFailed s).raise Ev.collarMsg
      else
        match d.imgFails b true with
        | none => ((d.setVal b true).imgNote 0x41 b).raise Ev.collarMsg
        | some k => ((d.imgInvalid b k).verifyFailed s).raise Ev.collarMsg
  | none => d

/-- IMG_SESSION_TIMEOUT: 3,600 s without an IMG_WRITE (R265). -/
def Dev.sessionTimeout (d : Dev) : Dev :=
  if d.col.session.any (fun s => decide (s.last + 3600 ≤ d.seconds)) then d.sessionClose else d

/-- 0x0D (R265, R266). -/
def Dev.svcImgActivate (d : Dev) (_r : SvcReq) : Dev × Nat × List Word :=
  if d.imgVal d.inactive && !d.imgRej d.inactive && d.col.actStep.isNone && d.mode != 7 then (d.activate d.inactive, 0, []) else (d, 5, [])

/-- 0x0E. -/
def Dev.svcImgStatus (d : Dev) (_r : SvcReq) : Dev × Nat × List Word := (d, 0, [d.reg F.COLLAR_IMG])

/-- 0x10: the slot's state and type; their places in W1 are open (log 6). -/
def Dev.svcKeyInfo (d : Dev) (r : SvcReq) : Dev × Nat × List Word :=
  let h := (r.arg 1).toNat
  if 15 < h then (d, 5, []) else (d, 0, [Config.payload 0x110 0 [d.keyState h, (d.keyAt h).ty]])

/-- The types of key that SERVICE may put into a slot (R255): 0 HMAC-SHA-256, 1 AES-128, 2 ECDSA P-256. -/
def keyTypes (h : Nat) : List Nat :=
  if h = 2 then [2] else if h = 3 then [0] else if h = 4 then [1] else if 7 ≤ h && h ≤ 14 then [0, 1] else []

/-- 0x11 (R255, R256). A new site key is taken up by the Label (R482, R487). -/
def Dev.svcKeyLoad (d : Dev) (r : SvcReq) : Dev × Nat × List Word :=
  let h := (r.arg 1).toNat
  let b := (r.arg 2).toNat % 256
  if (d.mode != 5 && !(d.mode == 6 && h == 3 && d.get F.LBL_STAT_HO == 2 && d.flag F.SYS_MODE_SEAL)) || keyTypes h = [] then d.refuseBack r b 5
  else if !d.blockReady b || !d.priv b then (d, 3, [])
  else
    let k := Config.keyOfBlock (d.loadAll (blockAddr b) 64)
    let ok := (keyTypes h).contains k.1 && (h != 2 || Config.certOk (d.keyAt 1).key k.2)
    let d := d.storeAll (blockAddr b) (List.replicate 64 0)
    let d := d.blockBack r b false
    if !ok then (d, 5, [])
    else
      let d := d.keyLoad h ⟨k.1, k.2⟩
      (if h = 3 then d.labelRekeyed else d, 0, [])

/-- 0x12 (R256). -/
def Dev.svcKeyErase (d : Dev) (r : SvcReq) : Dev × Nat × List Word :=
  let h := (r.arg 1).toNat
  if d.mode != 5 || keyTypes h = [] then (d, 5, []) else (d.keyErase h, 0, [])

/-- 0x13: an application key with HMAC use (R255, R256). -/
def Dev.svcMac (d : Dev) (r : SvcReq) : Dev × Nat × List Word :=
  let h := (r.arg 1).toNat
  let b := (r.arg 2).toNat % 256
  if !d.blockReady b then (d, 3, [])
  else if h < 7 || 14 < h || !d.keyUsable h 0 then (d.blockBack r b false, 5, [])
  else (d.blockBack r b false, 0, mac128 (d.keyAt h).key (d.loadAll (blockAddr b) (countArg 64 (r.arg 3))))

/-- 0x07 RESTART: after its answer the orderly shutdown begins (R91, R94). -/
def Dev.svcRestart (d : Dev) (fb : FbMeas) : Dev :=
  match d.col.svcQ with
  | [] => d
  | r :: _ =>
    if r.svc != 0x07 || d.collarRun = Run.notStarted then d
    else if !svcAllowed 0x07 r.who then d.svcEnd r 5 []
    else
      let st := d.restartStatus r
      let d := d.svcEnd r st []
      if st = 0 then d.shutdown 3 true fb else d

end Sys2Proof.Machine
end

