-- ==== Sys2Proof/Machine/Bus.lean ====
section
/-!
DEFINITION. Reads and writes of registers and memory by every master (spec/00_scope.md R8 to R14; spec/01_organisation.md R16, R29,
R30; spec/18_register_map.md R537 to R540), with what a write to each register does.
-/
namespace Sys2Proof.Machine

/-! ## Reads -/

/-- The Sleeve that DBG_WSEL names. -/
def Dev.wselEng (d : Dev) : Eng := if d.flag F.DBG_WSEL_ENG then .right else .left

/-- That Sleeve is halted or trapped (R194). -/
def Dev.wselOpen (d : Dev) : Bool := d.runOf d.wselEng == Run.halted || d.runOf d.wselEng == Run.trapped

/-- A register of an engine by its DBG_WSEL code (DBG_WSEL). -/
def EngState.file (e : EngState) (r : Nat) : Word :=
  if r < 16 then e.reg (Fin.ofNat 16 r)
  else if r = 16 then e.acca.setWidth 72
  else if r = 17 then e.acca.extractLsb' 72 72
  else if r = 18 then e.accb.setWidth 72
  else if r = 19 then e.accb.extractLsb' 72 72
  else if r = 20 then e.fl.bits.setWidth 72
  else e.ia.setWidth 72

/-- Set a register of an engine by its DBG_WSEL code. -/
def EngState.setFile (e : EngState) (r : Nat) (w : Word) : EngState :=
  if r < 16 then e.setReg (Fin.ofNat 16 r) w
  else if r = 16 then { e with acca := BitVec.append (e.acca.extractLsb' 72 72) w }
  else if r = 17 then { e with acca := BitVec.append w (e.acca.setWidth 72) }
  else if r = 18 then { e with accb := BitVec.append (e.accb.extractLsb' 72 72) w }
  else if r = 19 then { e with accb := BitVec.append w (e.accb.setWidth 72) }
  else if r = 20 then { e with fl := Flags.ofBits (w.setWidth 5) }
  else { e with ia := w.setWidth 21 }

/-- DBG_WDATA as a read returns it (R194). -/
def Dev.wdata (d : Dev) : Word := if d.wselOpen then (d.eng d.wselEng).file (d.get F.DBG_WSEL_REG) else 0

/-- DBG_WDATA takes a write from the Collar, and from the debug port in SERVICE, while that Sleeve is halted or trapped (R194). -/
def Dev.wdataTakes (d : Dev) (m : Master) : Bool := (m == .collar || (m == .debug && d.mode == 5)) && d.wselOpen

/-- REG_FILE_WRITE: the selected register of that Sleeve (R194). -/
def Dev.wdataWrite (d : Dev) (w : Word) : Dev := d.onEng d.wselEng (fun e => e.setFile (d.get F.DBG_WSEL_REG) w)

/-- A register's content where it is a view of other state. -/
def Dev.viewReg (d : Dev) (a : Nat) : Word :=
  if a = F.TIDE_SEC then d.shownSec
  else if 0x6900 ≤ a && a < 0x6A00 then (if a % 16 < 13 then Word.ofN (d.acc ((a - 0x6900) / 16) (a % 16)) else 0)
  else if a = F.DBG_WDATA then d.wdata
  else if a = F.SYS_MODE then d.modeWord
  else if a = F.BIST_ITEM then d.bistItemWord
  else if a = F.MAC_LINK then d.linkView
  else if a = F.TDC_BINDATA 0 then Word.ofN (d.binData 0)
  else if a = F.TDC_BINDATA 1 then Word.ofN (d.binData 1)
  else if a = F.LOOP_PFE0 then d.pfEntry 0
  else if a = F.LOOP_PFE1 then d.pfEntry 1
  else if a = F.LOOP_PFSUM then Word.ofN (d.pfCount (d.get F.LOOP_PFSEL_KIND))
  else if a = F.LBL_SUMS then d.lblSums
  else d.reg a

/-- A register as a read sees it, held targets at their reset values (R285). -/
def Dev.seenReg (d : Dev) (a : Nat) : Word :=
  let m := d.heldMask a &&& ~~~(heldShow a)
  if m = 0 then d.viewReg a else mergeMask (d.viewReg a) m (resetWord a)

/-- Read a register-space address: a register, a shadow address (R540), whose pending values a held target does not show (R285), or 0 (R12,
R538). -/
def Dev.regRead (d : Dev) (a : Nat) : Word :=
  match rowAt a with
  | some _ => d.seenReg a
  | none => match shadowOf a with
    | some r => let p := d.pend r
                mergeMask (d.seenReg r) (p.mask &&& ~~~(d.heldMask r &&& ~~~(heldShow r))) p.value
    | none => 0

/-- A read by the host port or the debug port, and by a partner's READ_WORDS (R16, R537). -/
def Dev.portRead (d : Dev) (a : Nat) : Word :=
  if isRegSpace a then d.regRead a
  else if isGeneral a then d.load a
  else if isSeam a then (if d.mayRead Own.host (blockOf a) then d.load a else 0)
  else if (0x88000 ≤ a && a < 0x8E000) || (0x90000 ≤ a && a < 0x100000) then d.load a
  else 0

/-! ## What a write stores -/

/-- The clamps and safe codes that rest on more than one field, or that R13's two forms do not cover. -/
def fixWord (a : Nat) (w : Word) : Word :=
  if a = F.PWR_POOL then clampPool w
  else if 0x6014 ≤ a && a ≤ 0x6017 then withBits w 11 0 (min (bitsOf w 11 0) (bitsOf w 23 12 - 1))
  else if 0x6800 ≤ a && a < 0x6900 && a % 16 = 0 then
    (if bitsOf w 2 0 = kGas then withBits w 19 16 (min 3 (bitsOf w 19 16)) else w)
  else if 0x6800 ≤ a && a < 0x6900 && a % 16 = 5 then withBits w 71 36 (max (bitsOf w 71 36) (bitsOf w 35 0))
  else if a = F.MET_IFCFG then channels.foldl (fun w c => if bitsOf w (2 * c + 1) (2 * c) = 3 then withBits w (2 * c + 1) (2 * c) 0 else w) w
  else if 0x6A11 ≤ a && a ≤ 0x6A14 then fixCodes w
  else if a = F.MAC_REPSEL0 || a = F.MAC_REPSEL1 then fixCodes w
  else if a = F.SEAM_QCTL then (if quiesceOk (bitsOf w 12 8) then w else withBits w 12 8 31)
  else if a = F.TMR_CFG 1 then withBits w 1 1 1
  else if a = F.BIST_EN then w ||| Word.ofN 0x8107
  else w

/-- The bits of a register that a write makes pending (R8, R10, R141, R144, R313, R345, R373, R379, R468). `now`: a held order that step 3
of the boundary applies, past the step in which the cycle's pending values took effect (R24, R31). -/
def Dev.deferMask (d : Dev) (a : Nat) (now : Bool) : Word :=
  let all : Word := BitVec.allOnes 72
  let blk := blockIndex a
  if blk = 4 then
    (if 0x5200 ≤ a then all
     else
       let n := (a - 0x5000) / 32
       let k := (a - 0x5000) % 32
       if k = 4 || k = 5 then all
       else if d.flag (F.TMR_STAT_RUN n) then (if k = 3 then all else if k = 0 then maskOf 13 2 &&& ~~~(maskOf 7 5) else 0)
       else 0)
  else if blk = 7 then (if d.flag F.CLK_SLKSTAT_OPEN && (a = F.TDC_CFG 0 || a = F.TDC_CFG 1) then all else 0)
  else if blk = 8 then (if d.flag F.CLK_SLKSTAT_OPEN && (a = F.USF_CFG || (0x6010 ≤ a && a ≤ 0x6017)) then all else 0)
  else if blk = 9 then (if !now && (a = F.ADC_CFG || (0x6410 ≤ a && a ≤ 0x641F)) then all else 0)
  else if blk = 10 then
    (if 0x6A11 ≤ a && a ≤ 0x6A14 then all else if !now && 0x6800 ≤ a && a < 0x6900 then all else 0)
  else if blk = 11 then (if !now && a < 0x6C08 then all else 0)
  else if blk = 12 then (if !now && 0x7001 ≤ a && a ≤ 0x7004 then all else 0)
  else if blk = 14 then (if d.flag F.MAC_CFG_EN && 1 ≤ d.jstate && d.jstate ≤ 4 && (a = F.RADIO_PHY || a = F.RADIO_CHPLAN) then all else 0)
  else if blk = 15 then (if d.flag F.MAC_CFG_EN && 1 ≤ d.jstate && d.jstate ≤ 4 && a = F.MAC_CFG then maskOf 31 16 else 0)
  else if blk = 18 then (if !now && a = F.BIST_CFG then all else 0)
  else 0

/-- Pending bits go: a later write has taken effect (R11). -/
def Dev.dropPend (d : Dev) (a : Nat) (mask : Word) : Dev :=
  let p := d.pend a
  d.onShadow (fun s => Store.set (fun _ => ⟨0, 0⟩) s a ⟨p.mask &&& ~~~mask, p.value &&& ~~~mask⟩)

/-- A master whose writes RWT takes (R8, R9). In SERVICE a Sleeve's are among them, its store to a halted TIDE_SEC too: R16 grants it `As R9`, where
R17 says that a Sleeve never changes billing time by any other path than the request (DESIGN CHOICE, log 117). -/
def Dev.trusts (d : Dev) (m : Master) : Bool := m == .collar || d.mode == 5

/-- The field takes a write of master `m` (R8, R9; SEAM_QCTL from the debug port for the Sleeves). Every register of T1 is RWT, and its fields
keep their own classes beside that (R155, log 38). -/
def Dev.takes (d : Dev) (m : Master) (a : Nat) (w : Word) (f : FieldDef) : Bool :=
  match f.acc with
  | .ro => false
  | .rwt => d.trusts m || (m == .debug && a == F.SEAM_QCTL && (bitsOf w 12 8 == 24 || bitsOf w 12 8 == 25))
  | _ => d.trusts m || !(0x5020 ≤ a && a < 0x5040)

/-- A whole register that a master's writes do not reach: DBG_CTL from the host port and the Sleeves; the mailbox but from the ports
(R17), and while it is BUSY (R238); SEAM_CMD from the Sleeves (R282); DBG_WDATA as R194 has it. -/
def Dev.barred (d : Dev) (m : Master) (a : Nat) : Bool :=
  if a = F.DBG_CTL then m != .collar && m != .debug
  else if 0x9001 ≤ a && a ≤ 0x9007 then (m != .host && m != .debug) || d.flag F.COLLAR_MBXSTAT_BUSY
  else if a = F.SEAM_CMD then m == .sleeveL || m == .sleeveR
  else if a = F.DBG_WDATA then !d.wdataTakes m
  else false

/-- A store by a Sleeve's program to a routing register is ignored: it reaches its routing through ARM alone (R293). -/
def Master.stores (m : Master) (a : Nat) : Bool := !((m == .sleeveL || m == .sleeveR) && 0x5400 ≤ a && a < 0x5450)

/-- The bits of some fields. -/
def fieldsMask (fs : List FieldDef) : Word := fs.foldl (fun m f => m ||| maskOf f.hi f.lo) 0

/-- The word after R13, field by field, for the fields given; 0 elsewhere. -/
def legalWord (fs : List FieldDef) (w : Word) : Word :=
  fs.foldl (fun x f => x ||| placed f.hi f.lo (legal f.rng (f.hi + 1 - f.lo) (bitsOf w f.hi f.lo))) 0

/-! ## What a write does beyond storing -/

/-- The port a request's TAG belongs to (R319): 0 the host port, 1 the debug port. -/
def portOf : Master → Option Nat
  | .host => some 0
  | .debug => some 1
  | _ => none

/-- REGION_WRITE: W is taken from an entry that would grant it on a granule that the other Sleeve's table grants it on, but not in
PAIRED (R174, R184). -/
def Dev.regionWritten (d : Dev) (a : Nat) : Dev :=
  let w := d.reg a
  let other (i : Nat) : Word := d.reg (if a < 0x4028 then F.SYS_RGNR i else F.SYS_RGNL i)
  let grants (v : Word) : Bool := bitsOf v 35 34 == 3 && decide (bitsOf v 9 0 ≤ bitsOf v 29 20)
  let meets (v : Word) : Bool := grants v && decide (bitsOf v 9 0 ≤ bitsOf w 29 20) && decide (bitsOf w 9 0 ≤ bitsOf v 29 20)
  if !d.paired && grants w && (List.range 8).any (fun i => meets (other i)) then
    let stored (x : ParamChange) : ParamChange := if x.addr = a && x.hi = 34 && !x.param then { x with new := 0 } else x
    ((d.setReg a (withBits w 34 34 0)).put F.SYS_RGNSTAT_WCLR 1).onCol (fun c => { c with changes := c.changes.map stored })
  else d

/-- TMRn_CMD: the bits written together, and the link actions on their way to the channel, are resolved as R139 does (log 98); a reset of T1
forces a boundary (R155). -/
def Dev.tmrCmd (d : Dev) (n : Nat) (reset stop start : Bool) : Dev :=
  if n = 1 && reset then d.t1Due 0 stop start
  else
    let acts := if 2 ≤ n && !d.busAsleep n then d.linksTo n else []
    (if acts.isEmpty then d else d.dropLinks n).tmrAct n (reset || acts.contains 1) (stop || acts.contains 2) (start || acts.contains 3)

/-- A write in the TMR block (R142, R143, R147, R152; writing 1 to OVR clears LOST, writing
1 to SKIP clears SKIPN). `old`: the register before it. -/
def Dev.tmrWritten (d : Dev) (a : Nat) (old t w : Word) : Dev :=
  if 0x5200 ≤ a then (if a = F.TMR_SEQSTAT && bitsOf w 4 4 = 1 then d.put F.TMR_SEQSTAT_SKIPN 0 else d)
  else
    let n := (a - 0x5000) / 32
    let k := (a - 0x5000) % 32
    if k = 10 then (if bitsOf w 8 8 = 1 then d.put (F.TMR_STAT_LOST n) 0 else d)
    else if k = 0 then (d.tmrEnable n (bitsOf old 0 0 == 1) (d.flag (F.TMR_CFG_EN n))).showSubst n
    else if k = 1 then d.tmrCmd n (bitsOf w 2 2 == 1) (bitsOf w 1 1 == 1) (bitsOf w 0 0 == 1)
    else if k = 2 then (if t = 0 then d else (d.setCount n (d.tmrCount n) 0).onCh n (fun c => { c with mures := 0 }))
    else if k = 9 then (if bitsOf w 8 8 = 1 then d.capPop n (bitsOf w 7 0) else d)
    else d

/-- ROUTE_WRITE: a write to a routing register is an ARM of that input (R290, R291, R293). -/
def Dev.routeWritten (d : Dev) (a : Nat) : Dev :=
  let w := d.reg a
  let src := bitsOf w 5 0
  let dis := bitsOf w 13 13 == 1
  if a < 0x5420 then d.armInput a F.EVT_PENDL F.EVT_OVFL (a - 0x5400) src dis
  else if a < 0x5440 then d.armInput a F.EVT_PENDR F.EVT_OVFR (a - 0x5420) src (dis || d.paired)
  else d.armInput a F.EVT_PENDC F.EVT_OVFC (a - 0x5440) src dis

/-- A SEAM_CMD (R274, R281, R282). The ports and the Collar have an owner code to act for; a partner's order is refused with RESULT = 3, whatever the
command (log 64). -/
def Dev.seamCmd (d : Dev) (who : Nat) (w : Word) : Dev :=
  let b := bitsOf w 31 24
  let x := bitsOf w 23 16
  if who = Own.loop || who = Own.radio then (if 1 ≤ bitsOf w 2 0 && bitsOf w 2 0 ≤ 5 then d.seamResult b 3 else d)
  else match bitsOf w 2 0 with
  | 1 => d.seamClaim who b x
  | 2 => d.seamGive who b x (bitsOf w 11 8) (bitsOf w 34 34 == 1)
  | 3 => d.seamQuery b x
  | 4 => d.seamRevert who b x
  | 5 => d.seamSetHome who b (bitsOf w 39 36) (bitsOf w 35 35 == 1)
  | _ => d

/-- SEAM_QCTL: REQ quiesces, RELEASE releases, both act once (R283, R286). -/
def Dev.qctlWritten (d : Dev) : Dev :=
  let t := d.get F.SEAM_QCTL_TARGET
  let u := d.get F.SEAM_QCTL_UNIT
  let req := d.flag F.SEAM_QCTL_REQ
  let rel := d.flag F.SEAM_QCTL_RELEASE
  let d := (d.put F.SEAM_QCTL_REQ 0).put F.SEAM_QCTL_RELEASE 0
  let d := if req then d.quiesceRequest t u else d
  if rel then d.quiesceRelease t u else d

/-- DBG_CTL: a Sleeve halts at its instruction boundary or runs on, or is asked for one step (R193). -/
def Dev.haltWritten (d : Dev) (e : Eng) (old new step : Bool) : Dev :=
  let d := if new && !old && d.runOf e == Run.running then (d.setRun e Run.halted).raise Ev.dbg
    else if old && !new && d.runOf e == Run.halted then d.setRun e Run.running else d
  if step && d.runOf e == Run.halted then d.onStepDue (· ++ [e]) else d

/-- A write of the clock block (R110, R114, R117, R119). A close takes effect some µs after the opening: a free value (log 15). Clearing CLK_XREF.EN
makes EXTREF absent at once, with XREF_LOST and the CLK event of a loss (DESIGN CHOICE: R117 does not say, log 116). -/
def Dev.clkWritten (d : Dev) (a : Nat) (w : Word) : Dev :=
  if a = F.CLK_SLKCMD then
    let d := if bitsOf w 13 13 = 1 then
        let x := d.free
        x.2.slackCloseCmd x.1
      else d
    if bitsOf w 12 12 = 1 then d.slackRequest false (bitsOf w 11 0) none else d
  else if a = F.CLK_XREF then (if d.flag F.CLK_XREF_EN then d else (d.onClk (fun c => { c with xrefGood := 0 })).setXref false)
  else if a = F.CLK_HFCOR then d.updateHferr
  else d

/-- A protected field changed by the Collar outside SERVICE is recorded at once (R50); with `each`, a write of the value it has as well (R130). -/
def Dev.recordChange (d : Dev) (m : Master) (f : Fld) (old : Word) (each : Bool) : Dev :=
  let v0 := bitsOf old f.hi f.lo
  let v1 := d.get f
  if d.mode = 5 || (v0 = v1 && !each) then d else d.log ⟨0x13, Master.cls m, 127, Word.ofN v1, f.addr, [(Word.ofN v0, 0, 0)]⟩

/-- TIDE_CTL.HALT was written (R125); the part of a tick that is left at a release is a free value (log 15). -/
def Dev.haltField (d : Dev) (t : Word) : Dev :=
  if bitsOf t 0 0 = 0 then d
  else if d.flag F.TIDE_CTL_HALT then Dev.daySweep d d.tideHalt
  else
    let x := d.free
    x.2.tideHaltClear (x.1 % 513)

/-- What the write of register `a` does after the fields are stored. `old`: the register before; `t`: the bits written; `w`: their
values after R13, the write-only bits and the ones of W1C bits among them. -/
def Dev.written (d : Dev) (m : Master) (a : Nat) (old t w : Word) : Dev :=
  let own := Master.own m
  match blockIndex a with
  | 0 =>
    if a = F.SYS_ARB then (if bitsOf w 0 0 = 1 then d.put F.SYS_ARB_COUNT 0 else d)
    else if 0x4020 ≤ a && a < 0x4030 then d.regionWritten a else d
  | 1 =>
    if a = F.PWR_CFG then d.latchInst
    else if a = F.PWR_CHG then (if bitsOf w 0 0 = 1 then d.lockHit else d)
    else if a = F.PWR_CELL then d.recordChange m F.PWR_CELL_CHEM old false else d
  | 2 => d.clkWritten a w
  | 3 =>
    if a = F.TIDE_WDAY then (d.recordChange m F.TIDE_WDAY_WDAY old (bitsOf t F.TIDE_WDAY_WDAY.lo F.TIDE_WDAY_WDAY.lo == 1)).recordChange m F.TIDE_WDAY_PHASE old
      (bitsOf t F.TIDE_WDAY_PHASE.lo F.TIDE_WDAY_PHASE.lo == 1)
    else if a = F.TIDE_CTL then d.haltField t else d
  | 4 => d.tmrWritten a old t w
  | 5 => if a = F.EVT_SWSET then d.swSet (bitsOf w 7 0) else if a < 0x5450 then d.routeWritten a else d
  | 6 =>
    if a = F.SEAM_CMD then d.seamCmd own w
    else if a = F.SEAM_STAT then
      (if bitsOf w 0 0 = 1 then ((d.put F.SEAM_STAT_DROPN 0).put F.SEAM_STAT_ORPHN 0).put F.SEAM_STAT_REVN 0 else d)
    else if a = F.SEAM_QCTL then d.qctlWritten else d
  | 7 =>
    let u := if a < 0x5D00 then 0 else 1
    if a % 256 = 1 then (if bitsOf w 8 8 = 1 then d.tdcClear u else d)
    else if a % 256 = 8 then d.tdcJobWrite u own w else d
  | 8 =>
    if a = F.USF_REQ then d.usfRequest own (portOf m) w
    else if a = F.USF_NOECHO then (if bitsOf w 32 32 = 1 then d.put F.USF_NOECHO_COUNT 0 else d)
    else if a = F.USF_ZCTL then (if bitsOf w 3 0 != 0 && d.mode == 5 then d.zeroStart else d) else d
  | 9 => if a = F.ADC_REQ then d.adcRequest own (portOf m) w else d
  | 10 =>
    if a = F.MET_LOGSELH then d.onMet (fun c => { c with newH := true })
    else if 0x6A11 ≤ a && a ≤ 0x6A13 then d.onMet (fun c => { c with newD := true }) else d
  | 11 =>
    if a = F.PLS_EVT then outputs.foldl (fun d j => if bitsOf w (8 + j) (8 + j) = 1 then d.put (F.PLS_STAT_LOST j) 0 else d) d else d
  | 12 => if a = F.LOOP_FIX then (if bitsOf old 16 16 = 0 && d.flag F.LOOP_FIX_EN then d.onLoop (fun l => { l with fixFrom := d.seconds }) else d) else d
  | 13 => if a = F.HOST_STAT then (if bitsOf w 0 0 = 1 then d.put F.HOST_STAT_NAKN 0 else d) else d
  | 14 => if a = F.RADIO_PHY || a = F.RADIO_CHPLAN then (d.clampPlan).clampWur else d
  | 15 => if a = F.MAC_CFG && bitsOf old 1 0 != d.get F.MAC_CFG_EN + 2 * d.get F.MAC_CFG_JOINEN then d.macSwitched else d
  | 16 => if a = F.WUR_CFG then d.clampWur else if a = F.WUR_STAT then (if bitsOf w 0 0 = 1 then d.wurClear else d) else d
  | 17 => if a = F.LBL_CMD then (if d.flag F.LBL_CMD_CLAIM then (d.put F.LBL_CMD_CLAIM 0).labelClaim else d) else d
  | 18 =>
    if a = F.BIST_CMD then d.bistRunCmd
    else if a = F.BIST_ECC then (if bitsOf w 64 64 = 1 then d.setReg a 0 else d) else d
  | 19 =>
    if a = F.DBG_CTL then
      (d.haltWritten .left (bitsOf old 0 0 == 1) (d.flag F.DBG_CTL_HALTL) (bitsOf w 4 4 == 1)).haltWritten .right (bitsOf old 1 1 == 1)
        (d.flag F.DBG_CTL_HALTR) (bitsOf w 5 5 == 1)
    else if a = F.DBG_TRSTAT then (if bitsOf w 32 32 = 1 then d.put F.DBG_TRSTAT_LOST 0 else d) else d
  | 20 => if a = F.COLLAR_MBXCMD then d.mailbox (m == .debug) old (d.reg a) else d
  | _ => d

/-- An RWT field written in SERVICE is a protected parameter (R257). -/
def Dev.noteRwt (d : Dev) (m : Master) (a : Nat) (old new : Word) (fs : List FieldDef) : Dev :=
  fs.foldl (fun d f =>
    let v0 := bitsOf old f.hi f.lo
    let v1 := bitsOf new f.hi f.lo
    if f.acc == .rwt then d.noteChange ⟨a, f.hi, f.lo, Word.ofN v0, Word.ofN v1, Master.cls m, false⟩ else d) d

/-- The fields `fs` of register `a` take the bits of `mask` from `w`: the store, R13, the deferral, the effect. TIDE_SEC and
TIDE_CIVOFS change through their own rules (R125, R127), DBG_WDATA is a register of a Sleeve (R194). -/
def Dev.storeFields (d : Dev) (m : Master) (a : Nat) (mask w : Word) (fs : List FieldDef) (now : Bool) : Dev :=
  if fs.isEmpty then d
  else
    let old := d.reg a
    let base := if a = F.DBG_WDATA then d.wdata else d.shadowRead a
    let plain := fs.filter (fun f => f.acc != .w1c && f.acc != .wo)
    let cmds := fs.filter (fun f => f.acc == .w1c || f.acc == .wo)
    let wc := legalWord cmds (w &&& mask)
    let t := fieldsMask plain
    let n0 := mergeMask base t (legalWord plain (mergeMask base mask w))
    let n := fixWord a n0
    let t2 := t ||| (n ^^^ n0)
    let eff := (n &&& t2) ||| wc
    let d := if a = F.TIDE_SEC && !d.flag F.TIDE_CTL_HALTED then d else d.noteRwt m a base n plain
    let d := if 0x5100 ≤ a && a < 0x5200 && a % 32 = 0 then d.busMark else d
    if a = F.TIDE_SEC then d.tideWrite n
    else if a = F.TIDE_CIVOFS then d.stepCivil n (Master.cls m)
    else if a = F.DBG_WDATA then d.wdataWrite n
    else
      let dm := d.deferMask a now
      let wmask := fieldsMask (cmds.filter (fun f => f.acc == .w1c))
      let d := d.setReg a (mergeMask old (t2 &&& ~~~dm) n &&& ~~~(wc &&& wmask))
      let d := (d.dropPend a (t2 &&& ~~~dm)).addPend a (t2 &&& dm) n
      d.written m a old (t2 ||| fieldsMask cmds) eff

/-- The bits of register `a` that a write reaches: not those of a held target, which ignores it; TDCu_JOB is served by the twin
(R285, R312). -/
def Dev.openMask (d : Dev) (a : Nat) : Word :=
  if a = F.TDC_JOB 0 || a = F.TDC_JOB 1 then BitVec.allOnes 72 else ~~~(d.heldMask a)

/-- The fields of register `a` that an order of `m` with the bits of `mask` names and that take it (R8, R9, R29). -/
def Dev.namedFields (d : Dev) (m : Master) (a : Nat) (mask w : Word) (r : RegRow) : List FieldDef :=
  if d.barred m a then []
  else r.fields.filter (fun f => (mask &&& d.openMask a &&& maskOf f.hi f.lo) != 0 && d.takes m a w f)

/-- A write of register-space address `a` as orders of class `cls`: the bits of `mask` take their values from `w`, each field named is an order, and a
field that a higher class ordered in this cycle keeps its value (R8 to R13, R29, R30, R538, R540). -/
def Dev.regWriteAs (d : Dev) (m : Master) (cls a : Nat) (mask w : Word) : Dev :=
  match rowAt a with
  | none => d
  | some r =>
    let fs := d.namedFields m a mask w r
    let win := fs.filter (fun f => !d.outrankedAs cls a f.hi f.lo)
    let d := fs.foldl (fun d f => d.noteOrderAs m cls a f.hi f.lo (bitsOf w f.hi f.lo)) d
    d.storeFields m a mask w win false

/-- A write of register-space address `a`, in the class of its master (R28). -/
def Dev.regWrite (d : Dev) (m : Master) (a : Nat) (mask w : Word) : Dev := d.regWriteAs m (Master.cls m) a mask w

/-- A write of a whole word. -/
def Dev.write (d : Dev) (m : Master) (a : Nat) (w : Word) : Dev := d.regWrite m a (BitVec.allOnes 72) w

/-- A write by the host port or the debug port anywhere (R16, R272, R537). -/
def Dev.portWrite (d : Dev) (m : Master) (a : Nat) (mask w : Word) : Dev :=
  if isRegSpace a then d.regWrite m a mask w
  else if isGeneral a then d.store a (mergeMask (d.load a) mask w)
  else if isSeam a then d.seamWrite (Master.own m) a (mergeMask (d.load a) mask w)
  else d

end Sys2Proof.Machine
end

