-- ==== Sys2Proof/Machine/Sleep.lean ====
section
/-!
DEFINITION. The sleep run state and the way back to the run-state source (spec/04_clock_and_tideline.md R103 to R106; spec/05_timers.md
R149, R150; spec/06_programming_model.md R191, R195, R196; spec/02_power_and_modes.md R65).
-/
namespace Sys2Proof.Machine

/-- The source of the run state: the PLL in full run while it has not failed, else the crystal (R19, R112). -/
def Dev.runSource (d : Dev) : Nat := if d.fullRun && !d.flag F.CLK_STAT_PLL_FAIL then 2 else 1

/-- An engine keeps the chip awake: it runs, or waits for something other than an event (R191). An engine that executes nothing does
not (DEDUCED, log 34). -/
def Dev.engineAwake (d : Dev) (e : Eng) : Bool :=
  d.runOf e == Run.running ||
    (d.runOf e == Run.waiting && (match (d.eng e).wait with | .waitev _ _ | .doze => false | _ => true))

/-- Work of the Collar's firmware, the converters, the Label or a port is in progress, or a window is open or pending (R191). -/
def Dev.working (d : Dev) : Bool :=
  d.tdcBusy 0 || d.tdcBusy 1 || !d.usf.queue.isEmpty || d.usf.shot.isSome || !d.adc.queue.isEmpty || d.adc.runA.isSome || d.adc.runB.isSome
    || !d.label.jobs.isEmpty || d.port.open_ || d.dport.open_ || !d.col.svcQ.isEmpty || d.col.shut.isSome || d.quiesce.now.isSome
    || d.flag F.CLK_SLKSTAT_OPEN || d.slack.opening.isSome || !d.slack.waiting.isEmpty || !d.slack.poolWait.isEmpty
    || (match d.col.session with | some s => s.verifying | none => false)

/-- The conditions of R191; the engines run from Stage 3. -/
def Dev.maySleep (d : Dev) : Bool :=
  decide (3 ≤ d.get F.SYS_MODE_STAGE) && !d.asleep && !d.engineAwake .collar && !d.engineAwake .left && !d.engineAwake .right
    && !d.working && !d.flag F.TIDE_CTL_HALTED && !d.flag F.DBG_CTL_NOSLEEP

/-- SLEEP_ENTRY: EBB is written, the bus channels stop, SYSCLK moves to the LF crystal, and the HF crystal stops unless HFKEEP, or while
it gives the ticks in place of the LF crystal (R106, R124, R149, R191, R196). -/
def Dev.sleepEntry (d : Dev) : Dev :=
  if d.maySleep then
    let t := d.get F.TIDE_TICKS_TICKS
    let d := d.trace 6 3 t
    let d := if d.busHeld then d else busChannels.foldl (fun d n => d.busStop n) d
    let d := (d.onBusHeld (fun _ => true)).onSleepTick (fun _ => t)
    let d := ((d.setSrc 0).put F.CLK_STAT_LOCK 0).put F.CLK_STAT_RELOCK 0
    let d := (d.onClk (fun c => { c with pendingSrc := none })).onAsleep (fun _ => true)
    if d.flag F.CLK_PLL_HFKEEP || d.flag F.CLK_STAT_LF_SUB then d else d.put F.CLK_STAT_HF_OK 0
  else d

/-- With the HF crystal ready the tree is to leave the LF crystal (R106). -/
def Dev.resumeClock (d : Dev) : Dev :=
  if !d.asleep && d.flag F.CLK_STAT_HF_OK && d.get F.CLK_STAT_SRC = 0 && decide (3 ≤ d.get F.SYS_MODE_STAGE) then d.requestSrc 1 else d

/-- SYS_DIETEMP follows the sensor: HOT at 140 °C, off below 135 °C; OVERTEMP once per start (R532, R533). -/
def Dev.reportTemp (d : Dev) (t : Int) : Dev :=
  let d := d.putS F.SYS_DIETEMP_TEMP t
  if 2240 ≤ t then
    let d := (d.put F.SYS_DIETEMP_HOT 1).put F.SYS_DIETEMP_HOTSEEN 1
    if d.pads.hotLogged then d else (d.onPads (fun p => { p with hotLogged := true })).log ⟨0x0B, 15, 127, Word.ofI t, 0, []⟩
  else if t < 2160 then d.put F.SYS_DIETEMP_HOT 0 else d

/-- What the supplies and sensors read is taken up (R47, R65, R532). -/
def Dev.observe (d : Dev) (s : Supplies) : Dev :=
  ((d.onSup (fun u => { u with loopp := s.loopp, vpool := s.vpool, vcell := s.vcell, surplus := s.surplus, needMeas := s.need, dieTemp := s.dieTemp })).buckBack).reportTemp
    s.dieTemp

/-- The chip wakes: FLOOD and what fell due in sleep are written, PWR_MEAS is updated, SYSCLK is on its way back (R65, R106, R196). -/
def Dev.wake (d : Dev) : Dev :=
  if d.asleep then
    let d := d.onAsleep (fun _ => false)
    (((d.trace 7 3 (d.get F.TIDE_TICKS_TICKS - d.sleepTick)).traceFlush).updateMeas).resumeClock
  else d

/-- SLEEP_EXIT, with the supplies and the die temperature as measured at the wake (R65, R106, R532). -/
def Dev.sleepExit (d : Dev) (s : Supplies) : Dev :=
  if d.asleep then (d.observe s).wake else d

/-- HF_READY: the crystal's start time, LSB 50 µs, and the switch that waits for it (R103, R106). -/
def Dev.hfReady (d : Dev) (up : Nat) : Dev :=
  ((d.put F.CLK_STAT_HF_OK 1).put F.CLK_STAT_HFUP (satTo 255 up)).resumeClock

/-- CLK_SWITCH; after a wake the crystal is the way to the PLL in full run (R104, R106). -/
def Dev.clkChange (d : Dev) : Dev :=
  let src := d.get F.CLK_STAT_SRC
  let d := d.clkSwitch
  if src = 0 && d.get F.CLK_STAT_SRC = 1 && d.runSource = 2 then d.startLock else d

/-- With SYSCLK back at its run-state source the bus channels resume, with make-up (R106, R150, R151). -/
def Dev.busResume (d : Dev) : Dev :=
  if d.busHeld && !d.asleep && d.get F.CLK_STAT_SRC = d.runSource then
    busChannels.foldl (fun d n => d.makeUp n) (d.onBusHeld (fun _ => false))
  else d

end Sys2Proof.Machine
end

