-- ==== Sys2Proof/Machine/Partner.lean ====
section
/-!
DEFINITION. What a partner's command asks for, whether the loop or a Riostey COMMAND carries it: the data layouts of R398, the reads,
the orders and their holding (spec/13_loop_and_host.md R394, R396, R398 to R401; spec/14_radio.md R450; spec/01_organisation.md R29, R31).
-/
namespace Sys2Proof.Machine

/-- What a command comes to: an answer, a violation (its kind in the Partner Fault Log and its reply), an order, a service call, or
image words. -/
inductive Ask
  | reply (code : Nat) (data : List Nat)
  | refuse (kind code : Nat)
  | hold (k : HeldKind)
  | service (n : Nat) (args : List Word)
  | image (off : Nat) (ws : List Word)
deriving DecidableEq, Repr

/-- A count above its command's maximum (R394). -/
def Ask.tooMany : Ask := .refuse 2 2
/-- Data that do not fit the layout, or a field outside its codes (R394). -/
def Ask.malformed : Ask := .refuse 4 5

/-- Bytes `k` to `k + n - 1` of the data as a number, most significant first. -/
def dataNat (xs : List Nat) (k n : Nat) : Nat := bytesNat ((xs.drop k).take n)

/-- The 9-byte words from byte `k` on. -/
def dataWords (xs : List Nat) (k n : Nat) : List Word := (List.range n).map (fun i => Word.ofN (dataNat xs (k + 9 * i) 9))

/-- A command without data. -/
def askNone (xs : List Nat) (a : Ask) : Ask := if xs.isEmpty then a else .malformed

/-! ## Reads -/

/-- 0x10. `addr`: the bytes of the interface's own address. -/
def Dev.askIdentify (d : Dev) (xs : List Nat) : Ask :=
  askNone xs (.reply 0 (wordBytes (d.regRead F.SYS_ID) ++ wordBytes (d.regRead F.COLLAR_ID) ++ natBytes 2 (d.get F.LOOP_CFG_ADDR)
    ++ natBytes 3 (bitsOf (d.reg (F.TMR_CMP0 1)) 47 0) ++ [d.mode]))

/-- SETPT in two bytes (R398): one above 65,535 does not fit, and its bytes are a free value (log 32). -/
def setptBytes (v : Nat) : Nat := if v < 65536 then v else Config.wideSetpoint v

/-- 0x11. -/
def Dev.askOutput (d : Dev) (xs : List Nat) : Ask :=
  askNone xs (.reply 0 (natBytes 2 (setptBytes (d.get F.LOOP_STAT_SETPT)) ++ natBytes 2 (d.get F.LOOP_STAT_MEAS) ++ [d.get F.LOOP_STAT_STATE]
    ++ wordBytes (Word.ofI d.loop.x) ++ [d.get F.LOOP_MAP_QTY]))

/-- 0x12. -/
def Dev.askAcc (d : Dev) (xs : List Nat) : Ask :=
  let n := dataNat xs 0 1
  let m := dataNat xs 1 2
  if xs.length != 3 || 15 < n || 0x1FFF < m then .malformed
  else .reply 0 (((List.range 13).filter (fun k => (m >>> k) % 2 == 1)).flatMap (fun k => natBytes 9 (d.acc n k)))

/-- 0x13; at most `top` words (R398, R450). -/
def Dev.askWords (d : Dev) (top : Nat) (xs : List Nat) : Ask :=
  let a := dataNat xs 0 3
  let n := dataNat xs 3 1
  if xs.length != 4 then .malformed
  else if top < n then .tooMany
  else if n = 0 || 0xFFFFF < a then .malformed
  else .reply 0 ((List.range n).flatMap (fun i => wordBytes (d.portRead (a + i))))

/-- 0x14. -/
def Dev.askStatus (d : Dev) (xs : List Nat) : Ask :=
  askNone xs (.reply 0 ([F.SYS_MODE, F.SYS_START, F.MET_IFSTAT, F.LOOP_STAT, F.USF_STAT].flatMap (fun a => wordBytes (d.regRead a))))

/-- 0x15; at most `fit` whole records in the reply (R398, R450). -/
def Dev.askLog (d : Dev) (fit : Nat) (xs : List Nat) : Ask :=
  let n := dataNat xs 6 1
  if xs.length != 7 then .malformed
  else if 16 < n then .tooMany
  else if n = 0 then .malformed
  else
    let r := d.logRecords (dataNat xs 0 6) (min n fit)
    .reply 0 ([r.2.length] ++ natBytes 6 r.1 ++ r.2.flatMap wordsBytes)

/-! ## Work for the Collar -/

/-- 0x20. -/
def askService (xs : List Nat) : Ask :=
  let n := dataNat xs 1 1
  if xs.length < 2 then .malformed
  else if 5 < n then .tooMany
  else if xs.length != 2 + 9 * n then .malformed
  else .service (dataNat xs 0 1) (dataWords xs 2 n)

/-- 0x21; at most `top` words (R398, R450). -/
def askImage (top : Nat) (xs : List Nat) : Ask :=
  let n := dataNat xs 3 1
  if xs.length < 4 then .malformed
  else if top < n then .tooMany
  else if n = 0 || xs.length != 4 + 9 * n then .malformed
  else .image (dataNat xs 0 3) (dataWords xs 4 n)

/-! ## Orders -/

/-- 0x30 (R399). -/
def askField (xs : List Nat) : Ask :=
  let a := dataNat xs 0 3
  let pos := dataNat xs 3 1
  let width := dataNat xs 4 1
  if xs.length != 14 || !isRegSpace a || 71 < pos || width = 0 || 72 < width || 72 < pos + width then .malformed
  else .hold (.field a pos width (Word.ofN (dataNat xs 5 9)))

/-- 0x31; `at_`: TIDE_SEC at the reference instant (R400, R450). -/
def askTime (at_ : Word) (xs : List Nat) : Ask :=
  if xs.length != 9 then .malformed else .hold (.time (Word.ofN (dataNat xs 0 9)) at_)

/-- 0x32; outside SERVICE it is answered NOT_PERMITTED (R401). -/
def Dev.askTest (d : Dev) (xs : List Nat) : Ask :=
  if xs.length != 2 then .malformed else if d.mode != 5 then .refuse 5 5 else .hold (.test (dataNat xs 0 2))

/-- The bits of a WRITE_FIELD and their values in place (R399). -/
def fieldBits (pos width : Nat) (value : Word) : Word × Word :=
  let m := maskOf (pos + width - 1) pos
  (m, (value <<< pos) &&& m)

/-- The fields an order names, each with the value it asks for (R29, R128, R399); a field that does not take the write is not
ordered. LOOP_TEST with 0 ends the test: it orders EN alone (R398; log 127). -/
def Dev.heldFields (d : Dev) (m : Master) : HeldKind → List (Nat × Nat × Nat × Nat)
  | .field a pos width value =>
    let x := fieldBits pos width value
    let w := mergeMask (d.shadowRead a) x.1 x.2
    match rowAt a with
    | none => []
    | some r => (d.namedFields m a x.1 w r).map (fun f => (a, f.hi, f.lo, bitsOf w f.hi f.lo))
  | .time tm at_ => [(F.TIDE_CIVOFS, 71, 0, (tm - at_).toNat)]
  | .test ifix =>
    let w := Word.ofN (if ifix = 0 then 0 else 2 ^ 16 + ifix)
    match rowAt F.LOOP_FIX with
    | none => []
    | some r => (d.namedFields m F.LOOP_FIX (maskOf 16 (if ifix = 0 then 16 else 0)) w r).map (fun f => (F.LOOP_FIX, f.hi, f.lo, bitsOf w f.hi f.lo))

/-- The orders held for an interface: eight at the most (R396, R450). -/
def Dev.heldFull (d : Dev) (loop : Bool) : Bool := decide (8 ≤ (d.heldOrders.filter (fun h => (h.master == Master.loop) == loop)).length)

/-- An order is held for the next boundary, and counts as an order to its fields (R29, R31). -/
def Dev.holdOrder (d : Dev) (h : Held) : Dev :=
  ((d.heldFields h.master h.kind).foldl (fun d x => d.noteOrder h.master x.1 x.2.1 x.2.2.1 x.2.2.2) d).onHeldOrders (· ++ [h])

/-- 0x03 TIME_SET as a service call. From the loop or the radio it is an order of a partner: held for the boundary like a TIME delivery, its
answer comes from there (R31, R128), BUSY while eight wait and before the short boundary (R396, R401; DEDUCED, log 105). -/
def Dev.svcTime (d : Dev) : Dev :=
  let hold (r : SvcReq) (cmd rseq : Nat) : Dev :=
    if r.svc != 0x03 || d.collarRun = Run.notStarted then d
    else if d.heldFull (r.who == .loop cmd) || decide (d.get F.SYS_MODE_STAGE < 4) then d.svcEnd r 1 []
    else
      let d := d.onCol (fun c => { c with svcQ := c.svcQ.drop 1 })
      (d.holdOrder ⟨Caller.master r.who, .time (r.arg 1) (r.arg 2), cmd, rseq⟩).svcDrain 16
  match d.col.svcQ with
  | ⟨n, .loop cmd, args⟩ :: _ => hold ⟨n, .loop cmd, args⟩ cmd 0
  | ⟨n, .radio p rseq cmd, args⟩ :: _ => hold ⟨n, .radio p rseq cmd, args⟩ cmd rseq
  | _ => d.serve 0x03 Dev.svcTimeSet

/-- Before the short boundary orders are answered BUSY; in HOLD they, IMG_DATA and most service calls are answered NOT_PERMITTED
(R401). `coord`: the sender may restart the device in HOLD. -/
def Dev.askNow (d : Dev) (coord : Bool) (a : Ask) : Ask :=
  let inHold := d.mode == 7
  let early := decide (d.get F.SYS_MODE_STAGE < 4)
  match a with
  | .hold _ => if inHold then .refuse 5 5 else if early then .reply 1 [] else a
  | .image _ _ => if inHold then .refuse 5 5 else a
  | .service n _ =>
    if inHold && !([0x00, 0x09, 0x04, 0x0E, 0x10].contains n || (n == 0x07 && coord)) then .refuse 5 5 else a
  | _ => a

/-! ## Receive pools -/

/-- The blocks of an interface's receive pool that it still owns, the oldest first (R279). -/
def Dev.poolOf (d : Dev) (loop : Bool) : List Nat :=
  if loop then d.loop.pool.filter (fun b => d.owner b == Own.loop && !d.full b)
  else d.radio.pool.filter (fun b => d.owner b == Own.radio && !d.full b)

/-- The block leaves the pool. -/
def Dev.poolTake (d : Dev) (loop : Bool) (b : Nat) : Dev :=
  if loop then d.onLoop (fun l => { l with pool := l.pool.filter (· != b) }) else d.onRadio (fun r => { r with pool := r.pool.filter (· != b) })

/-- Bytes as the words of an application block, 8 to a word (R402). -/
def packBytes : Nat → List Nat → List Word
  | 0, _ => []
  | _, [] => []
  | n + 1, xs => Word.ofN (bytesNat (xs.take 8) * 2 ^ (8 * (8 - min 8 xs.length))) :: packBytes n (xs.drop 8)

/-- The data bytes of an application block: `n` bytes from word 1 on (R402). -/
def Dev.blockBytes (d : Dev) (b n : Nat) : List Nat :=
  ((List.range ((n + 7) / 8)).flatMap (fun i => natBytes 8 ((d.load (blockAddr b + 1 + i)).toNat % 2 ^ 64))).take n

end Sys2Proof.Machine
end

