-- ==== Sys2Proof/Machine/LoopLink.lean ====
section
/-!
DEFINITION. The FSK overlay on the loop: requests, replies, collisions and application commands (spec/13_loop_and_host.md R388 to R403).
-/
namespace Sys2Proof.Machine

/-- The CRC-16 of R391. -/
def crc16 (xs : List Nat) : Nat := crcBits 16 0x1021 0xFFFF (xs.flatMap byteBits)

/-- The loop link receives: from Stage 2's end, while LOOP is not held (R90, R403). -/
def Dev.loopOpen (d : Dev) : Bool := decide (3 ≤ d.get F.SYS_MODE_STAGE) && !d.held.contains (12, 0)

/-- LOOP_CARRIER_DETECT: the carrier wakes the chip (R388). -/
def Dev.loopCarrier (d : Dev) : Dev := if d.loopOpen then (d.put F.LOOP_STAT_CARRIER 1).wake else d

/-! ## Requests -/

/-- A violation on the loop: the reply, and the entry with the length received for kinds 1, 2 and 4 (R394, R405). -/
def Dev.loopRefuse (d : Dev) (cmd : Nat) (f : LoopFrame) (kind code : Nat) : Dev :=
  (d.pflAdd 1 kind code f.addr cmd (if kind = 1 || kind = 2 || kind = 4 then f.len else 0)).loopAnswer cmd code [] false

/-- A request is accepted (LOOP_EVT.RX, LOOP_CNT.RXOK). -/
def Dev.loopAccept (d : Dev) : Dev := (d.bump F.LOOP_CNT_RXOK).event F.LOOP_EVT_RX Ev.loopEvt

/-- IMG_DATA: the words go through the oldest block of the pool to an IMG_WRITE of this interface's session (R398); with no block there
is no place for them, and the answer is BUSY (DEDUCED, log 35). -/
def Dev.loopImage (d : Dev) (off : Nat) (ws : List Word) : Dev :=
  match (d.poolOf true).head? with
  | none => d.loopAnswer 0x21 1 [] false
  | some b =>
    let d := ((d.poolTake true b).fillBlock b Own.loop ws).giveBlock b Own.collar true
    d.svcArrive ⟨0x0B, .loop 0x21, [Word.ofN b, Word.ofN off, Word.ofN ws.length]⟩

/-- What a well-formed command of the loop master does (R395, R396, R401). -/
def Dev.loopAsk (d : Dev) (cmd : Nat) (f : LoopFrame) (a : Ask) : Dev :=
  match d.askNow true a with
  | .reply code data => d.loopAccept.loopAnswer cmd code data false
  | .refuse kind code => d.loopRefuse cmd f kind code
  | .hold k => if d.heldFull true then (d.loopAccept).loopRefuse cmd f 8 1 else (d.loopAccept).holdOrder ⟨.loop, k, cmd, 0⟩
  | .service n args => d.loopAccept.svcArrive ⟨n, .loop cmd, args⟩
  | .image off ws => d.loopAccept.loopImage off ws

/-- A frame whose last byte has come: address, length and check first, in that order (R393, R394); then `act`. -/
def Dev.loopFrame (d : Dev) (cmd : Nat) (f : LoopFrame) (act : Dev → Dev) : Dev :=
  if d.loopOpen then
    let d := d.put F.LOOP_STAT_CARRIER 0
    if f.addr != d.get F.LOOP_CFG_ADDR && f.addr != 0 then d.bump F.LOOP_CNT_OTHER
    else if 240 < f.len then d.loopRefuse cmd f 2 2
    else if f.check != crc16 (natBytes 2 f.addr ++ [cmd, f.len] ++ f.data) then d.loopRefuse cmd f 1 3
    else if f.addr = 0 && f.addr != d.get F.LOOP_CFG_ADDR && cmd != 0x10 then d.loopRefuse cmd f 5 5
    else act d
  else d

/-- A command of R398, given what its data ask for. -/
def Dev.loopCommand (d : Dev) (cmd : Nat) (f : LoopFrame) (ask : Dev → Ask) : Dev := d.loopFrame cmd f (fun d => d.loopAsk cmd f (ask d))

/-- The codes of R398; those of applications while LOOP_CFG.APPEN = 1 (R402). -/
def Dev.loopAssigned (d : Dev) (cmd : Nat) : Bool :=
  (0x10 ≤ cmd && cmd ≤ 0x15) || cmd == 0x20 || cmd == 0x21 || (0x30 ≤ cmd && cmd ≤ 0x32)
    || (0x80 ≤ cmd && cmd ≤ 0xBF && d.flag F.LOOP_CFG_APPEN)

/-- UNKNOWN_COMMAND: an unassigned code (R394). -/
def Dev.loopUnknown (d : Dev) (cmd : Nat) (f : LoopFrame) : Dev :=
  if d.loopAssigned cmd then d else d.loopFrame cmd f (fun d => d.loopRefuse cmd f 3 4)

/-- APPLICATION_COMMAND: the request goes into the oldest block of the pool, the block to its HOME (R402). -/
def Dev.loopApp (d : Dev) (cmd : Nat) (f : LoopFrame) : Dev :=
  if !(0x80 ≤ cmd && cmd ≤ 0xBF) then d
  else if !d.flag F.LOOP_CFG_APPEN then d.loopFrame cmd f (fun d => d.loopRefuse cmd f 3 4)
  else d.loopFrame cmd f (fun d =>
    match (d.poolOf true).head? with
    | none => d.loopAccept.loopAnswer cmd 1 [] false
    | some b =>
      let tag := d.loop.rxtag
      let w0 := Word.ofN (cmd * 2 ^ 64 + f.len * 2 ^ 56 + f.addr * 2 ^ 40 + tag * 2 ^ 32)
      let d := ((d.loopAccept.poolTake true b).fillBlock b Own.loop (w0 :: packBytes 30 f.data)).giveBlock b (d.home b) true
      let now := d.get F.TIDE_TICKS_TICKS
      (d.onLoop (fun l => { l with app := l.app ++ [(cmd, tag, now)], rxtag := (tag + 1) % 256 })).raise Ev.loopRx)

/-- A block of LOOP goes back to its HOME (R279), and LOOP_TX is raised (R289). -/
def Dev.loopBack (d : Dev) (b status : Nat) : Dev := ((d.returnBlock b (d.home b) false status Own.loop 0).onLoop
  (fun l => { l with given := l.given.filter (fun g => g.1 != b) })).raise Ev.loopTx

/-- LOOP_APP_REPLY: software gave LOOP block `b` with FULL = 1; a block that answers no request waiting goes back as STALE_SEQUENCE
(R402). -/
def Dev.loopAppReply (d : Dev) (b : Nat) : Dev :=
  if !(d.owner b == Own.loop && d.full b) || d.held.contains (12, 0) then d
  else
    let w := d.load (blockAddr b)
    let cmd := bitsOf w 71 64
    let tag := bitsOf w 39 32
    if d.loop.app.any (fun a => a.1 == cmd && a.2.1 == tag) then
      let r : LReply := ⟨cmd, bitsOf w 55 48, d.blockBytes b (min 238 (bitsOf w 63 56)), false, 0, some b⟩
      d.onLoop (fun l => { l with app := l.app.filter (fun a => !(a.1 == cmd && a.2.1 == tag)), queue := l.queue ++ [r] })
    else d.loopBack b 7

/-- APP_REPLY_TIMEOUT: no reply within 500 ms of LOOP_RX (R402, R406). -/
def Dev.appTimeout (d : Dev) : Dev :=
  match d.loop.app with
  | [] => d
  | (cmd, _, from_) :: rest =>
    if d.get F.TIDE_TICKS_TICKS < from_ + 16384 then d
    else ((d.onLoop (fun l => { l with app := rest })).pflAdd 1 8 1 (d.get F.LOOP_CFG_ADDR) cmd 0).loopAnswer cmd 1 [] false

/-- LOOP_FRAME_TIMEOUT: the frame is truncated. `addr`: the address where its bytes had come; `cmd`: the command byte (R389, R394). -/
def Dev.loopTruncated (d : Dev) (addr : Option Nat) (cmd : Nat) : Dev :=
  if d.loopOpen then
    let d := d.put F.LOOP_STAT_CARRIER 0
    match addr with
    | none => d
    | some a =>
      if a != d.get F.LOOP_CFG_ADDR && a != 0 then d.bump F.LOOP_CNT_OTHER
      else (d.pflAdd 1 6 3 a cmd 0).loopAnswer cmd 3 [] false
  else d

/-! ## Replies -/

/-- The FLAGS byte of a reply (R392). -/
def Dev.loopFlags (d : Dev) : Nat :=
  let st := d.loopState
  let pending := d.heldOrders.any (fun h => h.master == Master.loop) || d.loop.queue.any (·.order)
  (d.flag F.SYS_START_PROV).toNat + 2 * (d.mode == 5).toNat + 4 * (st == 2 || st == 4).toNat
    + 8 * (d.reg F.MET_IFSTAT != 0 || d.get F.USF_STAT_LOST != 0).toNat + 16 * (d.flag F.SYS_START_TIDE_COLD).toNat + 32 * pending.toNat

/-- The bytes of a reply (R390, R391). -/
def Dev.replyFrame (d : Dev) (r : LReply) : List Nat :=
  let body := natBytes 2 (d.get F.LOOP_CFG_ADDR) ++ [r.cmd, 2 + r.data.length, r.code, d.loopFlags] ++ r.data
  [0x55, 0x55, 0x55, 0x55, 0xD8] ++ body ++ natBytes 2 (crc16 body)

/-- LF ticks that a frame takes at 1,200 bit/s, ten bits to a byte (R388, R389). -/
def frameTicks (bytes : Nat) : Nat := (bytes * 32768 + 119) / 120

/-- LOOP_REPLY_SEND: the loop has been free of carrier for 20 ms, the reply at the head of the queue starts; one to send again follows
it (R395, R397). -/
def Dev.loopSend (d : Dev) : Dev :=
  if !d.loopOpen || d.flag F.LOOP_STAT_TX || d.flag F.LOOP_STAT_CARRIER then d
  else
    match d.loop.queue ++ d.loop.resend.toList with
    | [] => d
    | r :: _ =>
      let rest := if d.loop.queue.isEmpty then [] else d.loop.resend.toList ++ d.loop.queue.drop 1
      let d := d.onLoop (fun l => { l with queue := rest, resend := none, sending := some r })
      let fr := d.replyFrame r
      (d.onLoop (fun l => { l with frame := fr, txEnd := d.get F.TIDE_TICKS_TICKS + frameTicks fr.length })).put F.LOOP_STAT_TX 1

/-- The reply's last byte is out: TXN counts it, and an application's block goes back (R395, R402). -/
def Dev.loopSent (d : Dev) : Dev :=
  match d.loop.sending with
  | none => d
  | some r =>
    if d.get F.TIDE_TICKS_TICKS < d.loop.txEnd then d
    else
      let d := ((d.put F.LOOP_STAT_TX 0).bump F.LOOP_CNT_TXN).onLoop (fun l => { l with sending := none, frame := [] })
      match r.block with
      | some b => d.loopBack b 0
      | none => d

/-- A reply abandoned for the third time is dropped; no rule states the STATUS its block goes back with (log 15). -/
def Dev.loopDrop (d : Dev) (r : LReply) : Dev :=
  match r.block with
  | none => d
  | some b =>
    let x := d.free
    x.2.loopBack b (x.1 % 256)

/-- LOOP_COLLISION: a master's carrier while the device transmits (R397). -/
def Dev.loopCollision (d : Dev) : Dev :=
  match d.loop.sending with
  | none => d
  | some r =>
    let d := (d.onLoop (fun l => { l with sending := none, frame := [] })).put F.LOOP_STAT_TX 0
    let d := (d.put F.LOOP_STAT_CARRIER 1).event F.LOOP_EVT_COLL Ev.loopEvt
    let d := d.pflAdd 1 7 255 (d.get F.LOOP_CFG_ADDR) r.cmd 0
    if 2 ≤ r.tries then d.loopDrop r else d.onLoop (fun l => { l with resend := some { r with tries := r.tries + 1 } })

end Sys2Proof.Machine
end

