-- ==== Sys2Proof/Machine/RadioMsg.lean ====
section
/-!
DEFINITION. Riostey COMMAND, TIME and APP_UP, and messages of an unknown TYPE (spec/14_radio.md R449 to R452, R456; spec/13_loop_and_host.md
R398 to R402).
-/
namespace Sys2Proof.Machine

/-- The kind of a radio violation for a loop's kind (R406, R466). -/
def radioKind (kind : Nat) : Nat :=
  match kind with
  | 2 => 17
  | 3 => 18
  | 4 => 19
  | 5 => 20
  | 8 => 26
  | _ => kind

/-- A COMMAND is refused: the entry and the reply (R466). -/
def Dev.cmdRefuse (d : Dev) (h : RioHdr) (kind code : Nat) : Dev :=
  (d.radioFault (radioKind kind) code h.orig h.code 0).rioAnswer h.orig h.rseq code []

/-- TIDE_SEC at the start of the slot `asn`, given its value at the start of the slot now; the rounding of a slot's length in 2^-24 s
is open (R450; log 9). -/
def Dev.slotSec (d : Dev) (now : Word) (asn : Nat) : Word :=
  let back := (d.get F.MAC_ASN_ASN - asn) * d.get F.MAC_TS_SLOT * 16777216
  now - Word.ofI (near back 1000000)

/-- An application COMMAND goes into the oldest block of RADIO's pool (R402, R450). -/
def Dev.radioApp (d : Dev) (h : RioHdr) (data : List Nat) : Dev :=
  match (d.poolOf false).head? with
  | none => d.rioAnswer h.orig h.rseq 1 []
  | some b =>
    let tag := d.radio.rxtag
    let w0 := Word.ofN (h.code * 2 ^ 64 + data.length * 2 ^ 56 + h.orig * 2 ^ 40 + tag * 2 ^ 32)
    let d := ((d.poolTake false b).fillBlock b Own.radio (w0 :: packBytes 25 data)).giveBlock b (d.home b) true
    let now := d.get F.TIDE_TICKS_TICKS
    (d.onRadio (fun r => { r with app := r.app ++ [(h.code, tag, h.orig, h.rseq, now)], rxtag := (tag + 1) % 256 })).raise Ev.radioRx

/-- IMG_DATA from the radio: as from the loop, through RADIO's pool (R398, R450). -/
def Dev.radioImage (d : Dev) (h : RioHdr) (off : Nat) (ws : List Word) : Dev :=
  match (d.poolOf false).head? with
  | none => d.rioAnswer h.orig h.rseq 1 []
  | some b =>
    let d := ((d.poolTake false b).fillBlock b Own.radio ws).giveBlock b Own.collar true
    d.svcArrive ⟨0x0B, .radio h.orig h.rseq 0x21, [Word.ofN b, Word.ofN off, Word.ofN ws.length]⟩

/-- What the data of a command ask for, within the radio's limits (R450). `at_`: TIDE_SEC at the start of the slot. -/
def Dev.radioAsk (d : Dev) (cmd : Nat) (at_ : Word) (xs : List Nat) : Ask :=
  match cmd with
  | 0x10 => d.askIdentify xs
  | 0x11 => d.askOutput xs
  | 0x12 => d.askAcc xs
  | 0x13 => d.askWords 21 xs
  | 0x14 => d.askStatus xs
  | 0x15 => d.askLog 5 xs
  | 0x20 => askService xs
  | 0x21 => askImage 21 xs
  | 0x30 => askField xs
  | 0x31 => askTime at_ xs
  | 0x32 => d.askTest xs
  | _ => .refuse 3 4

/-- A new COMMAND is executed (R450, R451). -/
def Dev.radioRun (d : Dev) (h : RioHdr) (at_ : Word) (xs : List Nat) : Dev :=
  if 0x80 ≤ h.code && h.code ≤ 0xBF && d.flag F.MAC_CFG_APPEN then d.radioApp h xs
  else
    match d.askNow (h.orig == d.radio.coord) (d.radioAsk h.code at_ xs) with
    | .reply code data => d.rioAnswer h.orig h.rseq code data
    | .refuse kind code => d.cmdRefuse h kind code
    | .hold k => if d.heldFull false then d.cmdRefuse h 8 1 else d.holdOrder ⟨.radio h.orig, k, h.code, h.rseq⟩
    | .service n args => d.svcArrive ⟨n, .radio h.orig h.rseq h.code, args⟩
    | .image off ws => d.radioImage h off ws

/-- The stored originator of a COMMAND. -/
def Dev.origOf (d : Dev) (a : Nat) : Option ROrig := d.radio.origs.find? (fun o => o.addr == a)

/-- An originator's new RSEQ is stored; the least recently used of eight makes room (R451). -/
def Dev.keepOrig (d : Dev) (a rseq : Nat) : Dev :=
  d.onRadio (fun r =>
    let l := r.origs.filter (fun o => o.addr != a)
    { r with origs := l.drop (l.length - 7) ++ [⟨a, rseq, none⟩] })

/-- `a` is newer than `b` in 16-bit serial arithmetic (R451). -/
def rseqNewer (a b : Nat) : Bool := a != b && decide ((a + 65536 - b) % 65536 < 32768)

/-- COMMAND (R427, R449 to R451). `at_`: TIDE_SEC at the start of the slot it came in. -/
def Dev.radioCommand (d : Dev) (f : RxFrame) (h : RioHdr) (at_ : Word) (xs : List Nat) : Dev :=
  let r := d.rioCheck f 0x20 h none false
  if !r.2 then r.1
  else
    let d := r.1
    if d.ordFull then d.radioFault 26 255 h.orig h.code 0
    else
      match d.origOf h.orig with
      | none => (d.keepOrig h.orig h.rseq).radioRun h at_ xs
      | some o =>
        if rseqNewer h.rseq o.rseq then (d.keepOrig h.orig h.rseq).radioRun h at_ xs
        else if h.rseq = o.rseq then
          let d := d.onRadio (fun r => { r with origs := r.origs.filter (fun x => x.addr != h.orig) ++ [o] })
          match o.reply with
          | some m => d.queueOrd { m with tries := 0 }
          | none => d
        else (d.radioFault 22 7 h.orig h.code 0).queueReply h.orig h.rseq 7 []

/-- TIME from COORD: master time at the start of a slot within the last 65,535 (R450). `at_`: TIDE_SEC at the start of the slot it came
in. -/
def Dev.radioTime (d : Dev) (f : RxFrame) (h : RioHdr) (asn : Nat) (tm at_ : Word) : Dev :=
  let r := d.rioCheck f 0x30 h (some 14) true
  if !r.2 then r.1
  else
    let d := r.1
    let now := d.get F.MAC_ASN_ASN
    if now < asn || 65535 < now - asn then d.rioRefuse 0x30 h 19 5 0
    else
      match d.askNow true (.hold (.time tm (d.slotSec at_ asn))) with
      | .hold k => if d.heldFull false then d.rioRefuse 0x30 h 26 1 0 else d.holdOrder ⟨.radio h.orig, k, 0, h.rseq⟩
      | .refuse kind code => d.rioRefuse 0x30 h (radioKind kind) code 0
      | .reply code _ => d.queueReply h.orig h.rseq code []
      | _ => d

/-- The TYPEs of R449 that the device receives; one it only sends is unknown to it as a received TYPE (DEDUCED, log 128). -/
def riosteyKnown (ty : Nat) : Bool :=
  [0x02, 0x04, 0x05, 0x06, 0x12, 0x20, 0x30, 0x31, 0x32].contains ty

/-- RIOSTEY_UNKNOWN_TYPE (R449, R466). -/
def Dev.unknownType (d : Dev) (f : RxFrame) (ty : Nat) (h : RioHdr) : Dev :=
  if riosteyKnown ty then d
  else
    let r := d.rioCheck f ty h none false
    if r.2 then r.1.rioRefuse ty h 18 4 0 else r.1

/-- APP_REPLY_TIMEOUT on the radio (R402, R450). -/
def Dev.radioAppTimeout (d : Dev) : Dev :=
  match d.radio.app with
  | [] => d
  | (cmd, _, orig, rseq, from_) :: rest =>
    if d.get F.TIDE_TICKS_TICKS < from_ + 16384 then d
    else ((d.onRadio (fun r => { r with app := rest })).radioFault 26 1 orig cmd 0).rioAnswer orig rseq 1 []

/-- A block given to RADIO with FULL = 1 that answers an application COMMAND is sent; one that answers none goes back as STALE_SEQUENCE
(R402). -/
def Dev.radioAppReply (d : Dev) (b cmd : Nat) (w : Word) : Dev :=
  let tag := bitsOf w 39 32
  match d.radio.app.find? (fun a => a.1 == cmd && a.2.1 == tag) with
  | none => d.appUpBack b 7 0
  | some (_, _, orig, rseq, _) =>
    let data := d.blockBytes b (min 200 (bitsOf w 63 56))
    let d := d.onRadio (fun r => { r with app := r.app.filter (fun a => !(a.1 == cmd && a.2.1 == tag)) })
    if d.ordFull then d.appUpBack b 1 2
    else
      let m : RMsg := ⟨0x21, orig, rseq, bitsOf w 55 48, data, 0, true, d.radio.awakeTill.isSome, none⟩
      let keep (o : ROrig) : ROrig := if o.addr = orig && o.rseq = rseq then { o with reply := some m } else o
      (d.queueOrd { m with block := some b }).onRadio (fun r => { r with origs := r.origs.map keep })

/-- APP_UP: block `b` was given to RADIO with FULL = 1 (R456). -/
def Dev.appUp (d : Dev) (b : Nat) : Dev :=
  if !(d.owner b == Own.radio && d.full b) || d.held.contains (14, 0) || d.radio.ord.any (fun m => m.block == some b) then d
  else
    let w := d.load (blockAddr b)
    let ty := bitsOf w 71 64
    if ty != 0x14 then d.radioAppReply b ty w
    else if !d.inNet then d.appUpBack b 1 4
    else if d.ordFull then d.appUpBack b 1 2
    else
      let m := d.ownMsg 0x14 (d.blockBytes b (min 200 (bitsOf w 63 56))) false
      m.2.queueOrd { m.1 with dest := bitsOf w 55 40, block := some b }

end Sys2Proof.Machine
end

