-- ==== Sys2Proof/Machine/Boundary.lean ====
section
/-!
DEFINITION. The cycle boundary: all of R24 and everything other chapters place at it (spec/01_organisation.md R24, R25, R31; spec/03_start_and_shutdown.md
R86, R89; spec/08_collar.md R247 to R263; spec/15_replacement.md R477, R482; and the boundary rules of each block).
-/
namespace Sys2Proof.Machine

/-! ## Held orders -/

/-- The classes of an order and of a field of it (R28, R31). -/
def sameField (x y : Nat × Nat × Nat × Nat) : Bool := x.1 == y.1 && x.2.1 == y.2.1 && x.2.2.1 == y.2.2.1

/-- A held order is applied to a field: no higher class ordered it in the cycle, and no later held order of its own class (R31). `later`:
the held orders received after it. -/
def Dev.heldWins (d : Dev) (h : Held) (later : List Held) (x : Nat × Nat × Nat × Nat) : Bool :=
  !d.outranked h.master x.1 x.2.1 x.2.2.1
    && !later.any (fun k => Master.cls k.master == Master.cls h.master && (d.heldFields k.master k.kind).any (sameField x))

/-- The effect of a held order on the fields it won, and the result bytes of its reply: the word as read back (R396, R398, R399). -/
def Dev.applyHeld (d : Dev) (h : Held) (won : List (Nat × Nat × Nat × Nat)) : Dev × List Nat :=
  match h.kind with
  | .field a pos width value =>
    let x := fieldBits pos width value
    let d := match rowAt a with
      | none => d
      | some r =>
        let fs := (d.namedFields h.master a x.1 x.2 r).filter (fun f => won.any (fun w => w.2.1 == f.hi && w.2.2.1 == f.lo))
        d.storeFields h.master a x.1 x.2 fs true
    (d, wordBytes (d.regRead a))
  | .time tm at_ =>
    let d := if won.isEmpty then d else d.deliverTime tm at_ (Master.cls h.master)
    (d, if h.cmd = 0x20 then resultBytes [d.regRead F.TIDE_CIVOFS] else wordBytes (d.regRead F.TIDE_CIVOFS))
  | .test ifix =>
    let w := Word.ofN (if ifix = 0 then 0 else 2 ^ 16 + ifix)
    let m := won.foldl (fun m f => m ||| maskOf f.2.1 f.2.2.1) (0 : Word)
    let d := match rowAt F.LOOP_FIX with
      | none => d
      | some r => d.storeFields h.master F.LOOP_FIX m w (r.fields.filter (fun f => won.any (fun w => w.2.1 == f.hi && w.2.2.1 == f.lo))) true
    (d, wordBytes (d.regRead F.LOOP_FIX))

/-- The reply of an order is queued (R33, R396, R452). -/
def Dev.answerHeld (d : Dev) (h : Held) (code : Nat) (data : List Nat) : Dev :=
  match h.master with
  | .loop => d.loopAnswer h.cmd code data true
  | .radio p => if h.cmd = 0 then d.queueReply p h.rseq code data else d.rioAnswer p h.rseq code data
  | _ => d

/-- A held loop test whose SERVICE ended before the boundary resolves it is answered NOT_PERMITTED, as R401 has it outside SERVICE (DEDUCED, log 33). -/
def Dev.testOver (d : Dev) (h : Held) : Bool :=
  match h.kind with
  | .test _ => d.mode != 5
  | _ => false

/-- ORDER_RESOLUTION, order by order: ACK where it won every field it named, else SUPERSEDED (R31). -/
def Dev.resolve (d : Dev) : List Held → Dev
  | [] => d
  | h :: later =>
    if d.testOver h then (d.answerHeld h 5 []).resolve later
    else
    let fs := d.heldFields h.master h.kind
    let won := fs.filter (fun x => d.heldWins h later x)
    let r := d.applyHeld h won
    (r.1.answerHeld h (if won.length = fs.length then 0 else 6) r.2).resolve later

/-- Step 3 of R24; a new command cycle has no orders yet (R29). -/
def Dev.resolveHeld (d : Dev) : Dev :=
  let hs := d.heldOrders
  ((d.resolve hs).onHeldOrders (fun _ => [])).onOrders (fun _ => [])

/-! ## Step 2: what takes effect -/

/-- Registers whose pending values take effect at every cycle boundary (R8, R24, R345, R379): ADC, MET descriptors, LOOP, BIST_CFG. The
rest have moments of their own: timers at a wrap, TDC and USF at the end of a window, the log selections at a ring's period, the radio when
the device leaves the network. -/
def boundaryRegs (a : Nat) : Bool :=
  (0x6400 ≤ a && a < 0x6900) || (0x7001 ≤ a && a ≤ 0x7004) || a == F.BIST_CFG

/-- A channel that the boundary configured gets its carrier of the configured table, or the Sleeve in service, and its blocks their HOME; one turned OFF
has none; a change of the table raises COLLAR_MSG (R244, R245, R249; log 17). -/
def Dev.newCarriers (d : Dev) (was : List Nat) : Dev :=
  let up (c : Nat) : Bool := d.sleeveUp (engOf c)
  let pick (n : Nat) : Nat :=
    let c := if Config.carrierRight n then 2 else 1
    if d.col.fb then 0 else if d.paired then 3 else if up c then c else if up (otherSleeve c) then otherSleeve c else 0
  let code (n : Nat) : Nat := if !d.configured n then 0 else if was.contains n then d.carrier n else pick n
  (d.setTable (codes2 code) (d.get F.COLLAR_CHTAB_STRETCH) d.paired).homeBlocks (channels.filter (fun n => d.configured n && !was.contains n))

/-- RWS_APPLY: RWS and deferred values take effect (R24 step 2). -/
def Dev.rwsApply (d : Dev) : Dev :=
  let was := channels.filter (fun n => d.configured n)
  ((outputs.foldl (fun d j => d.plsApply j) d).applyPendIn boundaryRegs).newCarriers was

/-! ## The parts of a boundary -/

/-- Step 1 of R24: T1 wraps and the boundary event goes out; the trace marks it (R195). -/
def Dev.boundaryEvent (d : Dev) : Dev :=
  let d := d.t1Wrap.raise Ev.cycle
  if d.flag F.DBG_TRCFG_SYNC then d.trace 8 3 (d.get F.TIDE_TICKS_TICKS) else d

/-- The posts of the ended cycle: catch-up posts that did not come, the fallback program's own, and what the Sleeves owe (R25, R187,
R252, R253). -/
def Dev.boundaryPosts (d : Dev) (cyc dur : Nat) (fb : FbMeas) : Dev :=
  (((d.fillBoundary cyc).fbCycle dur fb).pairTimeout).missingPosts cyc

/-- Checkpoint, mirror and counters are committed (R263, R404, R477); CKPT = 3 commits no checkpoint. -/
def Dev.boundaryCommit (d : Dev) (adopted : Bool) : Dev :=
  let d := if d.get F.SYS_START_CKPT = 3 then d else d.commitCk
  (if adopted then d.mirrorAdopted else d.mirrorBoundary).zeroFlush.pflCommit

/-- HANDOVER ends for the cause that stands (R59, R482 step 7). -/
def Dev.leaveHandover (d : Dev) : Dev :=
  match d.mode, d.sup.handoverOver with
  | 6, some c => (d.onSup (fun s => { s with handoverOver := none })).enterRegime d.regime c
  | _, _ => d

/-- The blocks' own boundary work. `p`: the T1 period of the ended cycle. -/
def Dev.boundaryBlocks (d : Dev) (p : Nat) (o : BoundaryObs) : Dev :=
  let d := ((((d.dataLog.reportSnapshot).usfBoundary).tdcBoundary 0).tdcBoundary 1).slackBoundary
  let d := ((d.pllBoundary d.fullRun (d.put F.CLK_STAT_PLL_FAIL 0).modePeriod).loopPv p).loopReg o.loopMeas
  (((d.updateLoad o.busyL o.busyR).commitChanges).sleeveBoundary).updateMeas.updateHarv

/-- The ended cycle is counted and the Collar services its watchdog (R92, R244). -/
def Dev.boundaryEnd (d : Dev) : Dev := (d.nextCycle).onCol (fun c => { c with wdTick := d.get F.TIDE_TICKS_TICKS })

/-- The first full-rate boundary: the loop follows full measurement and PROVISIONAL ends, once the wait for the shot floor is over (R46, R59, R86). In HOLD after a loop return it is the
one from which the loop takes the fail current (R62). -/
def Dev.fullRate (d : Dev) : Dev :=
  if d.get F.SYS_MODE_STAGE = 4 && d.mode != 7 && (d.regime = 1 || d.regime = 2 || d.regime = 3) && d.sup.filled then
    (d.loopFull.put F.SYS_START_PROV 0).onSup (fun s => { s with regulating := false })
  else if d.mode = 7 && d.get F.SYS_MODE_BASE != 4 then d.onSup (fun s => { s with regulating := false })
  else d

/-- A cycle boundary after a cycle of `dur` (LSB 2^-24 s). -/
def Dev.boundary (d : Dev) (dur : Nat) (o : BoundaryObs) : Dev :=
  let cyc := d.get F.COLLAR_CYCLE_CYCLE
  let d := ((d.observe o.sup).boundaryEvent.bistBoundary).rwsApply
  let d := if d.get F.SYS_MODE_STAGE = 4 then d.modeTriggers else d
  let d := d.resolveHeld.boundaryPosts cyc dur o.fb
  let due := d.adoptDue && d.get F.SYS_MODE_STAGE == 4
  let d := ((if due then d.adopt else d).boundaryCommit due)
  let d := if due then d.leaveHandover else d
  ((d.boundaryBlocks dur o).fullRate).boundaryEnd

/-- A boundary is possible: the device runs, no shutdown is under way, the timers are not held. -/
def Dev.boundaryOk (d : Dev) : Bool := decide (3 ≤ d.get F.SYS_MODE_STAGE) && d.col.shut.isNone && !d.held.contains (4, 0)

/-- T1's counter steps on until it wraps: by its CMP0 match, or where its count already stands at CMP0 or above, by its overflow (R137, R138, R155, R158). -/
def Dev.t1Reach (d : Dev) : Dev := d.tmrLeaps 1 0 4 (2 ^ 96)

/-- CYCLE_BOUNDARY: T1 wraps (R24, R155). -/
def Dev.cycleBoundary (d : Dev) (o : BoundaryObs) : Dev :=
  if d.boundaryOk && d.flag (F.TMR_STAT_RUN 1) then
    let d := d.t1Reach
    if d.col.bndDue then (d.onCol (fun c => { c with bndDue := false })).boundary (d.col.bndDur * 512) o else d
  else d

/-- A boundary that a wrap of T1 by a command brings at once: no new readings of the supplies or results come with it (R155; log 36). Before
Stage 3, in a shutdown and while TMR is held a wrap of T1 is the boundary event alone. -/
def Dev.forcedBoundary (d : Dev) : Dev :=
  if d.col.bndDue then
    let s := d.sup
    let o : BoundaryObs := ⟨⟨s.loopp, s.vpool, s.vcell, s.surplus, s.needMeas, s.dieTemp⟩, d.get F.COLLAR_LOAD_BUSYL, d.get F.COLLAR_LOAD_BUSYR,
      d.get F.LOOP_STAT_MEAS, ⟨[], []⟩⟩
    let d := d.onCol (fun c => { c with bndDue := false })
    if d.boundaryOk then d.boundary (d.col.bndDur * 512) o else d.boundaryEvent
  else d

/-! ## The short boundary -/

/-- The base mode at the end of Stage 3 (R59). -/
def Dev.startBase (d : Dev) : Nat :=
  if d.battery then 3 else if d.needKnown && decide (d.surplusNow < d.needNow) then 2 else 1

/-- The channels pass to the Sleeves, which start (R82, R86). A Sleeve whose items failed does not start; its twin carries its channels
(R26, R506). -/
def Dev.startSleeves (d : Dev) : Dev :=
  let ok (s : Nat) : Bool := !d.failedItem (5 + s) && !d.retired s
  let d := d.fbStop
  let d := if ok 1 then d.startSleeve .left else d
  let d := if ok 2 then d.startSleeve .right else d
  if ok 1 && ok 2 then d.setTable d.configTable 0 false else if ok 1 then d.allTo 1 else d.allTo 2

/-- The mode at the end of Stage 3: START gives the base mode or SERVICE; HANDOVER that is not over keeps its mode with the base regime; one
that is over ends with its own cause (R59, R86, R482). -/
def Dev.startMode (d : Dev) (base : Nat) : Dev :=
  if d.mode = 6 then
    match d.sup.handoverOver with
    | some c => (d.onSup (fun s => { s with handoverOver := none })).enterRegime base c
    | none => d.put F.SYS_MODE_BASE base
  else d.enterRegime base Cause.stage3

/-- A supply loss held while the device started is acted on (R89). -/
def Dev.startLossAct (d : Dev) (fb : FbMeas) : Dev :=
  let l := d.sup.startLoss
  let d := d.onSup (fun s => { s with startLoss := none })
  match l with
  | none => d
  | some 1 => d.loopLossAct fb
  | some c => d.shutdown c false fb

/-- The START record: A: IDSUM in [31:0], the stage times, whose places are open (R86, R234, R262; log 6). -/
def Dev.startRecord (d : Dev) : Dev :=
  d.log ⟨0x01, 15, 127, withBits (Config.payload 0x01 0 [d.get F.SYS_START_T2, d.get F.SYS_START_T3]) 31 0 (d.get F.COLLAR_ID_IDSUM), d.col.outage, []⟩

/-- SHORT_BOUNDARY: Stage 3 ends, `t3` ms after the start reference (R86, R89). -/
def Dev.shortBoundary (d : Dev) (o : BoundaryObs) (t3 : Nat) : Dev :=
  if !d.boundaryOk || d.get F.SYS_MODE_STAGE != 3 || d.mode = 7 || !d.imgVal (d.activeOf false) then d
  else
    let dur := d.elapsed
    let cyc := d.get F.COLLAR_CYCLE_CYCLE
    let d := (d.observe o.sup).firstFallback o.fb
    let d := (((d.boundaryEvent).bistBoundary).rwsApply).resolveHeld
    let d := (d.boundaryPosts cyc dur o.fb).startSleeves
    let d := (d.put F.SYS_MODE_STAGE 4).put F.SYS_START_T3 (satTo 4095 t3)
    let due := d.adoptDue
    let d := (if due then d.adopt else d).boundaryCommit due
    let d := ((d.startMode d.startBase).applyRegimeNow.startRecord).irq Irq.fullRate
    let d := (((d.boundaryBlocks dur o).boundaryEnd).macSwitched).startSweep
    d.startLossAct o.fb

end Sys2Proof.Machine
end

