-- ==== Sys2Proof/Machine/Port.lean ====
section
/-!
DEFINITION. The host port and the debug port, the supply of the pins and the die temperature (spec/13_loop_and_host.md R407 to R416;
spec/04_clock_and_tideline.md R122; spec/05_timers.md R153; spec/12_energy.md R350; spec/17_electrical.md R520 to R525, R532, R533;
spec/18_register_map.md R539).
-/
namespace Sys2Proof.Machine

/-- The port. -/
def Dev.portAt (d : Dev) (dbg : Bool) : Port := if dbg then d.dport else d.port

/-- Change the port. -/
def Dev.onPortAt (d : Dev) (dbg : Bool) (f : Port → Port) : Dev := if dbg then d.onDport f else d.onPort f

/-- The port takes transactions: from Stage 2 on, VDDIO present, its block not held (R90, R285, R522). -/
def Dev.portUp (d : Dev) (dbg : Bool) : Bool :=
  decide (2 ≤ d.get F.SYS_MODE_STAGE) && !d.pads.lost && !d.held.contains ((if dbg then 19 else 13), 0)

/-- HOST_SELECT: HCS falls, or the probe asks on DDIO; the chip wakes (R407, R525). -/
def Dev.portSelect (d : Dev) (dbg : Bool) : Dev :=
  if d.portUp dbg && !(d.portAt dbg).open_ then
    (d.onPortAt dbg (fun p => { p with open_ := true, done := none, wrote := false, out := [] })).wake
  else d

/-! ## Header and checks -/

/-- The status byte (R408). -/
def Dev.statusByte (d : Dev) (dbg : Bool) : Nat :=
  128 * (decide (3 ≤ d.get F.SYS_MODE_STAGE)).toNat + 64 * d.hirq.toNat + 32 * (d.get F.CLK_STAT_SRC == 2).toNat
    + 16 * (d.flag F.SYS_START_PROV).toNat + 8 * ((d.portAt dbg).err).toNat + d.mode % 8

/-- What the device sends while the header comes in (R408). -/
def Dev.headerOut (d : Dev) (dbg : Bool) : List Nat := [0xC3, d.statusByte dbg] ++ natBytes 2 ((d.reg F.HOST_IRQ).toNat % 65536)

/-- The bits of a number, most significant first. -/
def natBits (n v : Nat) : List Bool := (List.range n).map (fun i => (v >>> (n - 1 - i)) % 2 == 1)

/-- The CRC-6 of a quarter (R409). -/
def crc6 (addr q byte0 dat : Nat) : Nat := crcBits 6 0x03 0 (natBits 20 addr ++ natBits 2 q ++ natBits 8 byte0 ++ natBits 18 dat)

/-- A quarter as it travels (R409). -/
def quarterBytes (dat c : Nat) : List Nat := [dat / 1024 % 256, dat / 4 % 256, dat % 4 * 64 + c % 64]

/-- The quarters a QMASK selects; 0 selects all (R408). -/
def quartersOf (qmask : Nat) : List Nat := [0, 1, 2, 3].filter (fun q => qmask % 16 == 0 || (qmask >>> q) % 2 == 1)

/-- The bits of a word that some quarters cover. -/
def quarterMask (qs : List Nat) : Word := qs.foldl (fun m q => m ||| maskOf (18 * q + 17) (18 * q)) 0

/-- The last word of a transaction's window: the register block, or the region of R536 (R413, R539). -/
def windowEnd (a : Nat) : Nat :=
  if isRegSpace a then 0x4000 + 0x400 * ((a - 0x4000) / 0x400) + 0x3FF
  else ([0x1FFF, 0x3FFF, 0x1BFFF, 0x1FFFF, 0x7FFFF, 0x85FFF, 0x86FFF, 0x87FEF, 0x87FFF, 0x8DFFF, 0x8FF3F, 0x8FFEF, 0x8FFFF, 0xAFFFF,
    0xCFFFF, 0xD01FF, 0xEFFFF].find? (fun e => decide (a ≤ e))).getD 0xFFFFF

/-- COUNT, 0 clamped to 1 (R408), and the words of it that lie within the window (R413). -/
def portCount (h : PortHdr) : Nat × Nat :=
  let n := max 1 (h.count % 16)
  (n, min n (windowEnd (h.addr % 2 ^ 20) + 1 - h.addr % 2 ^ 20))

/-- The device notes a clamp (R413). -/
def Dev.portClamp (d : Dev) (dbg clamped : Bool) : Dev :=
  if clamped then (d.event F.HOST_STAT_CLAMP Ev.host).onPortAt dbg (fun p => { p with err := true }) else d

/-- A transaction starts: the header goes out and the last one's error is over. -/
def Dev.portHeader (d : Dev) (dbg : Bool) : Dev :=
  let o := d.headerOut dbg
  d.onPortAt dbg (fun p => { p with out := o, err := false })

/-- A transaction stands at its end or was cut; the debug port is free again once it ends (R525). -/
def Dev.portDone (d : Dev) (dbg whole wrote : Bool) (out : List Nat) : Dev :=
  d.onPortAt dbg (fun p => { p with done := some whole, wrote := wrote, out := p.out ++ out, open_ := !(dbg && whole) })

/-- A transaction may begin on the port. -/
def Dev.portReady (d : Dev) (dbg : Bool) : Bool := d.portUp dbg && (d.portAt dbg).open_ && (d.portAt dbg).done.isNone

/-- HOST_NOP: only the header; `op`: the OP code received, of which 3 to 15 act as 0 (R408). -/
def Dev.portNop (d : Dev) (dbg : Bool) (op : Nat) : Dev :=
  if d.portReady dbg && op % 16 != 1 && op % 16 != 2 then (d.portHeader dbg).portDone dbg true false [] else d

/-! ## READ -/

/-- Words of which a port latches QW0 (R122, R153, R350; TDCu_LAST, MET_CHn_PCNT and MAC_ASN). -/
def latched (a : Nat) : Bool :=
  a == F.TIDE_SEC || a == F.TIDE_TICKS || a == F.TIDE_CIVOFS || a == F.TDC_LAST 0 || a == F.TDC_LAST 1 || a == F.MAC_ASN
    || (0x6800 ≤ a && a < 0x6900 && a % 16 == 9)
    || (0x5000 ≤ a && a < 0x5200 && ((a - 0x5000) % 32 == 2 || (a - 0x5000) % 32 == 8)) || (0x6900 ≤ a && a < 0x6A00 && a % 16 < 13)

/-- One quarter of a word: of a latched word QW0 takes the port's one latch, which stands until its next such read, and the others read it, whichever
register they name (R122, R153). -/
def Dev.readQuarter (d : Dev) (dbg : Bool) (a q : Nat) : Dev × Nat :=
  if latched a then
    let d := if q = 0 then
        let v := d.portRead a
        d.onPortAt dbg (fun p => { p with latch := v })
      else d
    (d, bitsOf (d.portAt dbg).latch (18 * q + 17) (18 * q))
  else (d, bitsOf (d.portRead a) (18 * q + 17) (18 * q))

/-- Quarters in order, each with its check; words past the window are sent as zero (R409 to R413). -/
def Dev.readQuarters (d : Dev) (dbg : Bool) (byte0 last : Nat) : List (Nat × Nat) → Dev × List Nat
  | [] => (d, [])
  | (a, q) :: rest =>
    let r := if a ≤ last then d.readQuarter dbg a q else (d, 0)
    let x := r.1.readQuarters dbg byte0 last rest
    (x.1, quarterBytes r.2 (crc6 a q byte0 r.2) ++ x.2)

/-- The quarters of a transaction, word by word (R410). -/
def planOf (h : PortHdr) (n : Nat) : List (Nat × Nat) :=
  (List.range n).flatMap (fun i => (quartersOf h.qmask).map (fun q => (h.addr % 2 ^ 20 + i, q)))

/-- HOST_READ; `got`: the quarters clocked before the port closed (R410 to R414). -/
def Dev.portReadAll (d : Dev) (dbg : Bool) (h : PortHdr) (got : Nat) : Dev :=
  if d.portReady dbg then
    let n := portCount h
    let plan := planOf h n.1
    let d := (d.portHeader dbg).portClamp dbg (n.2 < n.1)
    let r := d.readQuarters dbg (16 + h.qmask % 16) (h.addr % 2 ^ 20 + n.2 - 1) (plan.take got)
    r.1.portDone dbg (plan.length ≤ got) false r.2
  else d

/-! ## WRITE -/

/-- The port's master (R28). -/
def portMaster (dbg : Bool) : Master := if dbg then .debug else .host

/-- A quarter that failed its check (HOST_STAT, R416). -/
def Dev.quarterNak (d : Dev) : Dev := ((d.event F.HOST_STAT_NAK Ev.host).bump F.HOST_STAT_NAKN).irq Irq.check

/-- One word, its quarters as received, each data and check: it is written in one access where all are there and all pass (R412). True
where a check failed. -/
def Dev.writeWord (d : Dev) (dbg : Bool) (byte0 a : Nat) (qs : List Nat) (rx : List (Nat × Nat)) : Dev × Bool :=
  let got := qs.zip rx
  let bad := (got.filter (fun x => x.2.2 % 64 != crc6 a x.1 byte0 (x.2.1 % 2 ^ 18))).length
  let d1 := (List.range bad).foldl (fun d _ => d.quarterNak) d
  if bad != 0 then (d1, true)
  else if got.length < qs.length then (d1, false)
  else
    let w := got.foldl (fun w x => w ||| placed (18 * x.1 + 17) (18 * x.1) x.2.1) (0 : Word)
    (d1.portWrite (portMaster dbg) a (quarterMask qs) w, false)

/-- The words of a WRITE in order; `i` is the word's index. The answer's second part is WMAP. -/
def Dev.writeWords (d : Dev) (dbg : Bool) (byte0 a : Nat) (qs : List Nat) (i : Nat) : Nat → List (Nat × Nat) → Dev × Nat
  | 0, _ => (d, 0)
  | k + 1, rx =>
    let r := d.writeWord dbg byte0 (a + i) qs (rx.take qs.length)
    let x := r.1.writeWords dbg byte0 a qs (i + 1) k (rx.drop qs.length)
    (x.1, (if r.2 then 2 ^ i else 0) + x.2)

/-- HOST_WRITE; `rx`: the quarters received, and whether the trailer was clocked too (R412 to R415). -/
def Dev.portWriteAll (d : Dev) (dbg : Bool) (h : PortHdr) (rx : List (Nat × Nat)) (trailer : Bool) : Dev :=
  if d.portReady dbg then
    let n := portCount h
    let qs := quartersOf h.qmask
    let a := h.addr % 2 ^ 20
    let b0 := 32 + h.qmask % 16
    let clamped := decide (n.2 < n.1)
    let d := (d.portHeader dbg).portClamp dbg clamped
    let r := d.writeWords dbg b0 a qs 0 n.2 rx
    let t := 8 * r.2 + 4 * clamped.toNat
    let d := (r.1.put F.HOST_STAT_LAST t).onPortAt dbg (fun p => { p with err := p.err || r.2 != 0 })
    let whole := trailer && decide (n.1 * qs.length ≤ rx.length)
    d.portDone dbg whole true (if whole then quarterBytes t (crc6 a 0 b0 t) else [])
  else d

/-! ## The end of a transaction -/

/-- The port closes before its transaction is complete: TRUNC, in the trailer data of a WRITE too (R412, R414). -/
def Dev.portCut (d : Dev) (dbg : Bool) : Dev :=
  let p := d.portAt dbg
  let d := (d.event F.HOST_STAT_TRUNC Ev.host).onPortAt dbg (fun p => { p with err := true })
  if p.wrote then d.put F.HOST_STAT_LAST (d.get F.HOST_STAT_LAST ||| 2) else d

/-- HOST_DESELECT: HCS rises (R414). -/
def Dev.portDeselect (d : Dev) : Dev :=
  if d.port.open_ then (if d.port.done = some false then d.portCut false else d).onPort (fun p => { p with open_ := false }) else d

/-- DCLK_IDLE_TIMEOUT: DCLK low for 20 µs in the middle of a debug transaction (R525). -/
def Dev.dclkTimeout (d : Dev) : Dev :=
  if d.dport.open_ && d.dport.done = some false then (d.portCut true).onDport (fun p => { p with open_ := false }) else d

/-! ## Pins -/

/-- VDDIO_LOSS: the ports end, the inputs read 0 (R522). -/
def Dev.vddioLoss (d : Dev) : Dev :=
  (((d.onPads (fun p => { p with lost := true })).onPort (fun p => { p with open_ := false })).onDport (fun p => { p with open_ := false })).put
    F.SYS_PADSTAT_TPLVL 0

/-- VDDIO_RETURN, with the levels the inputs then show (R522). -/
def Dev.vddioReturn (d : Dev) (levels : Nat) : Dev :=
  if d.pads.lost then (d.onPads (fun p => { p with lost := false })).put F.SYS_PADSTAT_TPLVL levels else d

/-- VDDIO_OK follows the supply; a slew change waits for a transfer on its port to end (R520, R522). -/
def Dev.settlePads (d : Dev) : Dev :=
  let lb := if d.label.jobs.isEmpty then d.get F.SYS_PADCFG_LBSLEW else d.pads.lbSlew
  let dd := if d.dport.open_ then d.pads.ddSlew else d.get F.SYS_PADCFG_DDSLEW
  (d.putB F.SYS_PADSTAT_VDDIO_OK (d.get F.SYS_MODE_STAGE != 0 && !d.pads.lost)).onPads (fun p => { p with lbSlew := lb, ddSlew := dd })

end Sys2Proof.Machine
end

