-- ==== Sys2Proof/Machine/Engine.lean ====
section
/-!
DEFINITION. What the engines do (spec/06_programming_model.md R159 to R194; spec/07_instruction_reference.md R202 to R230): trap
checks, loads and stores, the Seam, event and front-end instructions, waiting, the rendezvous of PAIRED and the debug step. A
command that is an instruction IS the instruction its engine has fetched (log 37).
-/
namespace Sys2Proof.Machine

/-- What an instruction gets from outside its engine: nothing, a word, a block's record image with whether it is owned, a request's
status, INTERP's value with its S, a reason to wait, or the call has already settled the engine's state. -/
inductive Got
  | nothing
  | word (w : Word)
  | image (w : Word) (mine : Bool)
  | status (n : Nat)
  | interp (w : Word) (s : Bool)
  | wait (k : Wait)
  | kept
deriving DecidableEq, Repr

/-- The master an engine is toward the registers (R28, R187). -/
def Dev.asMaster (d : Dev) : Eng → Master
  | .collar => .collar
  | .left => .sleeveL
  | .right => if d.paired then .sleeveL else .sleeveR

/-! ## Memory as an engine sees it -/

/-- The check bits of a word turn out wrong. -/
def Dev.upset (d : Dev) (a : Nat) (c : Check) : Dev :=
  match c with
  | .sound => d
  | .single => if memExists a && d.eccMark a = none then d.onEcc (fun l => Store.insert l a false) else d
  | .double => if memExists a then d.onEcc (fun l => Store.insert (Store.erase l a) a true) else d

/-- The word at an engine's data address. -/
def Dev.peek (d : Dev) (e : Eng) (a : Nat) : Word := if isRegSpace a then d.regRead a else d.load (d.physical e a)

/-- The word of memory an engine fetches from. -/
def Dev.fetchWord (d : Dev) (e : Eng) : Nat := d.physical e ((d.eng e).ia.toNat / 2)

/-- The first load among these addresses that is refused (PROT_LOAD), or else whose word has a double error (ECC_DATA). -/
def Dev.loadFault (d : Dev) (e : Eng) (as : List Nat) : Option (Nat × Nat) :=
  match as.find? (fun a => !d.mayLoad e a) with
  | some a => some (0x03, a)
  | none => (as.find? (fun a => !isRegSpace a && d.eccMark (d.physical e a) == some true)).map (fun a => (0x06, a))

/-! ### INTERP's table (R216) -/

/-- A table address, modulo 2^20. -/
def tableAt (base i : Nat) : Nat := (base + i) % 2 ^ 20

/-- The first address of the table. -/
def EngState.tableBase (s : EngState) (b : WReg) : Nat := (s.reg b).toNat % 2 ^ 20

/-- Which of the table's values INTERP reads. -/
def Dev.interpCaseOf (d : Dev) (e : Eng) (a b : WReg) : InterpCase :=
  let base := (d.eng e).tableBase b
  let nk := d.peek e (tableAt base 1)
  interpCase ((d.eng e).reg a).toInt (d.peek e base).toInt (max 2 (bitsOf nk 11 0)) (bitsOf nk 17 12)

/-- The addresses of those values. -/
def Dev.interpYs (d : Dev) (e : Eng) (a b : WReg) : List Nat :=
  let base := (d.eng e).tableBase b
  match d.interpCaseOf e a b with
  | .endPoint i _ => [tableAt base (2 + i)]
  | .between i _ => [tableAt base (2 + i), tableAt base (3 + i)]

/-- The table's head: X0, and N with K. -/
def Dev.interpHead (d : Dev) (e : Eng) (b : WReg) : List Nat :=
  [(d.eng e).tableBase b, tableAt ((d.eng e).tableBase b) 1]

/-- The value of INTERP and its S. -/
def Dev.interpWord (d : Dev) (e : Eng) (a b : WReg) : Word × Bool :=
  let base := (d.eng e).tableBase b
  match d.interpCaseOf e a b with
  | .endPoint i s => (d.peek e (tableAt base (2 + i)), s)
  | .between i f =>
    interpValue (d.peek e (tableAt base (2 + i))).toInt (d.peek e (tableAt base (3 + i))).toInt f
      (bitsOf (d.peek e (tableAt base 1)) 17 12)

/-! ## Traps -/

/-- A defined encoding whose fields, engine or slot make it ILLEGAL (R159, R165, R208, R211 to R218, R226). -/
def illegalOn (e : Eng) (slot1 : Bool) : YOp → Bool
  | .movl .. => slot1
  | .extr _ _ p l _ => !fieldOk p l
  | .ins _ _ p l => !fieldOk p l
  | .clracc x => x && e == .collar
  | .movta x _ _ => x && e == .collar
  | .movtas x _ => x && e == .collar
  | .movfa x _ _ => x && e == .collar
  | .ext x _ sh _ _ => (x && e == .collar) || 143 < sh.toNat
  | .mul x _ _ sg => (x && e == .collar) || sg.toNat == 3
  | .mac x _ _ sg _ => (x && e == .collar) || sg.toNat == 3
  | .div _ _ _ sh _ _ => 71 < sh.toNat
  | .recip _ _ sh => 142 < sh.toNat
  | .poly _ _ _ sh => 143 < sh.toNat
  | .interp .. => e == .collar
  | .svc _ => e == .collar
  | .loop _ len => len == 0
  | .loopi _ len => len == 0
  | .arm i _ _ => e == .collar && 15 < i.toNat
  | _ => false

/-- The count of LOOP or LOOPI (R218). -/
def EngState.loopCount (s : EngState) : YOp → Nat
  | .loop a _ => (s.reg a).toNat % 2 ^ 32
  | .loopi c _ => c.toNat
  | _ => 0

/-- The store an instruction makes: the address, the mask and the word (R209). -/
def EngState.storeOf (s : EngState) : YOp → Option (Nat × Word × Word)
  | .st dd a imm => some (effAddr s a imm, BitVec.allOnes 72, s.reg dd)
  | .sth dd a off h => some (effAddrH s a off, halfMask h, halfPlaced h ((s.reg dd).setWidth 36))
  | _ => none

/-- The addresses an instruction loads from, in two stages: those its registers give, and those that table words give. -/
def Dev.loadsOf (d : Dev) (e : Eng) : YOp → List Nat × List Nat
  | .ld _ a imm => ([effAddr (d.eng e) a imm], [])
  | .ldh _ a off _ _ => ([effAddrH (d.eng e) a off], [])
  | .interp _ a b => (d.interpHead e b, d.interpYs e a b)
  | _ => ([], [])

/-- A fault of an instruction's loads (R177, R209, R216). -/
def Dev.loadsFault (d : Dev) (e : Eng) (op : YOp) : Option (Nat × Nat) :=
  match d.loadFault e (d.loadsOf e op).1 with
  | some x => some x
  | none => d.loadFault e (d.loadsOf e op).2

/-- A fault of an instruction's store: PROT_STORE, or a half store into a word with a double error (R168, R177). -/
def Dev.storeFault (d : Dev) (e : Eng) (op : YOp) : Option (Nat × Nat) :=
  match (d.eng e).storeOf op with
  | none => none
  | some (a, mask, _) =>
    if !d.mayStore e a then some (0x04, a)
    else if mask != BitVec.allOnes 72 && !isRegSpace a && (!isSeam a || d.owner (blockOf a) == d.me e)
        && d.eccMark (d.physical e a) == some true then some (0x06, a)
    else none

/-- The trap an instruction raises, by R177's order: cause and data address. `op` is none where no rule defines the encoding. -/
def Dev.trapCause (d : Dev) (e : Eng) (op : Option YOp) : Option (Nat × Nat) :=
  let s := d.eng e
  let slot1 := s.ia.getLsbD 0
  if !fetchSource e (s.ia.toNat / 2) then some (0x02, 0)
  else if d.eccMark (d.fetchWord e) = some true then some (0x05, 0)
  else if slot1 && bitsOf (d.load (d.fetchWord e)) 35 30 == 0x03 then some (0x01, 0)
  else
    match op with
    | none => some (0x01, 0)
    | some op =>
      if illegalOn e slot1 op then some (0x01, 0)
      else if s.loopCount op != 0 && 4 ≤ s.loops.length then some (0x08, 0)
      else
        match d.loadsFault e op with
        | some x => some x
        | none =>
          match d.storeFault e op with
          | some x => some x
          | none => match op with
            | .trap _ => some (0x07, 0)
            | _ => none

/-- A trace record of a Sleeve: none of the Collar's, and in PAIRED only the Left Sleeve's (R188, R195). -/
def Dev.traceEng (d : Dev) (e : Eng) (kind payload : Nat) : Dev :=
  if e = .collar || (e = .right && d.paired) then d else d.trace kind (Eng.code e) payload

/-- The code of a TRAP instruction (R229). -/
def trapCode : Option YOp → Nat
  | some (.trap c) => c.toNat
  | _ => 0

/-- An engine traps: a Sleeve stops with a trap record, and the trap source is raised; the Collar's is a trusted fault (R178 to
R180). -/
def Dev.trapEng (d : Dev) (e : Eng) (cause daddr tcode : Nat) (bits : BitVec 36) : Dev :=
  if e = .collar then d.trustedFault
  else
    let ia := (d.eng e).ia
    let t : TrapRec := ⟨cause, ia, bits, daddr, tcode, d.get F.TIDE_TICKS_TICKS⟩
    let d := (d.onEng e (fun s => { s with trap := some t, wait := .none })).setRun e Run.trapped
    (d.traceEng e 3 (cause * 2 ^ 56 + ia.toNat)).raise Ev.trap

/-- A word whose double error an engine met is recorded where it is nonvolatile (R509). -/
def Dev.noteDouble (d : Dev) (e : Eng) (cause daddr : Nat) : Dev :=
  if cause = 0x05 then d.nvBad (d.fetchWord e) else if cause = 0x06 then d.nvBad (d.physical e daddr) else d

/-! ## What an instruction does outside its engine -/

/-- A store by an engine (R168, R169): register space under R8 to R13, a Seam word by its owner, memory. The reserved words at the end
of the trusted region take nothing (R536), nor do the routing registers from a Sleeve's program (R293). A store of half a word to memory or to a
Seam word of its own loads the word first, and a single wrong bit is corrected (R171). -/
def Dev.engStore (d : Dev) (e : Eng) (a : Nat) (mask w : Word) : Dev :=
  if isRegSpace a then (if Master.stores (d.asMaster e) a then d.regWrite (d.asMaster e) a mask w else d)
  else
    let p := d.physical e a
    let v := mergeMask (d.load p) mask w
    let half := mask != BitVec.allOnes 72
    if isSeam a then (if half && d.owner (blockOf a) == d.me e then d.correct [p] else d).seamWrite (d.me e) a v
    else if 0x8FF40 ≤ a && a < 0x8FFF0 then d
    else (if half then d.correct [p] else d).store p v

/-- What WAITEV gets: all ones for an empty mask, an event, or nothing yet (R189, R224). R195 has an EVENT record carry the input returned; a WAITEV
with an empty mask returns none and writes no record (DESIGN CHOICE, log 114). -/
def Dev.waitEvent (d : Dev) (e : Eng) (dd : WReg) (m : Nat) : Dev × Got :=
  if m = 0 then (d, .word (BitVec.allOnes 72))
  else
    match d.firstPending (d.inputsOf e) m with
    | some i =>
      let w := d.waitevWord (d.inputsOf e) i
      let d := d.consume (d.inputsOf e) i
      (if d.flag F.DBG_TRCFG_EVT then d.traceEng e 5 i else d, .word w)
    | none => (d, .wait (.waitev dd m))

/-- A Sleeve, in PAIRED both, waits in SVC. -/
def Dev.waitSvc (d : Dev) (e : Eng) : Dev :=
  let one (d : Dev) (e : Eng) : Dev := (d.onEng e (fun s => { s with wait := .svc })).setRun e Run.waiting
  if d.paired then one (one d .left) .right else one d e

/-- SVC: the call enters the Collar's queue with W1 to W5, and the Sleeve waits (R192, R228, R235). -/
def Dev.svcCall (d : Dev) (e : Eng) (n : Nat) : Dev :=
  let s := d.eng e
  let d := if d.flag F.DBG_TRCFG_SVC then d.traceEng e 4 (n * 2 ^ 56 + s.ia.toNat) else d
  (d.waitSvc e).svcArrive ⟨n, .sleeve (e == .right && !d.paired), [s.reg 1, s.reg 2, s.reg 3, s.reg 4, s.reg 5]⟩

/-- The block an ownership instruction names (R220). -/
def EngState.blockOp (s : EngState) (a : WReg) : Nat := (s.reg a).toNat % 256

/-- The new owner that GIVE names (R222). -/
def EngState.giveTo (s : EngState) (b : WReg) (code : BitVec 4) (fromReg : Bool) : Nat :=
  if fromReg then (s.reg b).toNat % 16 else code.toNat

/-- CLAIM by an engine (R221). -/
def Dev.engClaim (d : Dev) (who b : Nat) : Dev := if d.owner b = Own.none then d.claimBlock b who else d

/-- GIVE by an engine (R222). -/
def Dev.engGive (d : Dev) (who b dest : Nat) (full : Bool) : Dev :=
  if d.owner b = who && ownDefined dest then d.giveBlock b dest full else d

/-- The record image an ownership instruction returns (R220). -/
def Dev.ownImage (d : Dev) (who b : Nat) : Got := .image (d.image b) (d.owner b == who)

/-- A taken branch leaves a BRANCH record (R195). -/
def Dev.traceBranch (d : Dev) (e : Eng) (cond : BitVec 4) (target : Nat) : Dev :=
  if (d.eng e).fl.holds cond && d.flag F.DBG_TRCFG_BR then d.traceEng e 1 ((d.eng e).ia.toNat * 2 ^ 21 + target) else d

/-- What an instruction does outside its engine, and what it gets (R189, R190, R202 to R230). ARM is a Local-class order on every engine (R226). -/
def Dev.perform (d : Dev) (e : Eng) (op : YOp) : Dev × Got :=
  let s := d.eng e
  let loads := d.loadsOf e op
  let d := d.correct (((loads.1 ++ loads.2).filter (fun a => !isRegSpace a)).map (d.physical e))
  match op with
  | .doze => if d.anyPending (d.inputsOf e) then (d, .nothing) else (d, .wait .doze)
  | .ld _ a imm => (d, .word (d.peek e (effAddr s a imm)))
  | .ldh _ a off u h =>
    let v := halfOf (d.peek e (effAddrH s a off)) h
    (d, .word (if u then v.setWidth 72 else v.signExtend 72))
  | .interp _ a b => let x := d.interpWord e a b; (d, .interp x.1 x.2)
  | .br c _ t => (d.traceBranch e c t.toNat, .nothing)
  | .brr c _ a => (d.traceBranch e c ((s.reg a).toNat % 2 ^ 21), .nothing)
  | .claim _ a => let d := d.engClaim (d.me e) (s.blockOp a); (d, d.ownImage (d.me e) (s.blockOp a))
  | .give _ a b code fromReg full =>
    let d := d.engGive (d.me e) (s.blockOp a) (s.giveTo b code fromReg) full
    (d, d.ownImage (d.me e) (s.blockOp a))
  | .testown _ a => (d, d.ownImage (d.me e) (s.blockOp a))
  | .waitev dd a => d.waitEvent e dd ((s.reg a).toNat % 2 ^ inputsN e)
  | .signal n => (d.raise (Ev.sw n.toNat), .nothing)
  | .arm i src dis =>
    (d.regWriteAs (d.asMaster e) 1 (routeReg (d.inputsOf e) i.toNat) (maskOf 5 0 ||| maskOf 13 13)
      (Word.ofN (dis.toNat * 2 ^ 13 + src.toNat)), .nothing)
  | .shot _ a => let x := d.usfShot (d.me e) (usfWord (s.reg a)); (x.1, .status x.2)
  | .conv _ a => let x := d.adcConv (d.me e) (adcWord (s.reg a)); (x.1, .status x.2)
  | .svc n => (d.svcCall e n.toNat, .kept)
  | .mark a tag => (d.traceEng e 2 (tag.toNat * 2 ^ 48 + (s.reg a).toNat % 2 ^ 48), .nothing)
  | op => match s.storeOf op with
    | some x => (d.engStore e x.1 x.2.1 x.2.2, .nothing)
    | none => (d, .nothing)

/-! ## What an instruction does inside its engine -/

/-- W[D] takes a word that came from outside; no flag changes. -/
def EngState.gotWord (s : EngState) (dd : WReg) : Got → EngState
  | .word w => s.setReg dd w
  | .image w mine => { s.setReg dd w with fl := { s.fl with z := mine } }
  | .status n => { s.setReg dd (Word.ofN n) with fl := { s.fl with z := n == 0 } }
  | .interp w x => s.writeSat dd (w, x)
  | _ => s

/-- An instruction completes in its engine: registers, flags, accumulators, the loop stack and IA (R166, R199 to R230). -/
def EngState.completeOp (s : EngState) (op : YOp) (g : Got) : EngState :=
  match op with
  | .nop => s.complete 1
  | .doze => s.complete 1
  | .movfl dd => (s.setReg dd (s.fl.bits.setWidth 72)).complete 1
  | .movtfl a => { s with fl := Flags.ofBits ((s.reg a).setWidth 5) }.complete 1
  | .lpop => { s with loops := s.loops.tail }.complete 1
  | .mov dd a => (s.setReg dd (s.reg a)).complete 1
  | .movi dd imm => (s.setReg dd (sextImm imm)).complete 1
  | .movl dd high zext lit => (s.movl dd high zext lit).complete 2
  | .alu f dd a b => (s.alu f dd a b).complete 1
  | .sel dd a b c => (s.sel dd a b c).complete 1
  | .shift f dd a n => (s.shift f dd a n).complete 1
  | .immOp f dd a imm => (s.immOp f dd a imm).complete 1
  | .extr dd a p l x => (s.extr dd a p l x).complete 1
  | .ins dd a p l => (s.ins dd a p l).complete 1
  | .ld dd _ _ => (s.gotWord dd g).complete 1
  | .ldh dd _ _ _ _ => (s.gotWord dd g).complete 1
  | .st _ _ _ => s.complete 1
  | .sth _ _ _ _ => s.complete 1
  | .clracc x => (s.setAcc x 0).complete 1
  | .movta x a b => (s.setAcc x (BitVec.append (s.reg a) (s.reg b))).complete 1
  | .movtas x a => (s.setAcc x ((s.reg a).signExtend 144)).complete 1
  | .movfa x dd high => (s.setReg dd (if high then (s.acc x).extractLsb' 72 72 else (s.acc x).setWidth 72)).complete 1
  | .ext x dd sh r u => (s.ext x dd sh r u).complete 1
  | .mul x a b sg => (s.mul x a b sg).complete 1
  | .mac x a b sg neg => (s.mac x a b sg neg).complete 1
  | .div dd a b sh u m => (s.div dd a b sh u m).complete 1
  | .recip dd a sh => (s.recip dd a sh).complete 1
  | .poly dd a b sh => (s.poly dd a b sh).complete 1
  | .interp dd _ _ => (s.gotWord dd g).complete 1
  | .br c link t => s.br c link t
  | .brr c link a => s.brr c link a
  | .loop a len => s.pushLoop ((s.reg a).toNat % 2 ^ 32) len.toNat
  | .loopi c len => s.pushLoop c.toNat len.toNat
  | .claim dd _ => (s.gotWord dd g).complete 1
  | .give dd _ _ _ _ _ => (s.gotWord dd g).complete 1
  | .testown dd _ => (s.gotWord dd g).complete 1
  | .waitev dd _ => (s.gotWord dd g).complete 1
  | .signal _ => s.complete 1
  | .arm _ _ _ => s.complete 1
  | .shot dd _ => (s.gotWord dd g).complete 1
  | .conv dd _ => (s.gotWord dd g).complete 1
  | .svc _ => s.complete 1
  | .trap _ => s
  | .mark _ _ => s.complete 1

/-- The instruction completes with what it got, or waits. -/
def Dev.conclude (d : Dev) (e : Eng) (op : YOp) (g : Got) : Dev :=
  match g with
  | .kept => d
  | .wait k => (d.onEng e (fun s => { s with wait := k })).setRun e Run.waiting
  | g => (d.onEng e (fun s => s.completeOp op g)).goOn e

/-! ## The rendezvous of PAIRED -/

/-- An operation on the world outside a Sleeve's half and its image (R186). -/
def Dev.isRendezvous (d : Dev) (e : Eng) (op : YOp) : Bool :=
  d.paired && e != .collar &&
  match op with
  | .ld .. | .ldh .. | .interp .. => ((d.loadsOf e op).1 ++ (d.loadsOf e op).2).any outsideHalf
  | .st _ a imm => outsideHalf (effAddr (d.eng e) a imm)
  | .sth _ a off _ => outsideHalf (effAddrH (d.eng e) a off)
  | .waitev .. | .shot .. | .conv .. | .signal .. | .arm .. | .claim .. | .give .. | .testown .. | .svc .. => true
  | _ => false

/-- What the device compares beside opcode and IA: addresses and store data, and W0 to W5 of an SVC (R186, R251). -/
def Dev.shown (d : Dev) (e : Eng) (op : YOp) : List Nat :=
  let s := d.eng e
  match op with
  | .ld .. | .ldh .. | .interp .. => ((d.loadsOf e op).1 ++ (d.loadsOf e op).2).filter outsideHalf
  | .claim _ a => [s.blockOp a]
  | .testown _ a => [s.blockOp a]
  | .give _ a b code fromReg _ => [s.blockOp a, s.giveTo b code fromReg]
  | .shot _ a => [(s.reg a).toNat]
  | .conv _ a => [(s.reg a).toNat]
  | .svc _ => (s.w.toList.take 6).map (·.toNat)
  | op => match s.storeOf op with
    | some x => [x.1, x.2.2.toNat]
    | none => []

/-- The two operations agree (R186). -/
def Dev.agree (d : Dev) (l r : YOp) : Bool := l == r && d.engL.ia == d.engR.ia && d.shown .left l == d.shown .right r

/-- RENDEZVOUS_MEET: both Sleeves stand at a rendezvous; the operation is performed once, as SLEEVE_L, or both trap as PAIR_DIVERGE
(R186). INTERP reads each Sleeve's own half for itself. -/
def Dev.rendezvousMeet (d : Dev) : Dev :=
  match d.engL.wait, d.engR.wait with
  | .rendezvous l, .rendezvous r =>
    if !(d.paired && d.runOf .left == Run.waiting && d.runOf .right == Run.waiting) then d
    else if d.agree l r then
      let x := d.perform .left l
      let g := match l with
        | .interp _ _ _ => (d.perform .right r).2
        | _ => x.2
      (x.1.conclude .left l x.2).conclude .right r g
    else (d.trapEng .left 0x09 0 0 (YOp.encode l)).trapEng .right 0x09 0 0 (YOp.encode r)
  | _, _ => d

/-! ## One instruction -/

/-- An instruction that passed its trap checks: it waits at a rendezvous, or runs. -/
def Dev.run (d : Dev) (e : Eng) (op : YOp) : Dev :=
  if d.isRendezvous e op then (d.onEng e (fun s => { s with wait := .rendezvous op })).setRun e Run.waiting
  else
    let x := d.perform e op
    x.1.conclude e op x.2

/-- A running engine executes the instruction it has fetched (R166, R177, R178). The fetched word is corrected as the instruction runs; where it traps,
neither that word nor one it would have loaded is corrected or counted (DESIGN CHOICE: R171 does not say, log 115). -/
def Dev.execBits (d : Dev) (e : Eng) (op : Option YOp) (bits : BitVec 36) : Dev :=
  if d.runOf e != Run.running then d
  else
    match d.trapCause e op with
    | some x => (d.noteDouble e x.1 x.2).trapEng e x.1 x.2 (trapCode op) bits
    | none =>
      match op with
      | none => d
      | some op => (d.correct [d.fetchWord e]).run e op

/-- The command of an instruction: `f` names the engine and what the check bits of the fetched word show, `x` the same for a loaded
word at data address `a`. -/
def Dev.execOp (d : Dev) (f : Fetch) (op : YOp) : Dev := (d.upset (d.fetchWord f.eng) f.check).execBits f.eng (some op) (YOp.encode op)

/-- The same for an instruction that loads: `x` is what the check bits of the loaded word show. -/
def Dev.execLoad (d : Dev) (f : Fetch) (op : YOp) (x : Check) : Dev :=
  match ((d.loadsOf f.eng op).1 ++ (d.loadsOf f.eng op).2).getLast? with
  | some a => ((if isRegSpace a || d.runOf f.eng != Run.running then d else d.upset (d.physical f.eng a) x)).execOp f op
  | none => d.execOp f op

/-- DEBUG_STEP: a halted Sleeve executes the instruction at IA, which the words of its image hold, and halts again (R193). -/
def Dev.stepEng (d : Dev) (e : Eng) : Dev :=
  if d.runOf e != Run.halted then d
  else
    let w := d.load (d.fetchWord e)
    let slot1 := (d.eng e).ia.getLsbD 0
    (d.setRun e Run.running).execBits e (YOp.decode (halfOf w slot1) (halfOf w true)) (halfOf w slot1)

/-- The steps that a write of DBG_CTL asked for. -/
def Dev.stepAll (d : Dev) : Dev := d.stepDue.foldl (fun d e => d.stepEng e) (d.onStepDue (fun _ => []))

/-! ## Waking -/

/-- DOZE_WAKE: a pending count completes the DOZE (R190). -/
def Dev.dozeWake (d : Dev) (e : Eng) : Dev :=
  if (d.eng e).wait = .doze && d.runOf e == Run.waiting && d.anyPending (d.inputsOf e) then
    (d.wake.onEng e (fun s => s.completeOp .doze .nothing)).goOn e
  else d

/-- WAITEV_RESUME: a waiting WAITEV takes its event; in PAIRED both Sleeves receive it (R186, R189). -/
def Dev.waitevResume (d : Dev) (e : Eng) : Dev :=
  match (d.eng e).wait with
  | .waitev dd m =>
    if d.runOf e != Run.waiting || (d.firstPending (d.inputsOf e) m).isNone then d
    else
      let x := d.wake.waitEvent (if d.paired && e != .collar then .left else e) dd m
      let op := YOp.waitev dd dd
      if d.paired && e != .collar then (x.1.conclude .left op x.2).conclude .right op x.2 else x.1.conclude e op x.2
  | _ => d

end Sys2Proof.Machine
end

