-- ==== Sys2Proof/Machine/Finish.lean ====
section
/-!
DEFINITION. What every command ends with: the work that follows at once from it (single steps, a boundary that a reset of T1 forces,
a wake for a window that T0 asks for in sleep, waiting windows, the clock's settings for an open pair, blocks LABEL is done with, a reply that is out, captures of
the sources raised, the trace stream), then the status fields that always show what stands (`Dev.settle`). `act` is the form of every
command's meaning.
-/
namespace Sys2Proof.Machine

/-! ## Status that follows from the state -/

/-- SEAM_STAT.CLR reads 1 while a counter is not zero. -/
def Dev.settleSeam (d : Dev) : Dev :=
  d.putB F.SEAM_STAT_CLR (d.get F.SEAM_STAT_DROPN != 0 || d.get F.SEAM_STAT_ORPHN != 0 || d.get F.SEAM_STAT_REVN != 0)

/-- DBG_STAT.PAIRED shows the channel table's. -/
def Dev.settlePaired (d : Dev) : Dev := d.putB F.DBG_STAT_PAIRED d.paired

/-- The status fields that always show what stands, block by block. -/
def Dev.settle (d : Dev) : Dev :=
  let d := d.settlePower.settleSeam.settlePaired
  let d := ((d.settleTdc 0).settleTdc 1).settleUsf.settleAdc
  let d := d.settleLogcap.settleLoop.settleRadio.settleWur
  d.settleBist.settleLabel.settlePads

/-! ## The end of a command -/

/-- LABEL returns the blocks given to it to the Collar, each with its completion word, and LABEL_DONE. No rule says what a request to it asks for: STATUS is
a free value (R279, R280, R289; log 107). -/
def Dev.labelBlocksBack (d : Dev) : Dev :=
  let bs := d.label.blocks
  bs.foldl (fun d b =>
    let f := d.free
    (f.2.returnBlock b Own.collar false (f.1 % 256) Own.label 0).raise Ev.lblDone) (d.onLabel (fun l => { l with blocks := [] }))

/-- What follows a command at once. -/
def Dev.follow (d : Dev) : Dev :=
  let d := d.stepAll.forcedBoundary
  let d := if d.asleep && d.slack.waiting.any (fun r => r.t0) then d.wake else d
  let d := ((d.busResume.serveWaiting.tdcNote 0).tdcNote 1).labelBlocksBack
  d.loopSent.capturesDue.stream

/-- A command's end. -/
def Dev.finish (d : Dev) : Dev := d.follow.settle

/-- The form of every meaning: the device changes, the queue does not. -/
def act (s : State) (f : Dev → Dev) : Host.Outcome State Fault Refusal := .next ⟨s.pending, (f s.dev).finish⟩

/-! ## What several commands share -/

/-- A master can make an access: the ports where they take transactions, every other master from Stage 2 on (R90, R525). -/
def Dev.masterUp (d : Dev) : Master → Bool
  | .host => d.portUp false
  | .debug => d.portUp true
  | _ => decide (2 ≤ d.get F.SYS_MODE_STAGE)

/-- A register write as a command: the bits of `mask` of the register at `a` (R8 to R13, R29, R30, R293). -/
def Dev.busWrite (d : Dev) (m : Master) (a : Nat) (mask w : Word) : Dev := if d.masterUp m && Master.stores m a then d.regWrite m a mask w else d

/-- The value that a word gives a field. -/
def fieldOf (f : Fld) (w : Word) : Nat := bitsOf w f.hi f.lo

/-- The bits of a field. -/
def fieldMask (f : Fld) : Word := maskOf f.hi f.lo

/-- The level of TP pin `n` (SYS_PADSTAT.TPLVL). -/
def Dev.setPin (d : Dev) (n : Nat) (high : Bool) : Dev := if d.pads.lost then d else d.putBit F.SYS_PADSTAT_TPLVL n high

/-- What an edge on a pin does; while VDDIO is absent the inputs read 0 and no edge comes in (R522). -/
def Dev.byPin (d : Dev) (f : Dev → Dev) : Dev := if d.pads.lost then d else f d

/-- An edge reaches the TDCs: one on a TP pin is that pin's level, and while VDDIO is away no edge comes in by a pin (R307, R522). -/
def Dev.edgeIn (d : Dev) (src : EdgeSrc) (rising : Bool) (f : Dev → Dev) : Dev :=
  match src with
  | .usf => f d
  | .extref => d.byPin f
  | .tp n => d.byPin (fun d => f (d.setPin n rising))

/-- `n` LF ticks pass: the channels that count them, the spread profile, the Tideline (R120 to R130, R133, R149, R109). -/
def Dev.timePasses (d : Dev) (n : Nat) : Dev := Dev.daySweep d (((d.lfTicks n).profileTicks n).advance n)

/-- The block idles for one LF tick, where the always-on domain lives (R74, R120; log 3). -/
def Dev.idle (d : Dev) : Dev := if d.col.aonLost then d else d.timePasses 1

end Sys2Proof.Machine
end

