-- ==== Sys2Proof/Machine/RunClock.lean ====
section
/-!
DEFINITION. The meanings of the commands of the clock, the Tideline, slack water and the timer channels (spec/04, spec/05).
-/
namespace Sys2Proof.Machine

/-- SLACK_REQUEST: a window request holds the spread profile, stops the converters and waits SETTLE before opening, or is
deferred (R113). -/
def execSlackRequest (t0 : Bool) (len : Nat) (other : Option Nat) (s : State) : Host.Outcome State Fault Refusal :=
  act s (fun d => d.wake.slackRequest t0 len other)

/-- SLACK_OPEN: after the settling time the window opens, sets OPEN and raises SLACK_OPEN (R113). -/
def execSlackOpen (k cam cbm : Nat) (s : State) : Host.Outcome State Fault Refusal := act s (fun d => d.slackOpen k cam cbm)

/-- SLACK_CLOSE: when the window length elapses the converters and profile resume, deferred changes apply and SLACK_CLOSE is
raised (R113). -/
def execSlackClose (s : State) : Host.Outcome State Fault Refusal := act s (fun d => d.slackClose)

/-- SLACK_CUT: VPOOL falling to 2.25 V in a window closes it at once and sets CUT (R115). -/
def execSlackCut (vpool us : Nat) (s : State) : Host.Outcome State Fault Refusal := act s (fun d => d.slackCut vpool us)

/-- HF_READY: the HF crystal amplitude detector holds for 1,024 cycles and the crystal is reported ready (R103). -/
def execHfReady (up : Nat) (s : State) : Host.Outcome State Fault Refusal := act s (fun d => d.hfReady up)

/-- LF_READY: 64 consecutive LF edges without a long gap report the LF crystal ready (R103). -/
def execLfReady (s : State) : Host.Outcome State Fault Refusal := act s (fun d => d.lfReady)

/-- CLK_SWITCH: a SYSCLK source change completes through the glitch-free gate (R104). -/
def execClkSwitch (s : State) : Host.Outcome State Fault Refusal := act s (fun d => d.clkChange)

/-- SLEEP_ENTRY: with every engine waiting and nothing in progress the chip enters the sleep run state and writes EBB (R191). -/
def execSleepEntry (s : State) : Host.Outcome State Fault Refusal := act s (fun d => d.sleepEntry)

/-- SLEEP_EXIT: a waking event returns SYSCLK towards its run-state source, writes FLOOD and applies bus-channel make-up (R106).
-/
def execSleepExit (o : Supplies) (s : State) : Host.Outcome State Fault Refusal := act s (fun d => d.sleepExit o)

/-- PLL_LOCK_DETECT: PLL lock detect asserts after the phase error holds within tolerance for LDCNT cycles (R108). -/
def execPllLockDetect (s : State) : Host.Outcome State Fault Refusal := act s (fun d => d.pllLockDetect)

/-- PLL_SWITCH: 64 reference cycles after lock detect the tree switches to the PLL, spreading starts and RELOCK clears (R108).
-/
def execPllSwitch (s : State) : Host.Outcome State Fault Refusal := act s (fun d => d.pllSwitch)

/-- PLL_LOCK_TIMEOUT: a lock not detected within 250 µs fails the attempt and declares the PLL failed (R112). -/
def execPllLockTimeout (s : State) : Host.Outcome State Fault Refusal := act s (fun d => d.pllLockTimeout)

/-- FENCE_TRIP: the rate comparator counts 99 or more PLL edges per µs, moves the tree to the crystal and restarts the lock
sequence (R111). -/
def execFenceTrip (count : Nat) (s : State) : Host.Outcome State Fault Refusal := act s (fun d => d.fence count)

/-- XREF_WINDOW: each 1,024-tick window compares the EXTREF count with FNOM and updates presence (R117). -/
def execXrefWindow (count : Nat) (s : State) : Host.Outcome State Fault Refusal := act s (fun d => d.xrefWindow count)

/-- XREF_TIMEOUT: no EXTREF edge for 2 µs makes EXTREF absent at once (R117). -/
def execXrefTimeout (s : State) : Host.Outcome State Fault Refusal := act s (fun d => d.xrefTimeout)

/-- XREF_GATE_END: at the end of a measurement gate the HF and LF crystal errors against EXTREF are stored (R118). -/
def execXrefGateEnd (hf lf : Int) (s : State) : Host.Outcome State Fault Refusal := act s (fun d => d.xrefGateEnd hf lf)

/-- BILLING_SECOND: TIDE_SEC crossing a whole second recomputes the LF correction and raises SECOND, HOUR and DAY as due (R123).
-/
def execBillingSecond (ticks : Nat) (s : State) : Host.Outcome State Fault Refusal := act s (fun d => d.timePasses ticks)

/-- LF_LOSS: no LF edge for 100 µs, or 1 ms in sleep, substitutes ticks from the HF crystal and writes LF_FAIL (R124). -/
def execLfLoss (hf : Bool) (gap : Nat) (s : State) : Host.Outcome State Fault Refusal :=
  act s (fun d => Dev.daySweep d (d.lfLoss hf gap))

/-- LF_RESTORE: after 1 s of regular LF edges the device returns to them at a tick boundary and writes LF_RESTORED (R124). -/
def execLfRestore (s : State) : Host.Outcome State Fault Refusal := act s (fun d => d.lfRestore)

/-- TIDE_PIN_RELEASE: the first rising edge on RELPIN after HALT = 0 with RELSRC = 1 restarts TIDE_SEC (R125). -/
def execTidePinRelease (pin : Fin 16) (rest : Nat) (s : State) : Host.Outcome State Fault Refusal :=
  act s (fun d => d.byPin (fun d => (d.setPin pin true).tidePinRelease pin rest))

/-- TIDE_HALT_TIMEOUT: a halt unreleased for 1 s is released automatically and sets HALT_TO (R126). -/
def execTideHaltTimeout (rest : Nat) (s : State) : Host.Outcome State Fault Refusal := act s (fun d => d.tideHaltTimeout rest)

/-- TIMER_MATCH: a counter crossing an active compare value matches and performs the self and link actions and events (R137). -/
def execTimerMatch (n : Fin 16) (runs : List (Nat × Nat)) (s : State) : Host.Outcome State Fault Refusal :=
  act s (fun d => d.tmrCounts n runs)

/-- TIMER_OVERFLOW: a counter passing its largest value overflows, keeps the excess and performs its overflow actions (R138). -/
def execTimerOverflow (n : Fin 16) (runs : List (Nat × Nat)) (s : State) : Host.Outcome State Fault Refusal :=
  act s (fun d => d.tmrCounts n runs)

/-- LINK_ACTION: a link action reaches its target one SYSCLK period after the event, or is latched on a sleeping bus channel
(R139). -/
def execLinkAction (s : State) : Host.Outcome State Fault Refusal := act s (fun d => d.linkAction)

/-- TIMER_CAPTURE: a fine-channel capture input records the counter into the tagged queue, or drops it when full (R146). -/
def execTimerCapture (n pin : Fin 16) (rising : Bool) (s : State) : Host.Outcome State Fault Refusal :=
  act s (fun d => d.byPin (fun d => d.capturePin n pin rising))

/-- BUS_CAPTURE: a bus-channel capture writes TMRn_CAP and sets CAPV, or overwrites it and sets OVR (R148). -/
def execBusCapture (n pin : Fin 16) (rising : Bool) (s : State) : Host.Outcome State Fault Refusal :=
  act s (fun d => d.byPin (fun d => d.busCapturePin n pin rising))

/-- SLACK_POOL_RECOVERED: VPOOL rising back to 2.40 V releases a window request that has been waiting for the pool (R115). -/
def execSlackPoolRecovered (vpool : Nat) (s : State) : Host.Outcome State Fault Refusal := act s (fun d => d.poolRecovered vpool)

/-- SLACK_GAP_END: CLK_SLACK.GAP after a window closes, the oldest deferred window request starts its open sequence (R114). -/
def execSlackGapEnd (s : State) : Host.Outcome State Fault Refusal := act s (fun d => d.gapEnd)

/-- TIMER_COUNT_EDGE: an edge of the selected polarity on a fine channel's TP or EXTREF count source adds INC to the counter
(R133). -/
def execTimerCountEdge (n : Fin 16) (s : State) : Host.Outcome State Fault Refusal := act s (fun d => d.byPin (fun d => d.tmrEdge n))

end Sys2Proof.Machine
end

