-- ==== Sys2Proof/Machine/RunCollar.lean ====
section
/-!
DEFINITION. The meanings of the Collar's services, Sleeve faults and the quiesce handshake (spec/08, spec/09).
-/
namespace Sys2Proof.Machine

/-- INFO: the INFO service returns COLLAR_ID, COLLAR_CHTAB and SYS_MODE (R237). -/
def execInfo (s : State) : Host.Outcome State Fault Refusal := act s (fun d => d.serve 0x00 (fun d r => d.svcInfo r))

/-- POST: the POST service checks a post record and applies its segments exactly to the accumulators, or refuses it whole
(R240). -/
def execPost (s : State) : Host.Outcome State Fault Refusal := act s (fun d => d.serve 0x01 (fun d r => d.svcPost r))

/-- ASSIGN: the ASSIGN service returns the channels carried by the caller, the channel table and the cycle number (R237). -/
def execAssign (s : State) : Host.Outcome State Fault Refusal := act s (fun d => d.serve 0x02 (fun d r => d.svcAssign r))

/-- TIME_SET: the TIME_SET service delivers a master's time and adjusts the civil offset outside the deadband (R127). -/
def execTimeSet (s : State) : Host.Outcome State Fault Refusal := act s (fun d => d.svcTime)

/-- PARAM_READ: the PARAM_READ service returns a word of the trusted parameter area (R237). -/
def execParamRead (s : State) : Host.Outcome State Fault Refusal := act s (fun d => d.serve 0x04 (fun d r => d.svcParamRead r))

/-- PARAM_WRITE: the PARAM_WRITE service writes a trusted parameter in SERVICE (R257). -/
def execParamWrite (s : State) : Host.Outcome State Fault Refusal := act s (fun d => d.serve 0x05 (fun d r => d.svcParamWrite r))

/-- MODE_REQ: the MODE_REQ service requests PAIRED or SPLIT from the next boundary (R250). -/
def execModeReq (s : State) : Host.Outcome State Fault Refusal := act s (fun d => d.serve 0x06 (fun d r => d.svcModeReq r))

/-- RESTART: the RESTART service runs an orderly shutdown and a restart reset when permitted (R94). -/
def execRestart (fb : FbMeas) (s : State) : Host.Outcome State Fault Refusal := act s (fun d => d.svcRestart fb)

/-- FUSE: the FUSE service programs SAFE_I once in SERVICE and sets LOCKED (R73). -/
def execFuse (s : State) : Host.Outcome State Fault Refusal := act s (fun d => d.serve 0x08 (fun d r => d.svcFuse r))

/-- LOG_READ: the LOG_READ service copies legal-log records from a SEQ into a Seam block (R261). -/
def execLogRead (s : State) : Host.Outcome State Fault Refusal := act s (fun d => d.serve 0x09 (fun d r => d.svcLogRead r))

/-- IMG_BEGIN: the IMG_BEGIN service opens an image update session for the inactive image (R265). -/
def execImgBegin (s : State) : Host.Outcome State Fault Refusal := act s (fun d => d.serve 0x0A (fun d r => d.svcImgBegin r))

/-- IMG_WRITE: the IMG_WRITE service copies words from a Seam block into the session image (R265). -/
def execImgWrite (s : State) : Host.Outcome State Fault Refusal := act s (fun d => d.serve 0x0B (fun d r => d.svcImgWrite r))

/-- IMG_VERIFY: the IMG_VERIFY service starts background verification of the staged image (R265). -/
def execImgVerify (s : State) : Host.Outcome State Fault Refusal := act s (fun d => d.serve 0x0C (fun d r => d.svcImgVerify r))

/-- IMG_VERIFY_DONE: background verification completes, writing IMAGE_STAGED or IMAGE_INVALID and raising COLLAR_MSG (R265). -/
def execImgVerifyDone (s : State) : Host.Outcome State Fault Refusal := act s (fun d => d.imgVerified)

/-- IMG_ACTIVATE: the IMG_ACTIVATE service starts activation of a verified image over the following boundaries (R266). -/
def execImgActivate (s : State) : Host.Outcome State Fault Refusal := act s (fun d => d.serve 0x0D (fun d r => d.svcImgActivate r))

/-- IMG_STATUS: the IMG_STATUS service returns COLLAR_IMG (R237). -/
def execImgStatus (s : State) : Host.Outcome State Fault Refusal := act s (fun d => d.serve 0x0E (fun d r => d.svcImgStatus r))

/-- IMG_SESSION_TIMEOUT: a session with no IMG_WRITE for 3,600 s is closed (R265). -/
def execImgSessionTimeout (s : State) : Host.Outcome State Fault Refusal := act s (fun d => d.sessionTimeout)

/-- KEY_INFO: the KEY_INFO service returns a Pocket slot's state and type (R237). -/
def execKeyInfo (s : State) : Host.Outcome State Fault Refusal := act s (fun d => d.serve 0x10 (fun d r => d.svcKeyInfo r))

/-- KEY_LOAD: the KEY_LOAD service loads a key from a PRIVATE block into a Pocket slot and writes KEY_LOADED (R256). -/
def execKeyLoad (s : State) : Host.Outcome State Fault Refusal := act s (fun d => d.serve 0x11 (fun d r => d.svcKeyLoad r))

/-- KEY_ERASE: the KEY_ERASE service overwrites a slot, sets REVOKED and writes KEY_ERASED (R256). -/
def execKeyErase (s : State) : Host.Outcome State Fault Refusal := act s (fun d => d.serve 0x12 (fun d r => d.svcKeyErase r))

/-- MAC_SVC: the MAC service returns a truncated HMAC-SHA-256 of a Seam block under a key handle (R237). -/
def execMacSvc (s : State) : Host.Outcome State Fault Refusal := act s (fun d => d.serve 0x13 (fun d r => d.svcMac r))

/-- SLEEVE_FAULT_MIGRATE: on a Sleeve fault the Collar logs it, block-resets the Sleeve and migrates its channels to the
survivor with stretch (R247). -/
def execSleeveFaultMigrate (right : Bool) (s : State) : Host.Outcome State Fault Refusal :=
  act s (fun d => d.sleeveFaultMigrate (if right then 2 else 1))

/-- HELD_GIVE_REVERT: a block given to a held owner reverts at the next edge and REVN rises (R276). -/
def execHeldGiveRevert (s : State) : Host.Outcome State Fault Refusal := act s (fun d => d.heldGiveRevert)

/-- QUIESCE_COMPLETE: the target completes its requests with BLOCK_RESET, discards replies, reverts its blocks and is held,
raising QUIESCED (R283). -/
def execQuiesceComplete (s : State) : Host.Outcome State Fault Refusal := act s (fun d => d.quiesceComplete)

end Sys2Proof.Machine
end

