-- ==== Sys2Proof/Machine/RunEngine.lean ====
section
/-!
DEFINITION. The meanings of the instructions of the engines and what wakes them (spec/06, spec/07).
-/
namespace Sys2Proof.Machine

/-- NOP: the NOP instruction does nothing (R202). -/
def execNop (f : Fetch) (s : State) : Host.Outcome State Fault Refusal := act s (fun d => d.execOp f (.nop))

/-- DOZE: DOZE halts the engine until a task input has a pending count above zero (R190). -/
def execDoze (f : Fetch) (s : State) : Host.Outcome State Fault Refusal := act s (fun d => d.execOp f (.doze))

/-- DOZE_WAKE: a pending count rising on an engine in DOZE completes the DOZE (R190). -/
def execDozeWake (e : Eng) (s : State) : Host.Outcome State Fault Refusal := act s (fun d => d.dozeWake e)

/-- MOVFL: MOVFL copies the flags into a register (R202). -/
def execMovfl (f : Fetch) (rd : WReg) (s : State) : Host.Outcome State Fault Refusal := act s (fun d => d.execOp f (.movfl rd))

/-- MOVTFL: MOVTFL writes the flags from a register, the only way to clear S (R202). -/
def execMovtfl (f : Fetch) (ra : WReg) (s : State) : Host.Outcome State Fault Refusal := act s (fun d => d.execOp f (.movtfl ra))

/-- LPOP: LPOP removes the top level of the loop stack if it is not empty (R202). -/
def execLpop (f : Fetch) (s : State) : Host.Outcome State Fault Refusal := act s (fun d => d.execOp f (.lpop))

/-- MOV: MOV copies one register to another (R203). -/
def execMov (f : Fetch) (rd ra : WReg) (s : State) : Host.Outcome State Fault Refusal := act s (fun d => d.execOp f (.mov rd ra))

/-- MOVI: MOVI loads a sign-extended 22-bit immediate (R203). -/
def execMovi (f : Fetch) (rd : WReg) (imm : BitVec 22) (s : State) : Host.Outcome State Fault Refusal :=
  act s (fun d => d.execOp f (.movi rd imm))

/-- MOVL: MOVL loads the 36-bit literal of its word into the low or high half of a register (R203). -/
def execMovl (f : Fetch) (rd : WReg) (high zext : Bool) (lit : BitVec 36) (s : State) : Host.Outcome State Fault Refusal :=
  act s (fun d => d.execOp f (.movl rd high zext lit))

/-- ADD: ADD adds two registers and sets Z N C V (R204). -/
def execAdd (f : Fetch) (rd ra rb : WReg) (s : State) : Host.Outcome State Fault Refusal :=
  act s (fun d => d.execOp f (.alu .add rd ra rb))

/-- ADC: ADC adds two registers and the carry (R204). -/
def execAdc (f : Fetch) (rd ra rb : WReg) (s : State) : Host.Outcome State Fault Refusal :=
  act s (fun d => d.execOp f (.alu .adc rd ra rb))

/-- SUB: SUB subtracts two registers and sets Z N C V (R204). -/
def execSub (f : Fetch) (rd ra rb : WReg) (s : State) : Host.Outcome State Fault Refusal :=
  act s (fun d => d.execOp f (.alu .sub rd ra rb))

/-- SBC: SBC subtracts with borrow (R204). -/
def execSbc (f : Fetch) (rd ra rb : WReg) (s : State) : Host.Outcome State Fault Refusal :=
  act s (fun d => d.execOp f (.alu .sbc rd ra rb))

/-- NEG: NEG negates a register (R204). -/
def execNeg (f : Fetch) (rd ra : WReg) (s : State) : Host.Outcome State Fault Refusal :=
  act s (fun d => d.execOp f (.alu .neg rd ra 0))

/-- ABS: ABS takes the absolute value modulo 2^72 and flags overflow (R204). -/
def execAbs (f : Fetch) (rd ra : WReg) (s : State) : Host.Outcome State Fault Refusal :=
  act s (fun d => d.execOp f (.alu .abs rd ra 0))

/-- MIN: MIN takes the signed minimum (R204). -/
def execMin (f : Fetch) (rd ra rb : WReg) (s : State) : Host.Outcome State Fault Refusal :=
  act s (fun d => d.execOp f (.alu .min rd ra rb))

/-- MAX: MAX takes the signed maximum (R204). -/
def execMax (f : Fetch) (rd ra rb : WReg) (s : State) : Host.Outcome State Fault Refusal :=
  act s (fun d => d.execOp f (.alu .max rd ra rb))

/-- MINU: MINU takes the unsigned minimum (R204). -/
def execMinu (f : Fetch) (rd ra rb : WReg) (s : State) : Host.Outcome State Fault Refusal :=
  act s (fun d => d.execOp f (.alu .minu rd ra rb))

/-- MAXU: MAXU takes the unsigned maximum (R204). -/
def execMaxu (f : Fetch) (rd ra rb : WReg) (s : State) : Host.Outcome State Fault Refusal :=
  act s (fun d => d.execOp f (.alu .maxu rd ra rb))

/-- CMP: CMP sets flags from a subtraction without writing a result (R204). -/
def execCmp (f : Fetch) (ra rb : WReg) (s : State) : Host.Outcome State Fault Refusal :=
  act s (fun d => d.execOp f (.alu .cmp 0 ra rb))

/-- SEL: SEL selects one of two registers by a condition code (R204). -/
def execSel (f : Fetch) (rd ra rb : WReg) (cond : BitVec 4) (s : State) : Host.Outcome State Fault Refusal :=
  act s (fun d => d.execOp f (.sel rd ra rb cond))

/-- ADDS: ADDS adds with signed saturation (R204). -/
def execAdds (f : Fetch) (rd ra rb : WReg) (s : State) : Host.Outcome State Fault Refusal :=
  act s (fun d => d.execOp f (.alu .adds rd ra rb))

/-- SUBS: SUBS subtracts with signed saturation (R204). -/
def execSubs (f : Fetch) (rd ra rb : WReg) (s : State) : Host.Outcome State Fault Refusal :=
  act s (fun d => d.execOp f (.alu .subs rd ra rb))

/-- NEGS: NEGS negates with saturation (R204). -/
def execNegs (f : Fetch) (rd ra : WReg) (s : State) : Host.Outcome State Fault Refusal :=
  act s (fun d => d.execOp f (.alu .negs rd ra 0))

/-- ABSS: ABSS takes the absolute value with saturation (R204). -/
def execAbss (f : Fetch) (rd ra : WReg) (s : State) : Host.Outcome State Fault Refusal :=
  act s (fun d => d.execOp f (.alu .abss rd ra 0))

/-- ADDUS: ADDUS adds with unsigned saturation (R204). -/
def execAddus (f : Fetch) (rd ra rb : WReg) (s : State) : Host.Outcome State Fault Refusal :=
  act s (fun d => d.execOp f (.alu .addus rd ra rb))

/-- SUBUS: SUBUS subtracts with unsigned saturation (R204). -/
def execSubus (f : Fetch) (rd ra rb : WReg) (s : State) : Host.Outcome State Fault Refusal :=
  act s (fun d => d.execOp f (.alu .subus rd ra rb))

/-- SHLS: SHLS shifts left with signed saturation (R205). -/
def execShls (f : Fetch) (rd ra : WReg) (amt : ShAmt) (s : State) : Host.Outcome State Fault Refusal :=
  act s (fun d => d.execOp f (.shift .shls rd ra amt))

/-- AND: AND forms the bitwise AND (R204). -/
def execAnd (f : Fetch) (rd ra rb : WReg) (s : State) : Host.Outcome State Fault Refusal :=
  act s (fun d => d.execOp f (.alu .and rd ra rb))

/-- OR: OR forms the bitwise OR (R204). -/
def execOr (f : Fetch) (rd ra rb : WReg) (s : State) : Host.Outcome State Fault Refusal :=
  act s (fun d => d.execOp f (.alu .or rd ra rb))

/-- XOR: XOR forms the bitwise exclusive OR (R204). -/
def execXor (f : Fetch) (rd ra rb : WReg) (s : State) : Host.Outcome State Fault Refusal :=
  act s (fun d => d.execOp f (.alu .xor rd ra rb))

/-- ANDN: ANDN forms a AND NOT b (R204). -/
def execAndn (f : Fetch) (rd ra rb : WReg) (s : State) : Host.Outcome State Fault Refusal :=
  act s (fun d => d.execOp f (.alu .andn rd ra rb))

/-- NOT: NOT inverts a register (R204). -/
def execNot (f : Fetch) (rd ra : WReg) (s : State) : Host.Outcome State Fault Refusal :=
  act s (fun d => d.execOp f (.alu .not rd ra 0))

/-- TST: TST sets flags from a AND b without writing a result (R204). -/
def execTst (f : Fetch) (ra rb : WReg) (s : State) : Host.Outcome State Fault Refusal :=
  act s (fun d => d.execOp f (.alu .tst 0 ra rb))

/-- POPC: POPC counts the 1 bits of a register (R204). -/
def execPopc (f : Fetch) (rd ra : WReg) (s : State) : Host.Outcome State Fault Refusal :=
  act s (fun d => d.execOp f (.alu .popc rd ra 0))

/-- CLZ: CLZ counts the leading zero bits of a register (R204). -/
def execClz (f : Fetch) (rd ra : WReg) (s : State) : Host.Outcome State Fault Refusal :=
  act s (fun d => d.execOp f (.alu .clz rd ra 0))

/-- SHL: SHL shifts left logically and sets C from the last bit out (R205). -/
def execShl (f : Fetch) (rd ra : WReg) (amt : ShAmt) (s : State) : Host.Outcome State Fault Refusal :=
  act s (fun d => d.execOp f (.shift .shl rd ra amt))

/-- SHR: SHR shifts right logically (R205). -/
def execShr (f : Fetch) (rd ra : WReg) (amt : ShAmt) (s : State) : Host.Outcome State Fault Refusal :=
  act s (fun d => d.execOp f (.shift .shr rd ra amt))

/-- ASR: ASR shifts right arithmetically (R205). -/
def execAsr (f : Fetch) (rd ra : WReg) (amt : ShAmt) (s : State) : Host.Outcome State Fault Refusal :=
  act s (fun d => d.execOp f (.shift .asr rd ra amt))

/-- ROR: ROR rotates right by n mod 72 (R205). -/
def execRor (f : Fetch) (rd ra : WReg) (amt : ShAmt) (s : State) : Host.Outcome State Fault Refusal :=
  act s (fun d => d.execOp f (.shift .ror rd ra amt))

/-- ADDI: ADDI adds a sign-extended immediate (R207). -/
def execAddi (f : Fetch) (rd ra : WReg) (imm : BitVec 22) (s : State) : Host.Outcome State Fault Refusal :=
  act s (fun d => d.execOp f (.immOp .addi rd ra imm))

/-- ANDI: ANDI ANDs a sign-extended immediate (R207). -/
def execAndi (f : Fetch) (rd ra : WReg) (imm : BitVec 22) (s : State) : Host.Outcome State Fault Refusal :=
  act s (fun d => d.execOp f (.immOp .andi rd ra imm))

/-- ORI: ORI ORs a sign-extended immediate (R207). -/
def execOri (f : Fetch) (rd ra : WReg) (imm : BitVec 22) (s : State) : Host.Outcome State Fault Refusal :=
  act s (fun d => d.execOp f (.immOp .ori rd ra imm))

/-- XORI: XORI XORs a sign-extended immediate (R207). -/
def execXori (f : Fetch) (rd ra : WReg) (imm : BitVec 22) (s : State) : Host.Outcome State Fault Refusal :=
  act s (fun d => d.execOp f (.immOp .xori rd ra imm))

/-- CMPI: CMPI compares a register with an immediate (R207). -/
def execCmpi (f : Fetch) (ra : WReg) (imm : BitVec 22) (s : State) : Host.Outcome State Fault Refusal :=
  act s (fun d => d.execOp f (.immOp .cmpi 0 ra imm))

/-- EXTR: EXTR extracts a bit field with optional sign extension (R208). -/
def execExtr (f : Fetch) (rd ra : WReg) (p l : BitVec 7) (x : Bool) (s : State) : Host.Outcome State Fault Refusal :=
  act s (fun d => d.execOp f (.extr rd ra p l x))

/-- INS: INS inserts the low bits of a register into a field of another (R208). -/
def execIns (f : Fetch) (rd ra : WReg) (p l : BitVec 7) (s : State) : Host.Outcome State Fault Refusal :=
  act s (fun d => d.execOp f (.ins rd ra p l))

/-- LD: LD loads one word, correcting single-bit errors or trapping on refusal or double errors (R209). -/
def execLd (f : Fetch) (rd ra : WReg) (imm : BitVec 22) (x : Check) (s : State) : Host.Outcome State Fault Refusal :=
  act s (fun d => d.execLoad f (.ld rd ra imm) x)

/-- LDH: LDH loads one half, sign- or zero-extended (R209). -/
def execLdh (f : Fetch) (rd ra : WReg) (off : BitVec 20) (u h : Bool) (x : Check) (s : State) : Host.Outcome State Fault Refusal :=
  act s (fun d => d.execLoad f (.ldh rd ra off u h) x)

/-- ST: ST stores one word under access, ownership and register-class rules (R209). -/
def execSt (f : Fetch) (rd ra : WReg) (imm : BitVec 22) (s : State) : Host.Outcome State Fault Refusal :=
  act s (fun d => d.execOp f (.st rd ra imm))

/-- STH: STH stores one half as an indivisible read-merge-write, writing only fields in that half of a register (R210). -/
def execSth (f : Fetch) (rd ra : WReg) (off : BitVec 20) (h : Bool) (s : State) : Host.Outcome State Fault Refusal :=
  act s (fun d => d.execOp f (.sth rd ra off h))

/-- CLRACC: CLRACC clears an accumulator (R211). -/
def execClracc (f : Fetch) (x : Bool) (s : State) : Host.Outcome State Fault Refusal := act s (fun d => d.execOp f (.clracc x))

/-- MOVTA: MOVTA loads an accumulator from two registers (R211). -/
def execMovta (f : Fetch) (x : Bool) (ra rb : WReg) (s : State) : Host.Outcome State Fault Refusal :=
  act s (fun d => d.execOp f (.movta x ra rb))

/-- MOVTAS: MOVTAS loads an accumulator with a sign-extended register (R211). -/
def execMovtas (f : Fetch) (x : Bool) (ra : WReg) (s : State) : Host.Outcome State Fault Refusal :=
  act s (fun d => d.execOp f (.movtas x ra))

/-- MOVFA: MOVFA copies one half of an accumulator to a register (R211). -/
def execMovfa (f : Fetch) (x : Bool) (rd : WReg) (high : Bool) (s : State) : Host.Outcome State Fault Refusal :=
  act s (fun d => d.execOp f (.movfa x rd high))

/-- EXT: EXT extracts a shifted, optionally rounded and saturated value from an accumulator (R211). -/
def execExt (f : Fetch) (x : Bool) (rd : WReg) (sh : BitVec 8) (r u : Bool) (s : State) : Host.Outcome State Fault Refusal :=
  act s (fun d => d.execOp f (.ext x rd sh r u))

/-- MUL: MUL places an exact product in an accumulator (R212). -/
def execMul (f : Fetch) (x : Bool) (ra rb : WReg) (sg : BitVec 2) (s : State) : Host.Outcome State Fault Refusal :=
  act s (fun d => d.execOp f (.mul x ra rb sg))

/-- MAC: MAC adds or subtracts an exact product into an accumulator modulo 2^144 (R212). -/
def execMac (f : Fetch) (x : Bool) (ra rb : WReg) (sg : BitVec 2) (neg : Bool) (s : State) : Host.Outcome State Fault Refusal :=
  act s (fun d => d.execOp f (.mac x ra rb sg neg))

/-- DIV: DIV divides with shift, returning a clamped quotient or remainder and saturating on a zero divisor (R213). -/
def execDiv (f : Fetch) (rd ra rb : WReg) (sh : BitVec 7) (u m : Bool) (s : State) : Host.Outcome State Fault Refusal :=
  act s (fun d => d.execOp f (.div rd ra rb sh u m))

/-- RECIP: RECIP forms a rounded signed reciprocal with shift (R214). -/
def execRecip (f : Fetch) (rd ra : WReg) (sh : BitVec 8) (s : State) : Host.Outcome State Fault Refusal :=
  act s (fun d => d.execOp f (.recip rd ra sh))

/-- POLY: POLY performs one rounded and saturated Horner step (R215). -/
def execPoly (f : Fetch) (rd ra rb : WReg) (sh : BitVec 8) (s : State) : Host.Outcome State Fault Refusal :=
  act s (fun d => d.execOp f (.poly rd ra rb sh))

/-- INTERP: INTERP interpolates a uniform table, returning end points with S outside the table (R216). -/
def execInterp (f : Fetch) (rd ra rb : WReg) (x : Check) (s : State) : Host.Outcome State Fault Refusal :=
  act s (fun d => d.execLoad f (.interp rd ra rb) x)

/-- BR: BR branches on a condition, optionally linking W15 (R217). -/
def execBr (f : Fetch) (cond : BitVec 4) (link : Bool) (target : BitVec 21) (s : State) : Host.Outcome State Fault Refusal :=
  act s (fun d => d.execOp f (.br cond link target))

/-- BRR: BRR branches to a register address on a condition, optionally linking (R217). -/
def execBrr (f : Fetch) (cond : BitVec 4) (link : Bool) (ra : WReg) (s : State) : Host.Outcome State Fault Refusal :=
  act s (fun d => d.execOp f (.brr cond link ra))

/-- LOOP: LOOP pushes a hardware loop level with a register count or skips the body for a count of 0 (R218). -/
def execLoop (f : Fetch) (ra : WReg) (len : BitVec 10) (s : State) : Host.Outcome State Fault Refusal :=
  act s (fun d => d.execOp f (.loop ra len))

/-- LOOPI: LOOPI pushes a hardware loop level with an immediate count (R218). -/
def execLoopi (f : Fetch) (count : BitVec 12) (len : BitVec 10) (s : State) : Host.Outcome State Fault Refusal :=
  act s (fun d => d.execOp f (.loopi count len))

/-- CLAIM: CLAIM takes a free Seam block for the executing engine and returns its record image (R221). -/
def execClaim (f : Fetch) (rd ra : WReg) (s : State) : Host.Outcome State Fault Refusal :=
  act s (fun d => d.execOp f (.claim rd ra))

/-- GIVE: GIVE hands an owned Seam block to a defined owner with FULL as given (R222). -/
def execGive (f : Fetch) (rd ra rb : WReg) (code : BitVec 4) (fromReg full : Bool) (s : State) : Host.Outcome State Fault Refusal :=
  act s (fun d => d.execOp f (.give rd ra rb code fromReg full))

/-- TESTOWN: TESTOWN returns a Seam block's record image without change (R223). -/
def execTestown (f : Fetch) (rd ra : WReg) (s : State) : Host.Outcome State Fault Refusal :=
  act s (fun d => d.execOp f (.testown rd ra))

/-- WAITEV: WAITEV consumes and returns the lowest pending task input of its mask, or waits (R189). -/
def execWaitev (f : Fetch) (rd ra : WReg) (s : State) : Host.Outcome State Fault Refusal :=
  act s (fun d => d.execOp f (.waitev rd ra))

/-- WAITEV_RESUME: a waiting WAITEV completes when an input of its mask becomes pending (R189). -/
def execWaitevResume (e : Eng) (s : State) : Host.Outcome State Fault Refusal := act s (fun d => d.waitevResume e)

/-- SIGNAL: SIGNAL raises a software event source once (R225). -/
def execSignal (f : Fetch) (n : BitVec 3) (s : State) : Host.Outcome State Fault Refusal := act s (fun d => d.execOp f (.signal n))

/-- ARM: ARM routes one of the engine's own task inputs and clears its count and OVF (R226). -/
def execArm (f : Fetch) (input : BitVec 5) (src : BitVec 6) (dis : Bool) (s : State) : Host.Outcome State Fault Refusal :=
  act s (fun d => d.execOp f (.arm input src dis))

/-- SHOT: SHOT queues an ultrasonic request and returns QUEUED, FULL or UNAVAILABLE (R227). -/
def execShot (f : Fetch) (rd ra : WReg) (s : State) : Host.Outcome State Fault Refusal := act s (fun d => d.execOp f (.shot rd ra))

/-- CONV: CONV queues an ADC request and returns QUEUED, FULL or UNAVAILABLE (R227). -/
def execConv (f : Fetch) (rd ra : WReg) (s : State) : Host.Outcome State Fault Refusal := act s (fun d => d.execOp f (.conv rd ra))

/-- SVC: SVC calls a Collar service and waits for its status and results (R192). -/
def execSvc (f : Fetch) (n : BitVec 8) (s : State) : Host.Outcome State Fault Refusal := act s (fun d => d.execOp f (.svc n))

/-- TRAP: TRAP raises the TRAP cause with its 16-bit code (R229). -/
def execTrap (f : Fetch) (code : BitVec 16) (s : State) : Host.Outcome State Fault Refusal :=
  act s (fun d => d.execOp f (.trap code))

/-- MARK: MARK writes one MARK trace record when trace is enabled (R230). -/
def execMark (f : Fetch) (ra : WReg) (tag : BitVec 16) (s : State) : Host.Outcome State Fault Refusal :=
  act s (fun d => d.execOp f (.mark ra tag))

/-- RENDEZVOUS_MEET: when the second PAIRED Sleeve reaches a rendezvous the operations are compared and performed once or
trapped as PAIR_DIVERGE (R186). -/
def execRendezvousMeet (s : State) : Host.Outcome State Fault Refusal := act s (fun d => d.rendezvousMeet)

end Sys2Proof.Machine
end

