-- ==== Sys2Proof/Machine/RunLoop.lean ====
section
/-!
DEFINITION. The meanings of the commands of the loop link, the host port and the debug port (spec/13).
-/
namespace Sys2Proof.Machine

/-- LOOP_CARRIER_DETECT: an FSK carrier is detected on the loop and wakes the chip (R388). -/
def execLoopCarrierDetect (s : State) : Host.Outcome State Fault Refusal := act s (fun d => d.loopCarrier)

/-- LOOP_FRAME_TIMEOUT: a gap of more than two byte times or carrier loss ends a loop frame as truncated (R389). -/
def execLoopFrameTimeout (addr : Option Nat) (cmd : Nat) (s : State) : Host.Outcome State Fault Refusal :=
  act s (fun d => d.loopTruncated addr cmd)

/-- IDENTIFY: the IDENTIFY command returns identity, address, T1 period and mode (R398). -/
def execIdentify (fr : LoopFrame) (s : State) : Host.Outcome State Fault Refusal :=
  act s (fun d => d.loopCommand 0x10 fr (fun d => d.askIdentify fr.data))

/-- READ_OUTPUT: the READ_OUTPUT command returns setpoint, measured current, state and primary value (R398). -/
def execReadOutput (fr : LoopFrame) (s : State) : Host.Outcome State Fault Refusal :=
  act s (fun d => d.loopCommand 0x11 fr (fun d => d.askOutput fr.data))

/-- READ_ACC: the READ_ACC command returns selected accumulators of a channel coherently (R398). -/
def execReadAcc (fr : LoopFrame) (s : State) : Host.Outcome State Fault Refusal :=
  act s (fun d => d.loopCommand 0x12 fr (fun d => d.askAcc fr.data))

/-- READ_WORDS: the READ_WORDS command reads words as the host port does (R398). -/
def execReadWords (fr : LoopFrame) (s : State) : Host.Outcome State Fault Refusal :=
  act s (fun d => d.loopCommand 0x13 fr (fun d => d.askWords 26 fr.data))

/-- READ_STATUS: the READ_STATUS command returns five status registers (R398). -/
def execReadStatus (fr : LoopFrame) (s : State) : Host.Outcome State Fault Refusal :=
  act s (fun d => d.loopCommand 0x14 fr (fun d => d.askStatus fr.data))

/-- READ_LOG: the READ_LOG command returns legal-log records from a SEQ (R398). -/
def execReadLog (fr : LoopFrame) (s : State) : Host.Outcome State Fault Refusal :=
  act s (fun d => d.loopCommand 0x15 fr (fun d => d.askLog 6 fr.data))

/-- SERVICE: the SERVICE command passes a service call to the Collar with class 2 and replies on completion (R398). -/
def execService (fr : LoopFrame) (s : State) : Host.Outcome State Fault Refusal :=
  act s (fun d => d.loopCommand 0x20 fr (fun _ => askService fr.data))

/-- IMG_DATA: the IMG_DATA command writes image words into this interface's update session (R398). -/
def execImgData (fr : LoopFrame) (s : State) : Host.Outcome State Fault Refusal :=
  act s (fun d => d.loopCommand 0x21 fr (fun _ => askImage 26 fr.data))

/-- WRITE_FIELD: the WRITE_FIELD order writes a bit range of a register word at the boundary and replies with the word (R399).
-/
def execWriteField (fr : LoopFrame) (s : State) : Host.Outcome State Fault Refusal :=
  act s (fun d => d.loopCommand 0x30 fr (fun _ => askField fr.data))

/-- TIME: the TIME order delivers master time referenced to its last check byte, resolved at the boundary (R400). -/
def execTime (fr : LoopFrame) (s : State) : Host.Outcome State Fault Refusal :=
  act s (fun d => d.loopCommand 0x31 fr (fun d => askTime d.shownSec fr.data))

/-- LOOP_TEST: the LOOP_TEST order sets or ends a fixed loop current in SERVICE (R386). -/
def execLoopTest (fr : LoopFrame) (s : State) : Host.Outcome State Fault Refusal :=
  act s (fun d => d.loopCommand 0x32 fr (fun d => d.askTest fr.data))

/-- UNKNOWN_COMMAND: a loop frame with an unassigned command code is answered UNKNOWN_COMMAND and logged (R394). -/
def execUnknownCommand (cmd : Nat) (fr : LoopFrame) (s : State) : Host.Outcome State Fault Refusal :=
  act s (fun d => d.loopUnknown cmd fr)

/-- APPLICATION_COMMAND: an application command is delivered to software in a LOOP receive-pool block (R402). -/
def execApplicationCommand (cmd : Nat) (fr : LoopFrame) (s : State) : Host.Outcome State Fault Refusal :=
  act s (fun d => d.loopApp cmd fr)

/-- LOOP_APP_REPLY: software gives LOOP a reply block, which is sent if its RXTAG matches the waiting request (R402). -/
def execLoopAppReply (b : Fin 256) (s : State) : Host.Outcome State Fault Refusal := act s (fun d => d.loopAppReply b)

/-- APP_REPLY_TIMEOUT: no application reply within 500 ms of LOOP_RX answers BUSY (R402). -/
def execAppReplyTimeout (radio : Bool) (s : State) : Host.Outcome State Fault Refusal :=
  act s (fun d => if radio then d.radioAppTimeout else d.appTimeout)

/-- LOOP_REPLY_SEND: a queued loop reply starts after 20 ms free of carrier (R395). -/
def execLoopReplySend (s : State) : Host.Outcome State Fault Refusal := act s (fun d => d.loopSend)

/-- LOOP_COLLISION: a master carrier during transmission abandons the reply and logs COLLISION (R397). -/
def execLoopCollision (s : State) : Host.Outcome State Fault Refusal := act s (fun d => d.loopCollision)

/-- LOOP_FIX_TIMEOUT: LOOP_FIX.EN clears after 600 s of billing time (R386). -/
def execLoopFixTimeout (s : State) : Host.Outcome State Fault Refusal := act s (fun d => d.loopFixTimeout)

/-- HOST_SELECT: HCS falling wakes the port, which drives HDO low then high when ready (R407). -/
def execHostSelect (dbg : Bool) (s : State) : Host.Outcome State Fault Refusal := act s (fun d => d.portSelect dbg)

/-- HOST_READ: a host READ transaction returns the selected quarters with checks, latching wide registers at QW0 (R411). -/
def execHostRead (dbg : Bool) (h : PortHdr) (got : Nat) (s : State) : Host.Outcome State Fault Refusal :=
  act s (fun d => d.portReadAll dbg h got)

/-- HOST_WRITE: a host WRITE transaction writes each word whose quarters all pass and returns a trailer quarter (R412). -/
def execHostWrite (dbg : Bool) (h : PortHdr) (rx : List (Nat × Nat)) (trailer : Bool) (s : State) : Host.Outcome State Fault Refusal :=
  act s (fun d => d.portWriteAll dbg h rx trailer)

/-- HOST_NOP: a host NOP transaction returns the status header only (R408). -/
def execHostNop (dbg : Bool) (op : Nat) (s : State) : Host.Outcome State Fault Refusal := act s (fun d => d.portNop dbg op)

/-- HOST_DESELECT: HCS rising before completion discards incomplete words and sets TRUNC (R414). -/
def execHostDeselect (s : State) : Host.Outcome State Fault Refusal := act s (fun d => d.portDeselect)

/-- DCLK_IDLE_TIMEOUT: DCLK held low for 20 µs or more inside a debug transaction ends it as truncated under R414 (R525). -/
def execDclkIdleTimeout (s : State) : Host.Outcome State Fault Refusal := act s (fun d => d.dclkTimeout)

end Sys2Proof.Machine
end

