-- ==== Sys2Proof/Machine/RunMeasure.lean ====
section
/-!
DEFINITION. The meanings of the commands of the TDC, the ultrasonic front end, the ADC and the pulses (spec/10 to spec/12).
-/
namespace Sys2Proof.Machine

/-- TDC_CALIBRATION_DONE: the per-window period calibration of a unit's lines completes, setting L, Λ and T and checking
calibration bounds (R301). -/
def execTdcCalibrationDone (u : Fin 2) (o : CalObs) (s : State) : Host.Outcome State Fault Refusal :=
  act s (fun d => d.calibrationDone u o)

/-- TDC_START_EDGE: a start edge is sampled on the start line and the coarse counter starts, attempting a pair (R297). -/
def execTdcStartEdge (u : Fin 2) (src : EdgeSrc) (rising : Bool) (k pos : Nat) (s : State) : Host.Outcome State Fault Refusal :=
  act s (fun d => d.edgeIn src rising (fun d => d.tdcStart u src rising k pos))

/-- TDC_STOP_EDGE: a stop edge ends the pair with an interval and outcome, or is ignored as an early stop (R298). -/
def execTdcStopEdge (u : Fin 2) (src : EdgeSrc) (rising : Bool) (c pos : Nat) (runs : List (List (Nat × Nat))) (s : State) : Host.Outcome State Fault Refusal :=
  act s (fun d => d.edgeIn src rising (fun d => d.tdcStop u src rising c pos runs))

/-- TDC_COARSE_OVERFLOW: the coarse counter passing 2^24 − 1 with no stop ends the unwindowed pair with OVF (R298). -/
def execTdcCoarseOverflow (u : Fin 2) (s : State) : Host.Outcome State Fault Refusal := act s (fun d => d.tdcOverflow u)

/-- TDC_DITHER_SAMPLE: a dither edge is sampled and weighted into the building code-density tables (R305). -/
def execTdcDitherSample (u : Fin 2) (starts stops : List Nat) (s : State) : Host.Outcome State Fault Refusal :=
  act s (fun d => d.tdcDither u starts stops)

/-- SHOT_LAUNCH: a queued shot whose slot and TDC calibration allow it is launched as a burst and its start passed to the TDC
(R321). -/
def execShotLaunch (t : Nat) (s : State) : Host.Outcome State Fault Refusal := act s (fun d => d.shotLaunch t)

/-- SHOT_LISTEN_END: listening ends TMAX after the launch; with no first wave the pair ends without a stop and NOECHO counts
(R316). -/
def execShotListenEnd (first : Bool) (peak : Nat) (samples : List Int) (s : State) : Host.Outcome State Fault Refusal :=
  act s (fun d => d.listenEnd first peak samples)

/-- DRIVE_SHORT: the drive monitor finds a short during a burst and the path is declared lost (R328). -/
def execDriveShort (p : Fin 4) (s : State) : Host.Outcome State Fault Refusal := act s (fun d => d.driveShort p)

/-- PATH_TEST: every 64 boundaries the USF fires one flood and one ebb test shot on each lost path (R329). -/
def execPathTest (p : Fin 4) (at_ : Nat) (flood ebb : TestShot) (short : Bool) (s : State) : Host.Outcome State Fault Refusal :=
  act s (fun d => d.pathTest p at_ flood ebb short)

/-- ZERO_LEARN_END: after NZ boundaries each path's offset is accepted or rejected and the run ends (R327). -/
def execZeroLearnEnd (s : State) : Host.Outcome State Fault Refusal := act s (fun d => d.zeroLearnEnd)

/-- ADC_CONV_START: a queued conversion starts when no window is open and it fits before the next sequencer window (R337). -/
def execAdcConvStart (u : Fin 2) (s : State) : Host.Outcome State Fault Refusal := act s (fun d => d.adcStart u)

/-- ADC_CONV_DONE: a conversion completes with autoranging, flags and, at the last one, the result block and done event (R339).
-/
def execAdcConvDone (u : Fin 2) (v : Int) (sat comp : Bool) (s : State) : Host.Outcome State Fault Refusal :=
  act s (fun d => d.adcDone u v sat comp)

/-- ADC_WATCHDOG: a conversion not completed within 2 TCONV fails its ADC unit (R500). -/
def execAdcWatchdog (u : Fin 2) (s : State) : Host.Outcome State Fault Refusal := act s (fun d => d.adcWatchdog u)

/-- EXCITATION_LOSS: a pair's source reports loss of regulation, making it suspect for an isolated test (R500). -/
def execExcitationLoss (k : Fin 2) (s : State) : Host.Outcome State Fault Refusal := act s (fun d => d.excitationLoss k)

/-- PULSE_EDGE: an edge on a PULSE channel's TP pin adds one to its count (R362); without VDDIO the inputs read 0 and none comes (R522). -/
def execPulseEdge (pin : Fin 16) (falling : Bool) (s : State) : Host.Outcome State Fault Refusal :=
  act s (fun d => d.byPin (fun d => (d.setPin pin !falling).pulseEdge pin falling))

/-- PULSE_EMIT: an output with backlog and its gap elapsed starts a pulse (R377). -/
def execPulseEmit (j : Fin 8) (s : State) : Host.Outcome State Fault Refusal := act s (fun d => d.pulseEmit j)

/-- PULSE_WIDTH_END: a pulse ends after WIDTH ms (R377). -/
def execPulseWidthEnd (j : Fin 8) (s : State) : Host.Outcome State Fault Refusal := act s (fun d => d.pulseWidthEnd j)

/-- PULSE_GAP_END: the minimum inactive GAP after a pulse elapses (R377). -/
def execPulseGapEnd (j : Fin 8) (s : State) : Host.Outcome State Fault Refusal := act s (fun d => d.pulseGapEnd j)

end Sys2Proof.Machine
end

