-- ==== Sys2Proof/Machine/RunPower.lean ====
section
/-!
DEFINITION. The meanings of the commands of power, start, modes and boundaries (spec/01 to spec/03).
-/
namespace Sys2Proof.Machine

/-- CYCLE_BOUNDARY: T1 wraps and the device applies shadows, resolves held partner orders, checkpoints and performs all boundary
work in order (R24). -/
def execCycleBoundary (o : BoundaryObs) (s : State) : Host.Outcome State Fault Refusal := act s (fun d => d.wake.cycleBoundary o)

/-- LOOP_PRESENCE: LOOPP reaching 8.0 V powers the device, which regulates the loop to the fused safe current in Stage 1 (R71).
-/
def execLoopPresence (loopp : Nat) (s : State) : Host.Outcome State Fault Refusal := act s (fun d => d.loopPresence loopp)

/-- CELL_CONFIRM: VCELL held above 2.90 V for 10 ms confirms a battery start and begins Stage 2 (R75). -/
def execCellConfirm (vcell : Nat) (s : State) : Host.Outcome State Fault Refusal := act s (fun d => d.cellConfirm vcell)

/-- STAGE2: the Collar leaves reset, hashes the trusted region, sets billing time, restores accumulators, consumes the
quick-start record, reads the Label and starts fallback metering (R78). -/
def execStage2 (o : LabelObs) (testen : Bool) (t2 : Nat) (s : State) : Host.Outcome State Fault Refusal :=
  act s (fun d => d.stage2 o testen t2)

/-- FIRST_FALLBACK: the first fallback measurement completes and sets the loop if VPOOL is at or above the shot floor (R82). -/
def execFirstFallback (fb : FbMeas) (s : State) : Host.Outcome State Fault Refusal := act s (fun d => d.firstFallback fb)

/-- IMAGE_VERIFIED: verification of the active application image completes, falling back to the other image or HOLD, and
quick-start condition 4 is evaluated (R83). -/
def execImageVerified (s : State) : Host.Outcome State Fault Refusal := act s (fun d => d.imageVerified)

/-- STARTUP_BIST_DONE: the start-up BIST completes its passes, handles failures and writes START_BIST (R506). -/
def execStartupBistDone (failed : List (Nat × Nat × Nat)) (two : List (Nat × Nat)) (ms : Nat) (s : State) :
    Host.Outcome State Fault Refusal := act s (fun d => d.startupBist failed two ms)

/-- SHORT_BOUNDARY: the Collar forces a short boundary that closes fallback metering, hands channels to the Sleeves and enters
the first running mode (R86). -/
def execShortBoundary (o : BoundaryObs) (t3 : Nat) (s : State) : Host.Outcome State Fault Refusal :=
  act s (fun d => d.shortBoundary o t3)

/-- BOR: VMAIN or VCORE below its threshold for 10 µs resets the chip abruptly (R91). -/
def execBor (s : State) : Host.Outcome State Fault Refusal := act s (fun d => d.abruptReset 3)

/-- NRST: NRST low for at least 10 µs resets the chip abruptly and Stage 2 begins at release (R91). -/
def execNrst (s : State) : Host.Outcome State Fault Refusal := act s (fun d => d.abruptReset 4)

/-- WDOG: the Collar watchdog not serviced for 12 s resets the chip abruptly (R91). -/
def execWdog (s : State) : Host.Outcome State Fault Refusal := act s (fun d => d.watchdog)

/-- SEAL_CHANGE: a SEAL level held for 50 ms changes SYS_MODE.SEAL, logs it and raises the SEAL event (R59). -/
def execSealChange (opened : Bool) (s : State) : Host.Outcome State Fault Refusal := act s (fun d => d.sealChange opened)

/-- LOOPP_FALL: LOOPP falls through 7.5 V and the pool feed takes over VMAIN (R37). -/
def execLooppFall (loopp : Nat) (s : State) : Host.Outcome State Fault Refusal := act s (fun d => d.looppFall loopp)

/-- LOOP_LOSS_CONFIRM: LOOPP below 7.5 V for 20 ms confirms loop loss, leading to VIGIL, a base change in HOLD, or orderly
shutdown (R59). -/
def execLoopLossConfirm (loopp : Nat) (fb : FbMeas) (s : State) : Host.Outcome State Fault Refusal :=
  act s (fun d => d.loopLossConfirm loopp fb)

/-- SHUTDOWN_BIST_DONE: the shutdown BIST completes; on success the clean shutdown record is committed, otherwise SHUT_BIST_FAIL
is written, and the rails go off (R507). -/
def execShutdownBistDone (failed : List Nat) (s : State) : Host.Outcome State Fault Refusal :=
  act s (fun d => d.shutdownBist failed)

/-- LOOP_RETURN: LOOPP reaching 8.0 V in VIGIL or HOLD on the cell regulates the fused safe current and, after 20 ms, leaves
VIGIL with LOOP_BACK (R59). -/
def execLoopReturn (loopp : Nat) (s : State) : Host.Outcome State Fault Refusal := act s (fun d => d.loopReturn loopp)

/-- LOOPP_ON_BATTERY: LOOPP above 8.0 V on a battery installation starts nothing and writes one INST_MISMATCH record (R63). -/
def execLooppOnBattery (loopp : Nat) (s : State) : Host.Outcome State Fault Refusal := act s (fun d => d.looppOnBattery loopp)

/-- CELL_LOW: VCELL below the LOW threshold, or below 2.00 V, sets CELL_LOW and raises the PWR event (R54). -/
def execCellLow (vcell : Nat) (s : State) : Host.Outcome State Fault Refusal := act s (fun d => d.cellLow vcell)

/-- CELL_DEAD_CONFIRM: VCELL below DEAD for 1 s sets CELL_DEAD and starts the orderly shutdown where the cell is the supply
(R54). -/
def execCellDeadConfirm (vcell : Nat) (fb : FbMeas) (s : State) : Host.Outcome State Fault Refusal :=
  act s (fun d => d.cellDeadConfirm vcell fb)

/-- POOL_FILL: VPOOL first reaching the shot floor after a start allows shots and writes POOL_FILL with the wait (R46). -/
def execPoolFill (vpool : Nat) (s : State) : Host.Outcome State Fault Refusal := act s (fun d => d.poolFill vpool)

/-- POOL_FLOOR_FALL: VPOOL falling below the shot floor sets FLOOR and stops shots (R41). -/
def execPoolFloorFall (vpool : Nat) (s : State) : Host.Outcome State Fault Refusal := act s (fun d => d.poolFloorFall vpool)

/-- POOL_LOW: VPOOL falling below PWR_POOL.LOW sets POOL_LOW and triggers LOOP-LEAN at the next boundary (R59). -/
def execPoolLow (vpool : Nat) (s : State) : Host.Outcome State Fault Refusal := act s (fun d => d.poolLow vpool)

/-- HARVEST_SHORT: SURPLUS below NEED for 60 s continuously triggers the change from LOOP to LOOP-LEAN (R59). -/
def execHarvestShort (surplus : Nat) (s : State) : Host.Outcome State Fault Refusal := act s (fun d => d.harvestShort surplus)

/-- HARVEST_RESTORED: SURPLUS at least 1.25 NEED for 60 s with the pool above RESUME triggers the return to LOOP (R59). -/
def execHarvestRestored (surplus : Nat) (s : State) : Host.Outcome State Fault Refusal := act s (fun d => d.harvestRestored surplus)

/-- CHARGE_DONE: VCELL reaching VEND stops the trickle charger and sets CHG_DONE (R52). -/
def execChargeDone (vcell : Nat) (s : State) : Host.Outcome State Fault Refusal := act s (fun d => d.chargeDone vcell)

/-- CHARGE_RESTART: VCELL falling 0.10 V below VEND restarts the trickle charger (R52). -/
def execChargeRestart (vcell : Nat) (s : State) : Host.Outcome State Fault Refusal := act s (fun d => d.chargeRestart vcell)

/-- VDDIO_LOSS: VDDIO below 1.62 V turns digital outputs high-impedance, reads inputs as 0 and ignores host and debug
transactions (R522). -/
def execVddioLoss (s : State) : Host.Outcome State Fault Refusal := act s (fun d => d.vddioLoss)

/-- VDDIO_RETURN: VDDIO above 1.70 V returns the pins to their configured state within 10 µs (R522). -/
def execVddioReturn (levels : Nat) (s : State) : Host.Outcome State Fault Refusal := act s (fun d => d.vddioReturn levels)

/-- LOOP_RETURN_CONFIRM: LOOPP held at or above 8.0 V for 20 ms in VIGIL confirms loop return, writes LOOP_BACK with the vigil
totals and enters LOOP-LEAN (R59). -/
def execLoopReturnConfirm (fb : FbMeas) (s : State) : Host.Outcome State Fault Refusal :=
  act s (fun d => d.loopReturnConfirm fb)

/-- AON_DOMAIN_LOSS: the always-on domain falls below 1.4 V and loses the Tideline, the installation latch VALID and the SYS_RST
flags, making the next start a cold Tideline start (R74). -/
def execAonDomainLoss (s : State) : Host.Outcome State Fault Refusal := act s (fun d => d.aonLoss)

end Sys2Proof.Machine
end

