-- ==== Sys2Proof/Machine/RunRadio.lean ====
section
/-!
DEFINITION. The meanings of the commands of the radio and the wake-up receiver (spec/14).
-/
namespace Sys2Proof.Machine

/-- RADIO_PHR_ERROR: a received PHR with an illegal length or mode switch ends reception and counts PHYERR (R420). -/
def execRadioPhrError (len : Nat) (modeSwitch : Bool) (s : State) : Host.Outcome State Fault Refusal :=
  act s (fun d => d.phrError len modeSwitch)

/-- SCAN_DWELL: the scan dwell on one channel expires and the device moves to the next channel (R434). -/
def execScanDwell (s : State) : Host.Outcome State Fault Refusal := act s (fun d => d.scanDwell)

/-- EB_RECEIVED: an enhanced beacon is received and, if usable while scanning, supplies timing and leads to JOIN_REQ (R434). -/
def execEbReceived (eb : EbFrame) (s : State) : Host.Outcome State Fault Refusal := act s (fun d => d.ebReceived eb)

/-- JOIN_RESP: a JOIN_RESP is checked and on success installs the network key, links and address (R436). -/
def execJoinResp (x : RxFrame) (h : RioHdr) (j : JoinResp) (s : State) : Host.Outcome State Fault Refusal :=
  act s (fun d => d.joinResp x h j)

/-- JOIN_TIMEOUT: no join response within 30 s counts as a failed attempt and starts a backoff (R436). -/
def execJoinTimeout (s : State) : Host.Outcome State Fault Refusal := act s (fun d => d.joinTimeout)

/-- JOIN_BACKOFF_END: the join backoff wait expires and the device scans again (R436). -/
def execJoinBackoffEnd (s : State) : Host.Outcome State Fault Refusal := act s (fun d => d.joinBackoffEnd)

/-- LEASE_RENEW_DUE: three quarters of the lease passes, and every 60 s after, the device sends LEASE_REQ (R437). -/
def execLeaseRenewDue (s : State) : Host.Outcome State Fault Refusal := act s (fun d => d.leaseRenewDue)

/-- LEASE_RESP: a LEASE_RESP renews the lease (R437). -/
def execLeaseResp (x : RxFrame) (h : RioHdr) (lease : Nat) (s : State) : Host.Outcome State Fault Refusal :=
  act s (fun d => d.leaseResp x h lease)

/-- LEASE_EXPIRY: an unrenewed lease expires and the device leaves and rejoins (R437). -/
def execLeaseExpiry (s : State) : Host.Outcome State Fault Refusal := act s (fun d => d.leaseExpiry)

/-- LEAVE: a LEAVE from COORD makes the device leave with a hold time (R438). -/
def execLeave (x : RxFrame) (h : RioHdr) (hold : Nat) (s : State) : Host.Outcome State Fault Refusal :=
  act s (fun d => d.leaveMsg x h hold)

/-- LEAVE_HOLD_END: the LEAVE hold time expires and the device may rejoin (R438). -/
def execLeaveHoldEnd (s : State) : Host.Outcome State Fault Refusal := act s (fun d => d.leaveHoldEnd)

/-- SCHEDULE: a SCHEDULE from COORD adds or removes links from its ASN (R439). -/
def execSchedule (x : RxFrame) (h : RioHdr) (asn : Nat) (changes : List (Bool × RLink)) (s : State) : Host.Outcome State Fault Refusal :=
  act s (fun d => d.schedule x h asn changes)

/-- TIMESLOT_START: a timeslot with an active link begins and the device transmits, receives or idles per link priority and band
rules (R425). -/
def execTimeslotStart (asn : Nat) (busy : Bool) (res : TxResult) (sync : Option Int) (s : State) : Host.Outcome State Fault Refusal :=
  act s (fun d => d.wake.timeslot asn busy res sync)

/-- KEEP_ALIVE: no sync for the keep-alive interval queues a secured empty keep-alive frame (R428). -/
def execKeepAlive (s : State) : Host.Outcome State Fault Refusal := act s (fun d => d.keepAlive)

/-- SYNC_TIMEOUT: no sync for SYNCTO seconds declares the parent lost (R457). -/
def execSyncTimeout (s : State) : Host.Outcome State Fault Refusal := act s (fun d => d.syncTimeout)

/-- REPORT_DUE: TIDE_SEC reaching a multiple of REPPER makes a REPORT due (R453). -/
def execReportDue (s : State) : Host.Outcome State Fault Refusal := act s (fun d => d.reportIsDue)

/-- ALARM_ACK: an ALARM_ACK removes the matching ALARM from the queue (R455). -/
def execAlarmAck (x : RxFrame) (h : RioHdr) (code : Nat) (s : State) : Host.Outcome State Fault Refusal :=
  act s (fun d => d.alarmAck x h code)

/-- COMMAND: a Riostey COMMAND executes a loop command code under radio limits and sequence rules (R450). -/
def execCommand (x : RxFrame) (h : RioHdr) (start : Word) (xs : List Nat) (s : State) : Host.Outcome State Fault Refusal :=
  act s (fun d => d.radioCommand x h start xs)

/-- TIME_MESSAGE: a Riostey TIME from COORD delivers master time referenced to its ASN, resolved at the boundary (R450). -/
def execTimeMessage (x : RxFrame) (h : RioHdr) (asn : Nat) (tm start : Word) (s : State) : Host.Outcome State Fault Refusal :=
  act s (fun d => d.radioTime x h asn tm start)

/-- QUIET: a QUIET from COORD announces a quiet period (R464). -/
def execQuiet (x : RxFrame) (h : RioHdr) (q len : Nat) (s : State) : Host.Outcome State Fault Refusal :=
  act s (fun d => d.quietMsg x h q len)

/-- QUIET_START: the quiet period begins at its start ASN (R464). -/
def execQuietStart (asn : Nat) (s : State) : Host.Outcome State Fault Refusal := act s (fun d => d.quietStart asn)

/-- QUIET_END: the quiet period ends and held wake answers are sent (R464). -/
def execQuietEnd (asn : Nat) (s : State) : Host.Outcome State Fault Refusal := act s (fun d => d.quietEnd asn)

/-- REKEY: a REKEY from COORD stores the next network key and a switch ASN (R447). -/
def execRekey (x : RxFrame) (h : RioHdr) (idx : Nat) (wrapped : List Nat) (asn : Nat) (s : State) : Host.Outcome State Fault Refusal :=
  act s (fun d => d.rekey x h idx wrapped asn)

/-- KEY_SWITCH: at the switch ASN the new key becomes current and REKEYED is written (R447). -/
def execKeySwitch (asn : Nat) (s : State) : Host.Outcome State Fault Refusal := act s (fun d => d.keySwitch asn)

/-- KEY_PREV_ERASE: 60 s after a key switch the previous key is erased (R447). -/
def execKeyPrevErase (s : State) : Host.Outcome State Fault Refusal := act s (fun d => d.keyPrevErase)

/-- APP_UP: a block given to RADIO with FULL = 1 is queued as an APP_UP message or returned at once (R456). -/
def execAppUp (b : Fin 256) (s : State) : Host.Outcome State Fault Refusal := act s (fun d => d.appUp b)

/-- WAKE_ANSWER: a recognised ANSWER wake word sends WAKE_ACK and listens on all links for AWAKE seconds (R462). -/
def execWakeAnswer (word asn : Nat) (s : State) : Host.Outcome State Fault Refusal := act s (fun d => d.wakeAnswer word asn)

/-- WAKE_RESYNC: a recognised RESYNC wake word listens on TIMEKEEPING links until a sync (R462). -/
def execWakeResync (word : Nat) (s : State) : Host.Outcome State Fault Refusal := act s (fun d => d.wakeResync word)

/-- WAKE_REPORT: a recognised REPORT wake word queues a REPORT at once (R462). -/
def execWakeReport (word : Nat) (s : State) : Host.Outcome State Fault Refusal := act s (fun d => d.wakeReport word)

/-- WAKE_LISTEN: a recognised LISTEN wake word listens as for ANSWER without sending (R462). -/
def execWakeListen (word : Nat) (s : State) : Host.Outcome State Fault Refusal := act s (fun d => d.wakeListen word)

/-- WAKE_AWAKE_END: the AWAKE listening time after ANSWER or LISTEN expires (R462). -/
def execWakeAwakeEnd (s : State) : Host.Outcome State Fault Refusal := act s (fun d => d.awakeEnd)

/-- WAKE_WORD_REJECTED: the wake-up receiver finds a preamble with no valid word, or a word with a bad CHK, and counts it in
FALSEN or CHKERR (R461). -/
def execWakeWordRejected (word : Option Nat) (s : State) : Host.Outcome State Fault Refusal := act s (fun d => d.wakeRejected word)

/-- RIOSTEY_UNKNOWN_TYPE: a Riostey message of an unknown TYPE is answered UNKNOWN_COMMAND and logged as kind 18 (R449). -/
def execRiosteyUnknownType (x : RxFrame) (ty : Nat) (h : RioHdr) (s : State) : Host.Outcome State Fault Refusal :=
  act s (fun d => d.unknownType x ty h)

end Sys2Proof.Machine
end

