-- ==== Sys2Proof/Machine/RunRegister.lean ====
section
/-!
DEFINITION. The meanings of the commands that are a write of one register, by any master.
-/
namespace Sys2Proof.Machine

/-- REGISTER_WRITE: a write by any master to a register field that has no row of its own is clamped, replaced or ignored by
class and stored without error (R13). -/
def execRegisterWrite (m : Master) (a : Nat) (mask w : Word) (s : State) : Host.Outcome State Fault Refusal :=
  act s (fun d => d.busWrite m a mask w)

/-- SLACK_OPEN_CMD: a CLK_SLKCMD write with OPEN = 1 requests a window of length LEN by instruction (R114). -/
def execSlackOpenCmd (m : Master) (w : Word) (s : State) : Host.Outcome State Fault Refusal :=
  act s (fun d => if bitsOf w 12 12 = 1 then d.busWrite m F.CLK_SLKCMD (BitVec.allOnes 72) w else d)

/-- SLACK_CLOSE_CMD: a CLK_SLKCMD write with CLOSE = 1 closes at once a window opened by instruction alone (R114). -/
def execSlackCloseCmd (m : Master) (w : Word) (s : State) : Host.Outcome State Fault Refusal :=
  act s (fun d => if bitsOf w 13 13 = 1 then d.busWrite m F.CLK_SLKCMD (BitVec.allOnes 72) w else d)

/-- CHEM_WRITE: a write of PWR_CELL.CHEM changes the declared chemistry and writes a PARAM_CHANGE record (R50). -/
def execChemWrite (m : Master) (w : Word) (s : State) : Host.Outcome State Fault Refusal :=
  act s (fun d => d.busWrite m F.PWR_CELL (BitVec.allOnes 72) w)

/-- CHARGER_ENABLE: a write of PWR_CHG.EN stores it; under the chemistry lock it sets LOCK_HIT and writes CHARGE_REFUSED (R51).
-/
def execChargerEnable (m : Master) (w : Word) (s : State) : Host.Outcome State Fault Refusal :=
  act s (fun d => d.busWrite m F.PWR_CHG (BitVec.allOnes 72) w)

/-- PWR_POOL_WRITE: a PWR_POOL write clamps its thresholds against each other in the order TOP, ALMIN, LOW, RESUME, TXMIN (R68).
-/
def execPwrPoolWrite (m : Master) (w : Word) (s : State) : Host.Outcome State Fault Refusal :=
  act s (fun d => d.busWrite m F.PWR_POOL (BitVec.allOnes 72) w)

/-- TIDE_HALT: a write of HALT = 1 stops TIDE_SEC and sets HALTED (R125). -/
def execTideHalt (m : Master) (w : Word) (s : State) : Host.Outcome State Fault Refusal :=
  act s (fun d => if fieldOf F.TIDE_CTL_HALT w = 1 then d.busWrite m F.TIDE_CTL (BitVec.allOnes 72) w else d)

/-- TIDE_SEC_WRITE: a write to TIDE_SEC while halted stores the value, raised to at least the halted value (R125). -/
def execTideSecWrite (m : Master) (w : Word) (s : State) : Host.Outcome State Fault Refusal :=
  act s (fun d => d.busWrite m F.TIDE_SEC (BitVec.allOnes 72) w)

/-- TIDE_RELEASE: a write of HALT = 0 with RELSRC = 0 restarts TIDE_SEC and writes TIME_SET (R125). -/
def execTideRelease (m : Master) (w : Word) (s : State) : Host.Outcome State Fault Refusal :=
  act s (fun d => if fieldOf F.TIDE_CTL_HALT w = 0 ∧ fieldOf F.TIDE_CTL_RELSRC w = 0 then d.busWrite m F.TIDE_CTL (BitVec.allOnes 72) w else d)

/-- CIVOFS_WRITE: a direct write to TIDE_CIVOFS in SERVICE applies without deadband and is logged as TIME_STEP (R127). -/
def execCivofsWrite (m : Master) (w : Word) (s : State) : Host.Outcome State Fault Refusal :=
  act s (fun d => d.busWrite m F.TIDE_CIVOFS (BitVec.allOnes 72) w)

/-- WDAY_WRITE: a write to TIDE_WDAY.WDAY sets the weekday and logs a PARAM_CHANGE (R130). -/
def execWdayWrite (m : Master) (w : Word) (s : State) : Host.Outcome State Fault Refusal :=
  act s (fun d => d.busWrite m F.TIDE_WDAY (fieldMask F.TIDE_WDAY_WDAY) w)

/-- PHASE_WRITE: a write to TIDE_WDAY.PHASE recomputes D without changing WDAY and logs a PARAM_CHANGE (R130). -/
def execPhaseWrite (m : Master) (w : Word) (s : State) : Host.Outcome State Fault Refusal :=
  act s (fun d => d.busWrite m F.TIDE_WDAY (fieldMask F.TIDE_WDAY_PHASE) w)

/-- TIMER_RESET: a TMRn_CMD write with RESET = 1 zeroes the counter and fraction as a wrap (R140). -/
def execTimerReset (m : Master) (n : Fin 16) (w : Word) (s : State) : Host.Outcome State Fault Refusal :=
  act s (fun d => if bitsOf w 2 2 = 1 then d.busWrite m (F.TMR_CMD n) (BitVec.allOnes 72) w else d)

/-- TIMER_STOP: a TMRn_CMD write with STOP = 1 clears RUN (R139). -/
def execTimerStop (m : Master) (n : Fin 16) (w : Word) (s : State) : Host.Outcome State Fault Refusal :=
  act s (fun d => if bitsOf w 1 1 = 1 then d.busWrite m (F.TMR_CMD n) (BitVec.allOnes 72) w else d)

/-- TIMER_START: a TMRn_CMD write with START = 1 sets RUN on an enabled channel (R139). -/
def execTimerStart (m : Master) (n : Fin 16) (w : Word) (s : State) : Host.Outcome State Fault Refusal :=
  act s (fun d => if bitsOf w 0 0 = 1 then d.busWrite m (F.TMR_CMD n) (BitVec.allOnes 72) w else d)

/-- TIMER_ENABLE: a change of TMRn_CFG.EN copies the preloads and sets RUN, or clears RUN and holds the counter (R142). -/
def execTimerEnable (m : Master) (n : Fin 16) (w : Word) (s : State) : Host.Outcome State Fault Refusal :=
  act s (fun d => if bitsOf w 0 0 ≠ d.get (F.TMR_CFG_EN n) then d.busWrite m (F.TMR_CFG n) (BitVec.allOnes 72) w else d)

/-- TIMER_COUNT_WRITE: a write to TMRn_CNT sets the counter and clears the fraction without a match or wrap (R143). -/
def execTimerCountWrite (m : Master) (n : Fin 16) (w : Word) (s : State) : Host.Outcome State Fault Refusal :=
  act s (fun d => d.busWrite m (F.TMR_CNT n) (BitVec.allOnes 72) w)

/-- CAPTURE_POP: a TMRn_CAPCTL write with POP = 1 removes the queue head only when POPSEQ matches its SEQ (R147). -/
def execCapturePop (m : Master) (n : Fin 16) (w : Word) (s : State) : Host.Outcome State Fault Refusal :=
  act s (fun d => if bitsOf w 8 8 = 1 then d.busWrite m (F.TMR_CAPCTL n) (BitVec.allOnes 72) w else d)

/-- DEBUG_HALT: a DBG_CTL write setting HALTL or HALTR stops that Sleeve at an instruction boundary (R193). -/
def execDebugHalt (m : Master) (w : Word) (s : State) : Host.Outcome State Fault Refusal :=
  act s (fun d => if bitsOf w 1 0 ≠ 0 then d.busWrite m F.DBG_CTL (BitVec.allOnes 72) w else d)

/-- DEBUG_RELEASE: a DBG_CTL write clearing HALTL or HALTR lets the halted Sleeve run again (R193). -/
def execDebugRelease (m : Master) (w : Word) (s : State) : Host.Outcome State Fault Refusal :=
  act s (fun d => if (d.flag F.DBG_CTL_HALTL ∧ bitsOf w 0 0 = 0) ∨ (d.flag F.DBG_CTL_HALTR ∧ bitsOf w 1 1 = 0) then d.busWrite m F.DBG_CTL (BitVec.allOnes 72) w else d)

/-- DEBUG_STEP: a DBG_CTL write of STEPL or STEPR executes one instruction of the halted Sleeve (R193). -/
def execDebugStep (m : Master) (w : Word) (s : State) : Host.Outcome State Fault Refusal :=
  act s (fun d => if bitsOf w 5 4 ≠ 0 then d.busWrite m F.DBG_CTL (BitVec.allOnes 72) w else d)

/-- REG_FILE_WRITE: a DBG_WDATA write sets the selected register of a halted or trapped Sleeve when permitted (R194). -/
def execRegFileWrite (m : Master) (w : Word) (s : State) : Host.Outcome State Fault Refusal :=
  act s (fun d => d.busWrite m F.DBG_WDATA (BitVec.allOnes 72) w)

/-- REGION_WRITE: a region-table write stores W = 0 and sets WCLR when the other Sleeve already grants W on a granule (R174). -/
def execRegionWrite (m : Master) (right : Bool) (i : Fin 8) (w : Word) (s : State) : Host.Outcome State Fault Refusal :=
  act s (fun d => d.busWrite m (if right then F.SYS_RGNR i else F.SYS_RGNL i) (BitVec.allOnes 72) w)

/-- SEAM_CLAIM: a SEAM_CMD CLAIM with matching XSEQ takes a free block for HOST (R274). -/
def execSeamClaim (m : Master) (w : Word) (s : State) : Host.Outcome State Fault Refusal :=
  act s (fun d => if bitsOf w 2 0 = 1 then d.busWrite m F.SEAM_CMD (BitVec.allOnes 72) w else d)

/-- SEAM_GIVE: a SEAM_CMD GIVE with matching XSEQ hands a HOST-owned block to a new owner (R274). -/
def execSeamGive (m : Master) (w : Word) (s : State) : Host.Outcome State Fault Refusal :=
  act s (fun d => if bitsOf w 2 0 = 2 then d.busWrite m F.SEAM_CMD (BitVec.allOnes 72) w else d)

/-- SEAM_QUERY: a SEAM_CMD QUERY reports a block's record image (R281). -/
def execSeamQuery (m : Master) (w : Word) (s : State) : Host.Outcome State Fault Refusal :=
  act s (fun d => if bitsOf w 2 0 = 3 then d.busWrite m F.SEAM_CMD (BitVec.allOnes 72) w else d)

/-- SEAM_REVERT: a SEAM_CMD REVERT from the Collar reverts a block to HOME with STALE (R274). -/
def execSeamRevert (m : Master) (w : Word) (s : State) : Host.Outcome State Fault Refusal :=
  act s (fun d => if bitsOf w 2 0 = 4 then d.busWrite m F.SEAM_CMD (BitVec.allOnes 72) w else d)

/-- SEAM_SETHOME: a SEAM_CMD SETHOME from the Collar sets a block's HOME and PRIVATE (R274). -/
def execSeamSethome (m : Master) (w : Word) (s : State) : Host.Outcome State Fault Refusal :=
  act s (fun d => if bitsOf w 2 0 = 5 then d.busWrite m F.SEAM_CMD (BitVec.allOnes 72) w else d)

/-- QUIESCE_REQUEST: a SEAM_QCTL write with REQ = 1 starts quiescing the target block or unit (R283). -/
def execQuiesceRequest (m : Master) (w : Word) (s : State) : Host.Outcome State Fault Refusal :=
  act s (fun d => if fieldOf F.SEAM_QCTL_REQ w = 1 then d.busWrite m F.SEAM_QCTL (BitVec.allOnes 72) w else d)

/-- QUIESCE_RELEASE: a SEAM_QCTL write with RELEASE = 1 re-initialises the held target and raises QUIESCED (R283). -/
def execQuiesceRelease (m : Master) (w : Word) (s : State) : Host.Outcome State Fault Refusal :=
  act s (fun d => if fieldOf F.SEAM_QCTL_RELEASE w = 1 then d.busWrite m F.SEAM_QCTL (BitVec.allOnes 72) w else d)

/-- ROUTE_WRITE: a write to a task input's routing register acts as ARM on that input (R293). -/
def execRouteWrite (m : Master) (e : Eng) (i : Fin 32) (w : Word) (s : State) : Host.Outcome State Fault Refusal :=
  act s (fun d => if i.val < inputsN e then d.busWrite m (routeReg e i) (BitVec.allOnes 72) w else d)

/-- SW_EVENT_SET: an EVT_SWSET write raises each selected software event source once (R289). -/
def execSwEventSet (m : Master) (w : Word) (s : State) : Host.Outcome State Fault Refusal :=
  act s (fun d => d.busWrite m F.EVT_SWSET (BitVec.allOnes 72) w)

/-- TDC_JOB_WRITE: a TDCu_JOB write with GO = 1 queues a direct job, or reports FULL (R307). -/
def execTdcJobWrite (m : Master) (u : Fin 2) (w : Word) (s : State) : Host.Outcome State Fault Refusal :=
  act s (fun d => if fieldOf (F.TDC_JOB_GO u) w = 1 then d.busWrite m (F.TDC_JOB u) (BitVec.allOnes 72) w else d)

/-- USF_REQUEST: a USF_REQ write with a new TAG queues a shot request (R319). -/
def execUsfRequest (m : Master) (w : Word) (s : State) : Host.Outcome State Fault Refusal :=
  act s (fun d => d.busWrite m F.USF_REQ (BitVec.allOnes 72) w)

/-- ZERO_LEARN_START: a non-zero USF_ZCTL.MASK write in SERVICE starts zero-flow learning (R327). -/
def execZeroLearnStart (m : Master) (w : Word) (s : State) : Host.Outcome State Fault Refusal :=
  act s (fun d => if fieldOf F.USF_ZCTL_MASK w ≠ 0 then d.busWrite m F.USF_ZCTL (BitVec.allOnes 72) w else d)

/-- ADC_REQUEST: an ADC_REQ write with a new TAG queues a conversion request (R338). -/
def execAdcRequest (m : Master) (w : Word) (s : State) : Host.Outcome State Fault Refusal :=
  act s (fun d => d.busWrite m F.ADC_REQ (BitVec.allOnes 72) w)

/-- LABEL_CLAIM: an LBL_CMD CLAIM write in SERVICE overwrites the Label with this head's state at the next boundary (R487). -/
def execLabelClaim (m : Master) (w : Word) (s : State) : Host.Outcome State Fault Refusal :=
  act s (fun d => if fieldOf F.LBL_CMD_CLAIM w = 1 then d.busWrite m F.LBL_CMD (BitVec.allOnes 72) w else d)

/-- BIST_RUN_CMD: a BIST_CMD write with RUN = 1 runs a full pass of the item from the next boundary (R493). -/
def execBistRunCmd (m : Master) (w : Word) (s : State) : Host.Outcome State Fault Refusal :=
  act s (fun d => if fieldOf F.BIST_CMD_RUN w = 1 then d.busWrite m F.BIST_CMD (BitVec.allOnes 72) w else d)

end Sys2Proof.Machine
end

