-- ==== Sys2Proof/Machine/RunTest.lean ====
section
/-!
DEFINITION. The meanings of the commands of the Label and of the self-test (spec/15, spec/16).
-/
namespace Sys2Proof.Machine

/-- LABEL_WRITE_DONE: a mirror write completes and is checked by status and read-back, failures being logged and retried (R479).
-/
def execLabelWriteDone (o : LabelDone) (s : State) : Host.Outcome State Fault Refusal := act s (fun d => d.labelWriteDone o)

/-- KEYWAIT_TIMEOUT: the HANDOVER key wait expires without a loaded site key and the Label is refused (R482). -/
def execKeywaitTimeout (s : State) : Host.Outcome State Fault Refusal := act s (fun d => d.keywaitTimeout)

/-- BIST_SLICE: a due idle slice starts when its target is idle and the window and pool conditions hold (R493). -/
def execBistSlice (s : State) : Host.Outcome State Fault Refusal := act s (fun d => d.bistSlice)

/-- BIST_SLICE_DONE: a slice completes, passing, counting a transient, or failing its item with the item's device action (R499).
-/
def execBistSliceDone (o : SliceObs) (s : State) : Host.Outcome State Fault Refusal := act s (fun d => d.bistSliceDone o)

/-- ISOLATED_TEST_DONE: an isolated test ends and the unit is released with its snapshot at the next boundary, or held on
failure (R497). -/
def execIsolatedTestDone (o : SliceObs) (s : State) : Host.Outcome State Fault Refusal := act s (fun d => d.isolatedDone o)

/-- QUALIFICATION: RETRY seconds after a failure the held unit is qualified, restored on a pass or retired after three failures
(R504). -/
def execQualification (item : Nat) (o : SliceObs) (s : State) : Host.Outcome State Fault Refusal :=
  act s (fun d => d.qualification item o)

end Sys2Proof.Machine
end

