-- ==== Sys2Proof/Machine/Dispatch.lean ====
section
/-! DEFINITION. One arm per constructor of Instr: its meaning. -/
namespace Sys2Proof.Machine

def exec (i : Instr) (s : State) : Host.Outcome State Fault Refusal :=
  match i with
  | .registerWrite m a mask w => Sys2Proof.Machine.execRegisterWrite m a mask w s
  | .cycleBoundary o => Sys2Proof.Machine.execCycleBoundary o s
  | .slackRequest t0 len other => Sys2Proof.Machine.execSlackRequest t0 len other s
  | .slackOpenCmd m w => Sys2Proof.Machine.execSlackOpenCmd m w s
  | .slackCloseCmd m w => Sys2Proof.Machine.execSlackCloseCmd m w s
  | .slackOpen k cam cbm => Sys2Proof.Machine.execSlackOpen k cam cbm s
  | .slackClose => Sys2Proof.Machine.execSlackClose s
  | .slackCut vpool us => Sys2Proof.Machine.execSlackCut vpool us s
  | .loopPresence loopp => Sys2Proof.Machine.execLoopPresence loopp s
  | .cellConfirm vcell => Sys2Proof.Machine.execCellConfirm vcell s
  | .hfReady up => Sys2Proof.Machine.execHfReady up s
  | .lfReady => Sys2Proof.Machine.execLfReady s
  | .stage2 o testen t2 => Sys2Proof.Machine.execStage2 o testen t2 s
  | .firstFallback fb => Sys2Proof.Machine.execFirstFallback fb s
  | .imageVerified => Sys2Proof.Machine.execImageVerified s
  | .startupBistDone failed two ms => Sys2Proof.Machine.execStartupBistDone failed two ms s
  | .shortBoundary o t3 => Sys2Proof.Machine.execShortBoundary o t3 s
  | .bor => Sys2Proof.Machine.execBor s
  | .nrst => Sys2Proof.Machine.execNrst s
  | .wdog => Sys2Proof.Machine.execWdog s
  | .sealChange opened => Sys2Proof.Machine.execSealChange opened s
  | .looppFall loopp => Sys2Proof.Machine.execLooppFall loopp s
  | .loopLossConfirm loopp fb => Sys2Proof.Machine.execLoopLossConfirm loopp fb s
  | .shutdownBistDone failed => Sys2Proof.Machine.execShutdownBistDone failed s
  | .loopReturn loopp => Sys2Proof.Machine.execLoopReturn loopp s
  | .looppOnBattery loopp => Sys2Proof.Machine.execLooppOnBattery loopp s
  | .cellLow vcell => Sys2Proof.Machine.execCellLow vcell s
  | .cellDeadConfirm vcell fb => Sys2Proof.Machine.execCellDeadConfirm vcell fb s
  | .poolFill vpool => Sys2Proof.Machine.execPoolFill vpool s
  | .poolFloorFall vpool => Sys2Proof.Machine.execPoolFloorFall vpool s
  | .poolLow vpool => Sys2Proof.Machine.execPoolLow vpool s
  | .harvestShort surplus => Sys2Proof.Machine.execHarvestShort surplus s
  | .harvestRestored surplus => Sys2Proof.Machine.execHarvestRestored surplus s
  | .chargeDone vcell => Sys2Proof.Machine.execChargeDone vcell s
  | .chargeRestart vcell => Sys2Proof.Machine.execChargeRestart vcell s
  | .chemWrite m w => Sys2Proof.Machine.execChemWrite m w s
  | .chargerEnable m w => Sys2Proof.Machine.execChargerEnable m w s
  | .pwrPoolWrite m w => Sys2Proof.Machine.execPwrPoolWrite m w s
  | .vddioLoss => Sys2Proof.Machine.execVddioLoss s
  | .vddioReturn levels => Sys2Proof.Machine.execVddioReturn levels s
  | .clkSwitch => Sys2Proof.Machine.execClkSwitch s
  | .sleepEntry => Sys2Proof.Machine.execSleepEntry s
  | .sleepExit o => Sys2Proof.Machine.execSleepExit o s
  | .pllLockDetect => Sys2Proof.Machine.execPllLockDetect s
  | .pllSwitch => Sys2Proof.Machine.execPllSwitch s
  | .pllLockTimeout => Sys2Proof.Machine.execPllLockTimeout s
  | .fenceTrip count => Sys2Proof.Machine.execFenceTrip count s
  | .xrefWindow count => Sys2Proof.Machine.execXrefWindow count s
  | .xrefTimeout => Sys2Proof.Machine.execXrefTimeout s
  | .xrefGateEnd hf lf => Sys2Proof.Machine.execXrefGateEnd hf lf s
  | .billingSecond ticks => Sys2Proof.Machine.execBillingSecond ticks s
  | .lfLoss hf gap => Sys2Proof.Machine.execLfLoss hf gap s
  | .lfRestore => Sys2Proof.Machine.execLfRestore s
  | .tideHalt m w => Sys2Proof.Machine.execTideHalt m w s
  | .tideSecWrite m w => Sys2Proof.Machine.execTideSecWrite m w s
  | .tideRelease m w => Sys2Proof.Machine.execTideRelease m w s
  | .tidePinRelease pin rest => Sys2Proof.Machine.execTidePinRelease pin rest s
  | .tideHaltTimeout rest => Sys2Proof.Machine.execTideHaltTimeout rest s
  | .civofsWrite m w => Sys2Proof.Machine.execCivofsWrite m w s
  | .wdayWrite m w => Sys2Proof.Machine.execWdayWrite m w s
  | .phaseWrite m w => Sys2Proof.Machine.execPhaseWrite m w s
  | .timerMatch n runs => Sys2Proof.Machine.execTimerMatch n runs s
  | .timerOverflow n runs => Sys2Proof.Machine.execTimerOverflow n runs s
  | .linkAction => Sys2Proof.Machine.execLinkAction s
  | .timerReset m n w => Sys2Proof.Machine.execTimerReset m n w s
  | .timerStop m n w => Sys2Proof.Machine.execTimerStop m n w s
  | .timerStart m n w => Sys2Proof.Machine.execTimerStart m n w s
  | .timerEnable m n w => Sys2Proof.Machine.execTimerEnable m n w s
  | .timerCountWrite m n w => Sys2Proof.Machine.execTimerCountWrite m n w s
  | .timerCapture n pin rising => Sys2Proof.Machine.execTimerCapture n pin rising s
  | .busCapture n pin rising => Sys2Proof.Machine.execBusCapture n pin rising s
  | .capturePop m n w => Sys2Proof.Machine.execCapturePop m n w s
  | .nop f => Sys2Proof.Machine.execNop f s
  | .doze f => Sys2Proof.Machine.execDoze f s
  | .dozeWake e => Sys2Proof.Machine.execDozeWake e s
  | .movfl f rd => Sys2Proof.Machine.execMovfl f rd s
  | .movtfl f ra => Sys2Proof.Machine.execMovtfl f ra s
  | .lpop f => Sys2Proof.Machine.execLpop f s
  | .mov f rd ra => Sys2Proof.Machine.execMov f rd ra s
  | .movi f rd imm => Sys2Proof.Machine.execMovi f rd imm s
  | .movl f rd high zext lit => Sys2Proof.Machine.execMovl f rd high zext lit s
  | .add f rd ra rb => Sys2Proof.Machine.execAdd f rd ra rb s
  | .adc f rd ra rb => Sys2Proof.Machine.execAdc f rd ra rb s
  | .sub f rd ra rb => Sys2Proof.Machine.execSub f rd ra rb s
  | .sbc f rd ra rb => Sys2Proof.Machine.execSbc f rd ra rb s
  | .neg f rd ra => Sys2Proof.Machine.execNeg f rd ra s
  | .abs f rd ra => Sys2Proof.Machine.execAbs f rd ra s
  | .min f rd ra rb => Sys2Proof.Machine.execMin f rd ra rb s
  | .max f rd ra rb => Sys2Proof.Machine.execMax f rd ra rb s
  | .minu f rd ra rb => Sys2Proof.Machine.execMinu f rd ra rb s
  | .maxu f rd ra rb => Sys2Proof.Machine.execMaxu f rd ra rb s
  | .cmp f ra rb => Sys2Proof.Machine.execCmp f ra rb s
  | .sel f rd ra rb cond => Sys2Proof.Machine.execSel f rd ra rb cond s
  | .adds f rd ra rb => Sys2Proof.Machine.execAdds f rd ra rb s
  | .subs f rd ra rb => Sys2Proof.Machine.execSubs f rd ra rb s
  | .negs f rd ra => Sys2Proof.Machine.execNegs f rd ra s
  | .abss f rd ra => Sys2Proof.Machine.execAbss f rd ra s
  | .addus f rd ra rb => Sys2Proof.Machine.execAddus f rd ra rb s
  | .subus f rd ra rb => Sys2Proof.Machine.execSubus f rd ra rb s
  | .shls f rd ra amt => Sys2Proof.Machine.execShls f rd ra amt s
  | .and f rd ra rb => Sys2Proof.Machine.execAnd f rd ra rb s
  | .or f rd ra rb => Sys2Proof.Machine.execOr f rd ra rb s
  | .xor f rd ra rb => Sys2Proof.Machine.execXor f rd ra rb s
  | .andn f rd ra rb => Sys2Proof.Machine.execAndn f rd ra rb s
  | .not f rd ra => Sys2Proof.Machine.execNot f rd ra s
  | .tst f ra rb => Sys2Proof.Machine.execTst f ra rb s
  | .popc f rd ra => Sys2Proof.Machine.execPopc f rd ra s
  | .clz f rd ra => Sys2Proof.Machine.execClz f rd ra s
  | .shl f rd ra amt => Sys2Proof.Machine.execShl f rd ra amt s
  | .shr f rd ra amt => Sys2Proof.Machine.execShr f rd ra amt s
  | .asr f rd ra amt => Sys2Proof.Machine.execAsr f rd ra amt s
  | .ror f rd ra amt => Sys2Proof.Machine.execRor f rd ra amt s
  | .addi f rd ra imm => Sys2Proof.Machine.execAddi f rd ra imm s
  | .andi f rd ra imm => Sys2Proof.Machine.execAndi f rd ra imm s
  | .ori f rd ra imm => Sys2Proof.Machine.execOri f rd ra imm s
  | .xori f rd ra imm => Sys2Proof.Machine.execXori f rd ra imm s
  | .cmpi f ra imm => Sys2Proof.Machine.execCmpi f ra imm s
  | .extr f rd ra p l x => Sys2Proof.Machine.execExtr f rd ra p l x s
  | .ins f rd ra p l => Sys2Proof.Machine.execIns f rd ra p l s
  | .ld f rd ra imm x => Sys2Proof.Machine.execLd f rd ra imm x s
  | .ldh f rd ra off u h x => Sys2Proof.Machine.execLdh f rd ra off u h x s
  | .st f rd ra imm => Sys2Proof.Machine.execSt f rd ra imm s
  | .sth f rd ra off h => Sys2Proof.Machine.execSth f rd ra off h s
  | .clracc f x => Sys2Proof.Machine.execClracc f x s
  | .movta f x ra rb => Sys2Proof.Machine.execMovta f x ra rb s
  | .movtas f x ra => Sys2Proof.Machine.execMovtas f x ra s
  | .movfa f x rd high => Sys2Proof.Machine.execMovfa f x rd high s
  | .ext f x rd sh r u => Sys2Proof.Machine.execExt f x rd sh r u s
  | .mul f x ra rb sg => Sys2Proof.Machine.execMul f x ra rb sg s
  | .mac f x ra rb sg neg => Sys2Proof.Machine.execMac f x ra rb sg neg s
  | .div f rd ra rb sh u m => Sys2Proof.Machine.execDiv f rd ra rb sh u m s
  | .recip f rd ra sh => Sys2Proof.Machine.execRecip f rd ra sh s
  | .poly f rd ra rb sh => Sys2Proof.Machine.execPoly f rd ra rb sh s
  | .interp f rd ra rb x => Sys2Proof.Machine.execInterp f rd ra rb x s
  | .br f cond link target => Sys2Proof.Machine.execBr f cond link target s
  | .brr f cond link ra => Sys2Proof.Machine.execBrr f cond link ra s
  | .loop f ra len => Sys2Proof.Machine.execLoop f ra len s
  | .loopi f count len => Sys2Proof.Machine.execLoopi f count len s
  | .claim f rd ra => Sys2Proof.Machine.execClaim f rd ra s
  | .give f rd ra rb code fromReg full => Sys2Proof.Machine.execGive f rd ra rb code fromReg full s
  | .testown f rd ra => Sys2Proof.Machine.execTestown f rd ra s
  | .waitev f rd ra => Sys2Proof.Machine.execWaitev f rd ra s
  | .waitevResume e => Sys2Proof.Machine.execWaitevResume e s
  | .signal f n => Sys2Proof.Machine.execSignal f n s
  | .arm f input src dis => Sys2Proof.Machine.execArm f input src dis s
  | .shot f rd ra => Sys2Proof.Machine.execShot f rd ra s
  | .conv f rd ra => Sys2Proof.Machine.execConv f rd ra s
  | .svc f n => Sys2Proof.Machine.execSvc f n s
  | .trap f code => Sys2Proof.Machine.execTrap f code s
  | .mark f ra tag => Sys2Proof.Machine.execMark f ra tag s
  | .rendezvousMeet => Sys2Proof.Machine.execRendezvousMeet s
  | .debugHalt m w => Sys2Proof.Machine.execDebugHalt m w s
  | .debugRelease m w => Sys2Proof.Machine.execDebugRelease m w s
  | .debugStep m w => Sys2Proof.Machine.execDebugStep m w s
  | .regFileWrite m w => Sys2Proof.Machine.execRegFileWrite m w s
  | .regionWrite m right n w => Sys2Proof.Machine.execRegionWrite m right n w s
  | .info => Sys2Proof.Machine.execInfo s
  | .post => Sys2Proof.Machine.execPost s
  | .assign => Sys2Proof.Machine.execAssign s
  | .timeSet => Sys2Proof.Machine.execTimeSet s
  | .paramRead => Sys2Proof.Machine.execParamRead s
  | .paramWrite => Sys2Proof.Machine.execParamWrite s
  | .modeReq => Sys2Proof.Machine.execModeReq s
  | .restart fb => Sys2Proof.Machine.execRestart fb s
  | .fuse => Sys2Proof.Machine.execFuse s
  | .logRead => Sys2Proof.Machine.execLogRead s
  | .imgBegin => Sys2Proof.Machine.execImgBegin s
  | .imgWrite => Sys2Proof.Machine.execImgWrite s
  | .imgVerify => Sys2Proof.Machine.execImgVerify s
  | .imgVerifyDone => Sys2Proof.Machine.execImgVerifyDone s
  | .imgActivate => Sys2Proof.Machine.execImgActivate s
  | .imgStatus => Sys2Proof.Machine.execImgStatus s
  | .imgSessionTimeout => Sys2Proof.Machine.execImgSessionTimeout s
  | .keyInfo => Sys2Proof.Machine.execKeyInfo s
  | .keyLoad => Sys2Proof.Machine.execKeyLoad s
  | .keyErase => Sys2Proof.Machine.execKeyErase s
  | .macSvc => Sys2Proof.Machine.execMacSvc s
  | .sleeveFaultMigrate right => Sys2Proof.Machine.execSleeveFaultMigrate right s
  | .seamClaim m w => Sys2Proof.Machine.execSeamClaim m w s
  | .seamGive m w => Sys2Proof.Machine.execSeamGive m w s
  | .seamQuery m w => Sys2Proof.Machine.execSeamQuery m w s
  | .seamRevert m w => Sys2Proof.Machine.execSeamRevert m w s
  | .seamSethome m w => Sys2Proof.Machine.execSeamSethome m w s
  | .heldGiveRevert => Sys2Proof.Machine.execHeldGiveRevert s
  | .quiesceRequest m w => Sys2Proof.Machine.execQuiesceRequest m w s
  | .quiesceComplete => Sys2Proof.Machine.execQuiesceComplete s
  | .quiesceRelease m w => Sys2Proof.Machine.execQuiesceRelease m w s
  | .routeWrite m e k w => Sys2Proof.Machine.execRouteWrite m e k w s
  | .swEventSet m w => Sys2Proof.Machine.execSwEventSet m w s
  | .tdcCalibrationDone u o => Sys2Proof.Machine.execTdcCalibrationDone u o s
  | .tdcStartEdge u src rising k pos => Sys2Proof.Machine.execTdcStartEdge u src rising k pos s
  | .tdcStopEdge u src rising c pos runs => Sys2Proof.Machine.execTdcStopEdge u src rising c pos runs s
  | .tdcCoarseOverflow u => Sys2Proof.Machine.execTdcCoarseOverflow u s
  | .tdcDitherSample u starts stops => Sys2Proof.Machine.execTdcDitherSample u starts stops s
  | .tdcJobWrite m u w => Sys2Proof.Machine.execTdcJobWrite m u w s
  | .usfRequest m w => Sys2Proof.Machine.execUsfRequest m w s
  | .shotLaunch t => Sys2Proof.Machine.execShotLaunch t s
  | .shotListenEnd first peak samples => Sys2Proof.Machine.execShotListenEnd first peak samples s
  | .driveShort p => Sys2Proof.Machine.execDriveShort p s
  | .pathTest p at_ flood ebb short => Sys2Proof.Machine.execPathTest p at_ flood ebb short s
  | .zeroLearnStart m w => Sys2Proof.Machine.execZeroLearnStart m w s
  | .zeroLearnEnd => Sys2Proof.Machine.execZeroLearnEnd s
  | .adcRequest m w => Sys2Proof.Machine.execAdcRequest m w s
  | .adcConvStart u => Sys2Proof.Machine.execAdcConvStart u s
  | .adcConvDone u v sat comp => Sys2Proof.Machine.execAdcConvDone u v sat comp s
  | .adcWatchdog u => Sys2Proof.Machine.execAdcWatchdog u s
  | .excitationLoss k => Sys2Proof.Machine.execExcitationLoss k s
  | .pulseEdge pin falling => Sys2Proof.Machine.execPulseEdge pin falling s
  | .pulseEmit j => Sys2Proof.Machine.execPulseEmit j s
  | .pulseWidthEnd j => Sys2Proof.Machine.execPulseWidthEnd j s
  | .pulseGapEnd j => Sys2Proof.Machine.execPulseGapEnd j s
  | .loopCarrierDetect => Sys2Proof.Machine.execLoopCarrierDetect s
  | .loopFrameTimeout addr cmd => Sys2Proof.Machine.execLoopFrameTimeout addr cmd s
  | .identify fr => Sys2Proof.Machine.execIdentify fr s
  | .readOutput fr => Sys2Proof.Machine.execReadOutput fr s
  | .readAcc fr => Sys2Proof.Machine.execReadAcc fr s
  | .readWords fr => Sys2Proof.Machine.execReadWords fr s
  | .readStatus fr => Sys2Proof.Machine.execReadStatus fr s
  | .readLog fr => Sys2Proof.Machine.execReadLog fr s
  | .service fr => Sys2Proof.Machine.execService fr s
  | .imgData fr => Sys2Proof.Machine.execImgData fr s
  | .writeField fr => Sys2Proof.Machine.execWriteField fr s
  | .time fr => Sys2Proof.Machine.execTime fr s
  | .loopTest fr => Sys2Proof.Machine.execLoopTest fr s
  | .unknownCommand cmd fr => Sys2Proof.Machine.execUnknownCommand cmd fr s
  | .applicationCommand cmd fr => Sys2Proof.Machine.execApplicationCommand cmd fr s
  | .loopAppReply b => Sys2Proof.Machine.execLoopAppReply b s
  | .appReplyTimeout radio => Sys2Proof.Machine.execAppReplyTimeout radio s
  | .loopReplySend => Sys2Proof.Machine.execLoopReplySend s
  | .loopCollision => Sys2Proof.Machine.execLoopCollision s
  | .loopFixTimeout => Sys2Proof.Machine.execLoopFixTimeout s
  | .hostSelect dbg => Sys2Proof.Machine.execHostSelect dbg s
  | .hostRead dbg h got => Sys2Proof.Machine.execHostRead dbg h got s
  | .hostWrite dbg h rx trailer => Sys2Proof.Machine.execHostWrite dbg h rx trailer s
  | .hostNop dbg op => Sys2Proof.Machine.execHostNop dbg op s
  | .hostDeselect => Sys2Proof.Machine.execHostDeselect s
  | .radioPhrError len modeSwitch => Sys2Proof.Machine.execRadioPhrError len modeSwitch s
  | .scanDwell => Sys2Proof.Machine.execScanDwell s
  | .ebReceived eb => Sys2Proof.Machine.execEbReceived eb s
  | .joinResp x h j => Sys2Proof.Machine.execJoinResp x h j s
  | .joinTimeout => Sys2Proof.Machine.execJoinTimeout s
  | .joinBackoffEnd => Sys2Proof.Machine.execJoinBackoffEnd s
  | .leaseRenewDue => Sys2Proof.Machine.execLeaseRenewDue s
  | .leaseResp x h lease => Sys2Proof.Machine.execLeaseResp x h lease s
  | .leaseExpiry => Sys2Proof.Machine.execLeaseExpiry s
  | .leave x h hold => Sys2Proof.Machine.execLeave x h hold s
  | .leaveHoldEnd => Sys2Proof.Machine.execLeaveHoldEnd s
  | .schedule x h asn changes => Sys2Proof.Machine.execSchedule x h asn changes s
  | .timeslotStart asn busy res sync => Sys2Proof.Machine.execTimeslotStart asn busy res sync s
  | .keepAlive => Sys2Proof.Machine.execKeepAlive s
  | .syncTimeout => Sys2Proof.Machine.execSyncTimeout s
  | .reportDue => Sys2Proof.Machine.execReportDue s
  | .alarmAck x h code => Sys2Proof.Machine.execAlarmAck x h code s
  | .command x h start xs => Sys2Proof.Machine.execCommand x h start xs s
  | .timeMessage x h asn tm start => Sys2Proof.Machine.execTimeMessage x h asn tm start s
  | .quiet x h q len => Sys2Proof.Machine.execQuiet x h q len s
  | .quietStart asn => Sys2Proof.Machine.execQuietStart asn s
  | .quietEnd asn => Sys2Proof.Machine.execQuietEnd asn s
  | .rekey x h idx wrapped asn => Sys2Proof.Machine.execRekey x h idx wrapped asn s
  | .keySwitch asn => Sys2Proof.Machine.execKeySwitch asn s
  | .keyPrevErase => Sys2Proof.Machine.execKeyPrevErase s
  | .appUp b => Sys2Proof.Machine.execAppUp b s
  | .wakeAnswer word asn => Sys2Proof.Machine.execWakeAnswer word asn s
  | .wakeResync word => Sys2Proof.Machine.execWakeResync word s
  | .wakeReport word => Sys2Proof.Machine.execWakeReport word s
  | .wakeListen word => Sys2Proof.Machine.execWakeListen word s
  | .wakeAwakeEnd => Sys2Proof.Machine.execWakeAwakeEnd s
  | .labelWriteDone o => Sys2Proof.Machine.execLabelWriteDone o s
  | .keywaitTimeout => Sys2Proof.Machine.execKeywaitTimeout s
  | .labelClaim m w => Sys2Proof.Machine.execLabelClaim m w s
  | .bistSlice => Sys2Proof.Machine.execBistSlice s
  | .bistSliceDone o => Sys2Proof.Machine.execBistSliceDone o s
  | .isolatedTestDone o => Sys2Proof.Machine.execIsolatedTestDone o s
  | .qualification item o => Sys2Proof.Machine.execQualification item o s
  | .bistRunCmd m w => Sys2Proof.Machine.execBistRunCmd m w s
  | .loopReturnConfirm fb => Sys2Proof.Machine.execLoopReturnConfirm fb s
  | .slackPoolRecovered vpool => Sys2Proof.Machine.execSlackPoolRecovered vpool s
  | .slackGapEnd => Sys2Proof.Machine.execSlackGapEnd s
  | .aonDomainLoss => Sys2Proof.Machine.execAonDomainLoss s
  | .wakeWordRejected word => Sys2Proof.Machine.execWakeWordRejected word s
  | .riosteyUnknownType x ty h => Sys2Proof.Machine.execRiosteyUnknownType x ty h s
  | .dclkIdleTimeout => Sys2Proof.Machine.execDclkIdleTimeout s
  | .timerCountEdge n => Sys2Proof.Machine.execTimerCountEdge n s

end Sys2Proof.Machine
end

