-- ==== Sys2Proof/Machine/Step.lean ====
section
/-!
DEFINITION. One step of the block: the command at the front of the queue, or one LF tick where none waits.
-/
namespace Sys2Proof.Machine

/-- Take the command at the front and run it; on an empty queue the block idles for one LF tick (DESIGN CHOICE, log 3). -/
def step (s : State) : Host.Outcome State Fault Refusal :=
  match s.pending with
  | [] => act s Dev.idle
  | c :: rest => exec c ⟨rest, s.dev⟩

/-- The state with the command that the word spells at the front of its queue; no word spells one (log 4). -/
def State.withFetchWord (s : State) (nbits w : Nat) : State :=
  match Sys2Proof.decodeTableWord nbits w with
  | some c => ⟨c :: s.pending, s.dev⟩
  | none => s

end Sys2Proof.Machine
end

