-- ==== Sys2Proof/Laws/Bits.lean ====
section
/-!
SUPPORT. The laws of bit fields: a field that was written reads back, reduced to its width; every other field stays.
-/
namespace Sys2Proof.Machine

theorem toNat_maskOf_testBit (hi lo i : Nat) (h : hi < 72) : (maskOf hi lo).getLsbD i = decide (lo ≤ i ∧ i ≤ hi) := by
  unfold maskOf
  rw [BitVec.getLsbD_ofNat]
  by_cases hl : lo ≤ i
  · by_cases hu : i ≤ hi
    · have h1 : i < 72 := by omega
      have h2 : i - lo < hi + 1 - lo := by omega
      simp [hl, hu, h1, Nat.testBit_shiftLeft, Nat.testBit_two_pow_sub_one, h2]
    · have h2 : ¬ i - lo < hi + 1 - lo := by omega
      simp [hu, Nat.testBit_shiftLeft, Nat.testBit_two_pow_sub_one, h2]
  · simp [hl, Nat.testBit_shiftLeft]

theorem getLsbD_placed (hi lo v i : Nat) (h : hi < 72) :
    (placed hi lo v).getLsbD i = (decide (lo ≤ i ∧ i ≤ hi) && v.testBit (i - lo)) := by
  unfold placed
  rw [BitVec.getLsbD_ofNat]
  by_cases hl : lo ≤ i
  · by_cases hu : i ≤ hi
    · have h1 : i < 72 := by omega
      have h2 : i - lo < hi + 1 - lo := by omega
      simp [hl, hu, h1, Nat.testBit_shiftLeft, Nat.testBit_mod_two_pow, h2]
    · have h2 : ¬ i - lo < hi + 1 - lo := by omega
      simp [hu, Nat.testBit_shiftLeft, Nat.testBit_mod_two_pow, h2]
  · simp [hl, Nat.testBit_shiftLeft]

theorem getLsbD_withBits (w : Word) (hi lo v i : Nat) (h : hi < 72) :
    (withBits w hi lo v).getLsbD i = if lo ≤ i ∧ i ≤ hi then v.testBit (i - lo) else w.getLsbD i := by
  unfold withBits
  rw [BitVec.getLsbD_or, BitVec.getLsbD_and, BitVec.getLsbD_not, toNat_maskOf_testBit _ _ _ h, getLsbD_placed _ _ _ _ h]
  by_cases hi' : i < 72
  · by_cases hc : lo ≤ i ∧ i ≤ hi <;> simp [hc, hi']
  · have : ¬ (lo ≤ i ∧ i ≤ hi) := by omega
    simp [this, hi', BitVec.getLsbD_of_ge w i (by omega)]

theorem testBit_bitsOf (w : Word) (hi lo i : Nat) :
    (bitsOf w hi lo).testBit i = (decide (i < hi + 1 - lo) && w.getLsbD (lo + i)) := by
  simp [bitsOf, Nat.testBit_mod_two_pow, Nat.testBit_shiftRight, BitVec.getLsbD]

/-- A written field reads back. -/
theorem bitsOf_withBits_self (w : Word) (hi lo v : Nat) (h : hi < 72) :
    bitsOf (withBits w hi lo v) hi lo = v % 2 ^ (hi + 1 - lo) := by
  apply Nat.eq_of_testBit_eq
  intro i
  rw [testBit_bitsOf, getLsbD_withBits _ _ _ _ _ h, Nat.testBit_mod_two_pow]
  by_cases hi' : i < hi + 1 - lo
  · have : lo ≤ lo + i ∧ lo + i ≤ hi := by omega
    simp [hi', this]
  · simp [hi']

/-- Fields that do not meet. -/
theorem bitsOf_withBits_ne (w : Word) (hi lo v hi' lo' : Nat) (h : hi < 72) (hd : hi' < lo ∨ hi < lo') :
    bitsOf (withBits w hi lo v) hi' lo' = bitsOf w hi' lo' := by
  apply Nat.eq_of_testBit_eq
  intro i
  rw [testBit_bitsOf, testBit_bitsOf, getLsbD_withBits _ _ _ _ _ h]
  by_cases hi' : i < hi' + 1 - lo'
  · have : ¬ (lo ≤ lo' + i ∧ lo' + i ≤ hi) := by omega
    simp [this]
  · simp [hi']

/-- Writing what stands there changes nothing. -/
theorem withBits_bitsOf (w : Word) (hi lo : Nat) (h : hi < 72) : withBits w hi lo (bitsOf w hi lo) = w := by
  apply BitVec.eq_of_getLsbD_eq
  intro i _
  rw [getLsbD_withBits _ _ _ _ _ h]
  split
  · next hc =>
    rw [testBit_bitsOf]
    have h1 : i - lo < hi + 1 - lo := by omega
    have h2 : lo + (i - lo) = i := by omega
    simp [h1, h2]
  · rfl

theorem bitsOf_lt (w : Word) (hi lo : Nat) : bitsOf w hi lo < 2 ^ (hi + 1 - lo) := Nat.mod_lt _ (Nat.two_pow_pos _)

@[simp] theorem bitsOf_zero (hi lo : Nat) : bitsOf 0 hi lo = 0 := by simp [bitsOf]

/-! ## Masks -/

theorem getLsbD_mergeMask (w mask v : Word) (i : Nat) :
    (mergeMask w mask v).getLsbD i = if mask.getLsbD i then v.getLsbD i else w.getLsbD i := by
  unfold mergeMask
  rw [BitVec.getLsbD_or, BitVec.getLsbD_and, BitVec.getLsbD_and, BitVec.getLsbD_not]
  by_cases hi : i < 72
  · cases h : mask.getLsbD i <;> simp [hi]
  · simp [BitVec.getLsbD_of_ge _ i (Nat.le_of_not_lt hi)]

@[simp] theorem mergeMask_zero (w v : Word) : mergeMask w 0 v = w := by
  apply BitVec.eq_of_getLsbD_eq
  intro i _
  rw [getLsbD_mergeMask]
  simp

@[simp] theorem mergeMask_ones (w v : Word) : mergeMask w (BitVec.allOnes 72) v = v := by
  apply BitVec.eq_of_getLsbD_eq
  intro i hi
  rw [getLsbD_mergeMask, BitVec.getLsbD_allOnes]
  simp [hi]

end Sys2Proof.Machine
end

