-- ==== Sys2Proof/Laws/State.lean ====
section
/-!
SUPPORT. What each named update of the state changes and leaves alone: one lemma per field per update, true by rfl.
-/
namespace Sys2Proof.Machine

variable (d : Dev)

@[simp] theorem Dev.onRegs_regs (f) : (d.onRegs f).regs = f d.regs := rfl
@[simp] theorem Dev.onRegs_shadow (f) : (d.onRegs f).shadow = d.shadow := rfl
@[simp] theorem Dev.onRegs_mem (f) : (d.onRegs f).mem = d.mem := rfl
@[simp] theorem Dev.onRegs_ecc (f) : (d.onRegs f).ecc = d.ecc := rfl
@[simp] theorem Dev.onRegs_orders (f) : (d.onRegs f).orders = d.orders := rfl
@[simp] theorem Dev.onRegs_sup (f) : (d.onRegs f).sup = d.sup := rfl
@[simp] theorem Dev.onRegs_slack (f) : (d.onRegs f).slack = d.slack := rfl
@[simp] theorem Dev.onRegs_clk (f) : (d.onRegs f).clk = d.clk := rfl
@[simp] theorem Dev.onRegs_tide (f) : (d.onRegs f).tide = d.tide := rfl
@[simp] theorem Dev.onRegs_tmr (f) : (d.onRegs f).tmr = d.tmr := rfl
@[simp] theorem Dev.onRegs_links (f) : (d.onRegs f).links = d.links := rfl
@[simp] theorem Dev.onRegs_seqPrev (f) : (d.onRegs f).seqPrev = d.seqPrev := rfl
@[simp] theorem Dev.onRegs_asleep (f) : (d.onRegs f).asleep = d.asleep := rfl
@[simp] theorem Dev.onRegs_revertDue (f) : (d.onRegs f).revertDue = d.revertDue := rfl
@[simp] theorem Dev.onRegs_held (f) : (d.onRegs f).held = d.held := rfl
@[simp] theorem Dev.onRegs_engC (f) : (d.onRegs f).engC = d.engC := rfl
@[simp] theorem Dev.onRegs_engL (f) : (d.onRegs f).engL = d.engL := rfl
@[simp] theorem Dev.onRegs_engR (f) : (d.onRegs f).engR = d.engR := rfl
@[simp] theorem Dev.onRegs_collarRun (f) : (d.onRegs f).collarRun = d.collarRun := rfl
@[simp] theorem Dev.onRegs_traceHeld (f) : (d.onRegs f).traceHeld = d.traceHeld := rfl
@[simp] theorem Dev.onRegs_traceN (f) : (d.onRegs f).traceN = d.traceN := rfl
@[simp] theorem Dev.onRegs_sleepTick (f) : (d.onRegs f).sleepTick = d.sleepTick := rfl
@[simp] theorem Dev.onRegs_tdcA (f) : (d.onRegs f).tdcA = d.tdcA := rfl
@[simp] theorem Dev.onRegs_tdcB (f) : (d.onRegs f).tdcB = d.tdcB := rfl
@[simp] theorem Dev.onRegs_usf (f) : (d.onRegs f).usf = d.usf := rfl
@[simp] theorem Dev.onRegs_adc (f) : (d.onRegs f).adc = d.adc := rfl
@[simp] theorem Dev.onRegs_nextId (f) : (d.onRegs f).nextId = d.nextId := rfl
@[simp] theorem Dev.onRegs_detect (f) : (d.onRegs f).detect = d.detect := rfl
@[simp] theorem Dev.onRegs_swapAcc (f) : (d.onRegs f).swapAcc = d.swapAcc := rfl
@[simp] theorem Dev.onRegs_met (f) : (d.onRegs f).met = d.met := rfl
@[simp] theorem Dev.onRegs_loop (f) : (d.onRegs f).loop = d.loop := rfl
@[simp] theorem Dev.onRegs_heldOrders (f) : (d.onRegs f).heldOrders = d.heldOrders := rfl
@[simp] theorem Dev.onRegs_pocket (f) : (d.onRegs f).pocket = d.pocket := rfl
@[simp] theorem Dev.onRegs_radio (f) : (d.onRegs f).radio = d.radio := rfl
@[simp] theorem Dev.onRegs_freeN (f) : (d.onRegs f).freeN = d.freeN := rfl
@[simp] theorem Dev.onRegs_col (f) : (d.onRegs f).col = d.col := rfl
@[simp] theorem Dev.onRegs_label (f) : (d.onRegs f).label = d.label := rfl
@[simp] theorem Dev.onRegs_bist (f) : (d.onRegs f).bist = d.bist := rfl
@[simp] theorem Dev.onRegs_pads (f) : (d.onRegs f).pads = d.pads := rfl
@[simp] theorem Dev.onRegs_port (f) : (d.onRegs f).port = d.port := rfl
@[simp] theorem Dev.onRegs_dport (f) : (d.onRegs f).dport = d.dport := rfl
@[simp] theorem Dev.onRegs_quiesce (f) : (d.onRegs f).quiesce = d.quiesce := rfl
@[simp] theorem Dev.onRegs_stepDue (f) : (d.onRegs f).stepDue = d.stepDue := rfl
@[simp] theorem Dev.onRegs_busHeld (f) : (d.onRegs f).busHeld = d.busHeld := rfl
@[simp] theorem Dev.onRegs_raised (f) : (d.onRegs f).raised = d.raised := rfl
@[simp] theorem Dev.onShadow_regs (f) : (d.onShadow f).regs = d.regs := rfl
@[simp] theorem Dev.onShadow_shadow (f) : (d.onShadow f).shadow = f d.shadow := rfl
@[simp] theorem Dev.onShadow_mem (f) : (d.onShadow f).mem = d.mem := rfl
@[simp] theorem Dev.onShadow_ecc (f) : (d.onShadow f).ecc = d.ecc := rfl
@[simp] theorem Dev.onShadow_orders (f) : (d.onShadow f).orders = d.orders := rfl
@[simp] theorem Dev.onShadow_sup (f) : (d.onShadow f).sup = d.sup := rfl
@[simp] theorem Dev.onShadow_slack (f) : (d.onShadow f).slack = d.slack := rfl
@[simp] theorem Dev.onShadow_clk (f) : (d.onShadow f).clk = d.clk := rfl
@[simp] theorem Dev.onShadow_tide (f) : (d.onShadow f).tide = d.tide := rfl
@[simp] theorem Dev.onShadow_tmr (f) : (d.onShadow f).tmr = d.tmr := rfl
@[simp] theorem Dev.onShadow_links (f) : (d.onShadow f).links = d.links := rfl
@[simp] theorem Dev.onShadow_seqPrev (f) : (d.onShadow f).seqPrev = d.seqPrev := rfl
@[simp] theorem Dev.onShadow_asleep (f) : (d.onShadow f).asleep = d.asleep := rfl
@[simp] theorem Dev.onShadow_revertDue (f) : (d.onShadow f).revertDue = d.revertDue := rfl
@[simp] theorem Dev.onShadow_held (f) : (d.onShadow f).held = d.held := rfl
@[simp] theorem Dev.onShadow_engC (f) : (d.onShadow f).engC = d.engC := rfl
@[simp] theorem Dev.onShadow_engL (f) : (d.onShadow f).engL = d.engL := rfl
@[simp] theorem Dev.onShadow_engR (f) : (d.onShadow f).engR = d.engR := rfl
@[simp] theorem Dev.onShadow_collarRun (f) : (d.onShadow f).collarRun = d.collarRun := rfl
@[simp] theorem Dev.onShadow_traceHeld (f) : (d.onShadow f).traceHeld = d.traceHeld := rfl
@[simp] theorem Dev.onShadow_traceN (f) : (d.onShadow f).traceN = d.traceN := rfl
@[simp] theorem Dev.onShadow_sleepTick (f) : (d.onShadow f).sleepTick = d.sleepTick := rfl
@[simp] theorem Dev.onShadow_tdcA (f) : (d.onShadow f).tdcA = d.tdcA := rfl
@[simp] theorem Dev.onShadow_tdcB (f) : (d.onShadow f).tdcB = d.tdcB := rfl
@[simp] theorem Dev.onShadow_usf (f) : (d.onShadow f).usf = d.usf := rfl
@[simp] theorem Dev.onShadow_adc (f) : (d.onShadow f).adc = d.adc := rfl
@[simp] theorem Dev.onShadow_nextId (f) : (d.onShadow f).nextId = d.nextId := rfl
@[simp] theorem Dev.onShadow_detect (f) : (d.onShadow f).detect = d.detect := rfl
@[simp] theorem Dev.onShadow_swapAcc (f) : (d.onShadow f).swapAcc = d.swapAcc := rfl
@[simp] theorem Dev.onShadow_met (f) : (d.onShadow f).met = d.met := rfl
@[simp] theorem Dev.onShadow_loop (f) : (d.onShadow f).loop = d.loop := rfl
@[simp] theorem Dev.onShadow_heldOrders (f) : (d.onShadow f).heldOrders = d.heldOrders := rfl
@[simp] theorem Dev.onShadow_pocket (f) : (d.onShadow f).pocket = d.pocket := rfl
@[simp] theorem Dev.onShadow_radio (f) : (d.onShadow f).radio = d.radio := rfl
@[simp] theorem Dev.onShadow_freeN (f) : (d.onShadow f).freeN = d.freeN := rfl
@[simp] theorem Dev.onShadow_col (f) : (d.onShadow f).col = d.col := rfl
@[simp] theorem Dev.onShadow_label (f) : (d.onShadow f).label = d.label := rfl
@[simp] theorem Dev.onShadow_bist (f) : (d.onShadow f).bist = d.bist := rfl
@[simp] theorem Dev.onShadow_pads (f) : (d.onShadow f).pads = d.pads := rfl
@[simp] theorem Dev.onShadow_port (f) : (d.onShadow f).port = d.port := rfl
@[simp] theorem Dev.onShadow_dport (f) : (d.onShadow f).dport = d.dport := rfl
@[simp] theorem Dev.onShadow_quiesce (f) : (d.onShadow f).quiesce = d.quiesce := rfl
@[simp] theorem Dev.onShadow_stepDue (f) : (d.onShadow f).stepDue = d.stepDue := rfl
@[simp] theorem Dev.onShadow_busHeld (f) : (d.onShadow f).busHeld = d.busHeld := rfl
@[simp] theorem Dev.onShadow_raised (f) : (d.onShadow f).raised = d.raised := rfl
@[simp] theorem Dev.onMem_regs (f) : (d.onMem f).regs = d.regs := rfl
@[simp] theorem Dev.onMem_shadow (f) : (d.onMem f).shadow = d.shadow := rfl
@[simp] theorem Dev.onMem_mem (f) : (d.onMem f).mem = f d.mem := rfl
@[simp] theorem Dev.onMem_ecc (f) : (d.onMem f).ecc = d.ecc := rfl
@[simp] theorem Dev.onMem_orders (f) : (d.onMem f).orders = d.orders := rfl
@[simp] theorem Dev.onMem_sup (f) : (d.onMem f).sup = d.sup := rfl
@[simp] theorem Dev.onMem_slack (f) : (d.onMem f).slack = d.slack := rfl
@[simp] theorem Dev.onMem_clk (f) : (d.onMem f).clk = d.clk := rfl
@[simp] theorem Dev.onMem_tide (f) : (d.onMem f).tide = d.tide := rfl
@[simp] theorem Dev.onMem_tmr (f) : (d.onMem f).tmr = d.tmr := rfl
@[simp] theorem Dev.onMem_links (f) : (d.onMem f).links = d.links := rfl
@[simp] theorem Dev.onMem_seqPrev (f) : (d.onMem f).seqPrev = d.seqPrev := rfl
@[simp] theorem Dev.onMem_asleep (f) : (d.onMem f).asleep = d.asleep := rfl
@[simp] theorem Dev.onMem_revertDue (f) : (d.onMem f).revertDue = d.revertDue := rfl
@[simp] theorem Dev.onMem_held (f) : (d.onMem f).held = d.held := rfl
@[simp] theorem Dev.onMem_engC (f) : (d.onMem f).engC = d.engC := rfl
@[simp] theorem Dev.onMem_engL (f) : (d.onMem f).engL = d.engL := rfl
@[simp] theorem Dev.onMem_engR (f) : (d.onMem f).engR = d.engR := rfl
@[simp] theorem Dev.onMem_collarRun (f) : (d.onMem f).collarRun = d.collarRun := rfl
@[simp] theorem Dev.onMem_traceHeld (f) : (d.onMem f).traceHeld = d.traceHeld := rfl
@[simp] theorem Dev.onMem_traceN (f) : (d.onMem f).traceN = d.traceN := rfl
@[simp] theorem Dev.onMem_sleepTick (f) : (d.onMem f).sleepTick = d.sleepTick := rfl
@[simp] theorem Dev.onMem_tdcA (f) : (d.onMem f).tdcA = d.tdcA := rfl
@[simp] theorem Dev.onMem_tdcB (f) : (d.onMem f).tdcB = d.tdcB := rfl
@[simp] theorem Dev.onMem_usf (f) : (d.onMem f).usf = d.usf := rfl
@[simp] theorem Dev.onMem_adc (f) : (d.onMem f).adc = d.adc := rfl
@[simp] theorem Dev.onMem_nextId (f) : (d.onMem f).nextId = d.nextId := rfl
@[simp] theorem Dev.onMem_detect (f) : (d.onMem f).detect = d.detect := rfl
@[simp] theorem Dev.onMem_swapAcc (f) : (d.onMem f).swapAcc = d.swapAcc := rfl
@[simp] theorem Dev.onMem_met (f) : (d.onMem f).met = d.met := rfl
@[simp] theorem Dev.onMem_loop (f) : (d.onMem f).loop = d.loop := rfl
@[simp] theorem Dev.onMem_heldOrders (f) : (d.onMem f).heldOrders = d.heldOrders := rfl
@[simp] theorem Dev.onMem_pocket (f) : (d.onMem f).pocket = d.pocket := rfl
@[simp] theorem Dev.onMem_radio (f) : (d.onMem f).radio = d.radio := rfl
@[simp] theorem Dev.onMem_freeN (f) : (d.onMem f).freeN = d.freeN := rfl
@[simp] theorem Dev.onMem_col (f) : (d.onMem f).col = d.col := rfl
@[simp] theorem Dev.onMem_label (f) : (d.onMem f).label = d.label := rfl
@[simp] theorem Dev.onMem_bist (f) : (d.onMem f).bist = d.bist := rfl
@[simp] theorem Dev.onMem_pads (f) : (d.onMem f).pads = d.pads := rfl
@[simp] theorem Dev.onMem_port (f) : (d.onMem f).port = d.port := rfl
@[simp] theorem Dev.onMem_dport (f) : (d.onMem f).dport = d.dport := rfl
@[simp] theorem Dev.onMem_quiesce (f) : (d.onMem f).quiesce = d.quiesce := rfl
@[simp] theorem Dev.onMem_stepDue (f) : (d.onMem f).stepDue = d.stepDue := rfl
@[simp] theorem Dev.onMem_busHeld (f) : (d.onMem f).busHeld = d.busHeld := rfl
@[simp] theorem Dev.onMem_raised (f) : (d.onMem f).raised = d.raised := rfl
@[simp] theorem Dev.onEcc_regs (f) : (d.onEcc f).regs = d.regs := rfl
@[simp] theorem Dev.onEcc_shadow (f) : (d.onEcc f).shadow = d.shadow := rfl
@[simp] theorem Dev.onEcc_mem (f) : (d.onEcc f).mem = d.mem := rfl
@[simp] theorem Dev.onEcc_ecc (f) : (d.onEcc f).ecc = f d.ecc := rfl
@[simp] theorem Dev.onEcc_orders (f) : (d.onEcc f).orders = d.orders := rfl
@[simp] theorem Dev.onEcc_sup (f) : (d.onEcc f).sup = d.sup := rfl
@[simp] theorem Dev.onEcc_slack (f) : (d.onEcc f).slack = d.slack := rfl
@[simp] theorem Dev.onEcc_clk (f) : (d.onEcc f).clk = d.clk := rfl
@[simp] theorem Dev.onEcc_tide (f) : (d.onEcc f).tide = d.tide := rfl
@[simp] theorem Dev.onEcc_tmr (f) : (d.onEcc f).tmr = d.tmr := rfl
@[simp] theorem Dev.onEcc_links (f) : (d.onEcc f).links = d.links := rfl
@[simp] theorem Dev.onEcc_seqPrev (f) : (d.onEcc f).seqPrev = d.seqPrev := rfl
@[simp] theorem Dev.onEcc_asleep (f) : (d.onEcc f).asleep = d.asleep := rfl
@[simp] theorem Dev.onEcc_revertDue (f) : (d.onEcc f).revertDue = d.revertDue := rfl
@[simp] theorem Dev.onEcc_held (f) : (d.onEcc f).held = d.held := rfl
@[simp] theorem Dev.onEcc_engC (f) : (d.onEcc f).engC = d.engC := rfl
@[simp] theorem Dev.onEcc_engL (f) : (d.onEcc f).engL = d.engL := rfl
@[simp] theorem Dev.onEcc_engR (f) : (d.onEcc f).engR = d.engR := rfl
@[simp] theorem Dev.onEcc_collarRun (f) : (d.onEcc f).collarRun = d.collarRun := rfl
@[simp] theorem Dev.onEcc_traceHeld (f) : (d.onEcc f).traceHeld = d.traceHeld := rfl
@[simp] theorem Dev.onEcc_traceN (f) : (d.onEcc f).traceN = d.traceN := rfl
@[simp] theorem Dev.onEcc_sleepTick (f) : (d.onEcc f).sleepTick = d.sleepTick := rfl
@[simp] theorem Dev.onEcc_tdcA (f) : (d.onEcc f).tdcA = d.tdcA := rfl
@[simp] theorem Dev.onEcc_tdcB (f) : (d.onEcc f).tdcB = d.tdcB := rfl
@[simp] theorem Dev.onEcc_usf (f) : (d.onEcc f).usf = d.usf := rfl
@[simp] theorem Dev.onEcc_adc (f) : (d.onEcc f).adc = d.adc := rfl
@[simp] theorem Dev.onEcc_nextId (f) : (d.onEcc f).nextId = d.nextId := rfl
@[simp] theorem Dev.onEcc_detect (f) : (d.onEcc f).detect = d.detect := rfl
@[simp] theorem Dev.onEcc_swapAcc (f) : (d.onEcc f).swapAcc = d.swapAcc := rfl
@[simp] theorem Dev.onEcc_met (f) : (d.onEcc f).met = d.met := rfl
@[simp] theorem Dev.onEcc_loop (f) : (d.onEcc f).loop = d.loop := rfl
@[simp] theorem Dev.onEcc_heldOrders (f) : (d.onEcc f).heldOrders = d.heldOrders := rfl
@[simp] theorem Dev.onEcc_pocket (f) : (d.onEcc f).pocket = d.pocket := rfl
@[simp] theorem Dev.onEcc_radio (f) : (d.onEcc f).radio = d.radio := rfl
@[simp] theorem Dev.onEcc_freeN (f) : (d.onEcc f).freeN = d.freeN := rfl
@[simp] theorem Dev.onEcc_col (f) : (d.onEcc f).col = d.col := rfl
@[simp] theorem Dev.onEcc_label (f) : (d.onEcc f).label = d.label := rfl
@[simp] theorem Dev.onEcc_bist (f) : (d.onEcc f).bist = d.bist := rfl
@[simp] theorem Dev.onEcc_pads (f) : (d.onEcc f).pads = d.pads := rfl
@[simp] theorem Dev.onEcc_port (f) : (d.onEcc f).port = d.port := rfl
@[simp] theorem Dev.onEcc_dport (f) : (d.onEcc f).dport = d.dport := rfl
@[simp] theorem Dev.onEcc_quiesce (f) : (d.onEcc f).quiesce = d.quiesce := rfl
@[simp] theorem Dev.onEcc_stepDue (f) : (d.onEcc f).stepDue = d.stepDue := rfl
@[simp] theorem Dev.onEcc_busHeld (f) : (d.onEcc f).busHeld = d.busHeld := rfl
@[simp] theorem Dev.onEcc_raised (f) : (d.onEcc f).raised = d.raised := rfl
@[simp] theorem Dev.onOrders_regs (f) : (d.onOrders f).regs = d.regs := rfl
@[simp] theorem Dev.onOrders_shadow (f) : (d.onOrders f).shadow = d.shadow := rfl
@[simp] theorem Dev.onOrders_mem (f) : (d.onOrders f).mem = d.mem := rfl
@[simp] theorem Dev.onOrders_ecc (f) : (d.onOrders f).ecc = d.ecc := rfl
@[simp] theorem Dev.onOrders_orders (f) : (d.onOrders f).orders = f d.orders := rfl
@[simp] theorem Dev.onOrders_sup (f) : (d.onOrders f).sup = d.sup := rfl
@[simp] theorem Dev.onOrders_slack (f) : (d.onOrders f).slack = d.slack := rfl
@[simp] theorem Dev.onOrders_clk (f) : (d.onOrders f).clk = d.clk := rfl
@[simp] theorem Dev.onOrders_tide (f) : (d.onOrders f).tide = d.tide := rfl
@[simp] theorem Dev.onOrders_tmr (f) : (d.onOrders f).tmr = d.tmr := rfl
@[simp] theorem Dev.onOrders_links (f) : (d.onOrders f).links = d.links := rfl
@[simp] theorem Dev.onOrders_seqPrev (f) : (d.onOrders f).seqPrev = d.seqPrev := rfl
@[simp] theorem Dev.onOrders_asleep (f) : (d.onOrders f).asleep = d.asleep := rfl
@[simp] theorem Dev.onOrders_revertDue (f) : (d.onOrders f).revertDue = d.revertDue := rfl
@[simp] theorem Dev.onOrders_held (f) : (d.onOrders f).held = d.held := rfl
@[simp] theorem Dev.onOrders_engC (f) : (d.onOrders f).engC = d.engC := rfl
@[simp] theorem Dev.onOrders_engL (f) : (d.onOrders f).engL = d.engL := rfl
@[simp] theorem Dev.onOrders_engR (f) : (d.onOrders f).engR = d.engR := rfl
@[simp] theorem Dev.onOrders_collarRun (f) : (d.onOrders f).collarRun = d.collarRun := rfl
@[simp] theorem Dev.onOrders_traceHeld (f) : (d.onOrders f).traceHeld = d.traceHeld := rfl
@[simp] theorem Dev.onOrders_traceN (f) : (d.onOrders f).traceN = d.traceN := rfl
@[simp] theorem Dev.onOrders_sleepTick (f) : (d.onOrders f).sleepTick = d.sleepTick := rfl
@[simp] theorem Dev.onOrders_tdcA (f) : (d.onOrders f).tdcA = d.tdcA := rfl
@[simp] theorem Dev.onOrders_tdcB (f) : (d.onOrders f).tdcB = d.tdcB := rfl
@[simp] theorem Dev.onOrders_usf (f) : (d.onOrders f).usf = d.usf := rfl
@[simp] theorem Dev.onOrders_adc (f) : (d.onOrders f).adc = d.adc := rfl
@[simp] theorem Dev.onOrders_nextId (f) : (d.onOrders f).nextId = d.nextId := rfl
@[simp] theorem Dev.onOrders_detect (f) : (d.onOrders f).detect = d.detect := rfl
@[simp] theorem Dev.onOrders_swapAcc (f) : (d.onOrders f).swapAcc = d.swapAcc := rfl
@[simp] theorem Dev.onOrders_met (f) : (d.onOrders f).met = d.met := rfl
@[simp] theorem Dev.onOrders_loop (f) : (d.onOrders f).loop = d.loop := rfl
@[simp] theorem Dev.onOrders_heldOrders (f) : (d.onOrders f).heldOrders = d.heldOrders := rfl
@[simp] theorem Dev.onOrders_pocket (f) : (d.onOrders f).pocket = d.pocket := rfl
@[simp] theorem Dev.onOrders_radio (f) : (d.onOrders f).radio = d.radio := rfl
@[simp] theorem Dev.onOrders_freeN (f) : (d.onOrders f).freeN = d.freeN := rfl
@[simp] theorem Dev.onOrders_col (f) : (d.onOrders f).col = d.col := rfl
@[simp] theorem Dev.onOrders_label (f) : (d.onOrders f).label = d.label := rfl
@[simp] theorem Dev.onOrders_bist (f) : (d.onOrders f).bist = d.bist := rfl
@[simp] theorem Dev.onOrders_pads (f) : (d.onOrders f).pads = d.pads := rfl
@[simp] theorem Dev.onOrders_port (f) : (d.onOrders f).port = d.port := rfl
@[simp] theorem Dev.onOrders_dport (f) : (d.onOrders f).dport = d.dport := rfl
@[simp] theorem Dev.onOrders_quiesce (f) : (d.onOrders f).quiesce = d.quiesce := rfl
@[simp] theorem Dev.onOrders_stepDue (f) : (d.onOrders f).stepDue = d.stepDue := rfl
@[simp] theorem Dev.onOrders_busHeld (f) : (d.onOrders f).busHeld = d.busHeld := rfl
@[simp] theorem Dev.onOrders_raised (f) : (d.onOrders f).raised = d.raised := rfl
@[simp] theorem Dev.onSup_regs (f) : (d.onSup f).regs = d.regs := rfl
@[simp] theorem Dev.onSup_shadow (f) : (d.onSup f).shadow = d.shadow := rfl
@[simp] theorem Dev.onSup_mem (f) : (d.onSup f).mem = d.mem := rfl
@[simp] theorem Dev.onSup_ecc (f) : (d.onSup f).ecc = d.ecc := rfl
@[simp] theorem Dev.onSup_orders (f) : (d.onSup f).orders = d.orders := rfl
@[simp] theorem Dev.onSup_sup (f) : (d.onSup f).sup = f d.sup := rfl
@[simp] theorem Dev.onSup_slack (f) : (d.onSup f).slack = d.slack := rfl
@[simp] theorem Dev.onSup_clk (f) : (d.onSup f).clk = d.clk := rfl
@[simp] theorem Dev.onSup_tide (f) : (d.onSup f).tide = d.tide := rfl
@[simp] theorem Dev.onSup_tmr (f) : (d.onSup f).tmr = d.tmr := rfl
@[simp] theorem Dev.onSup_links (f) : (d.onSup f).links = d.links := rfl
@[simp] theorem Dev.onSup_seqPrev (f) : (d.onSup f).seqPrev = d.seqPrev := rfl
@[simp] theorem Dev.onSup_asleep (f) : (d.onSup f).asleep = d.asleep := rfl
@[simp] theorem Dev.onSup_revertDue (f) : (d.onSup f).revertDue = d.revertDue := rfl
@[simp] theorem Dev.onSup_held (f) : (d.onSup f).held = d.held := rfl
@[simp] theorem Dev.onSup_engC (f) : (d.onSup f).engC = d.engC := rfl
@[simp] theorem Dev.onSup_engL (f) : (d.onSup f).engL = d.engL := rfl
@[simp] theorem Dev.onSup_engR (f) : (d.onSup f).engR = d.engR := rfl
@[simp] theorem Dev.onSup_collarRun (f) : (d.onSup f).collarRun = d.collarRun := rfl
@[simp] theorem Dev.onSup_traceHeld (f) : (d.onSup f).traceHeld = d.traceHeld := rfl
@[simp] theorem Dev.onSup_traceN (f) : (d.onSup f).traceN = d.traceN := rfl
@[simp] theorem Dev.onSup_sleepTick (f) : (d.onSup f).sleepTick = d.sleepTick := rfl
@[simp] theorem Dev.onSup_tdcA (f) : (d.onSup f).tdcA = d.tdcA := rfl
@[simp] theorem Dev.onSup_tdcB (f) : (d.onSup f).tdcB = d.tdcB := rfl
@[simp] theorem Dev.onSup_usf (f) : (d.onSup f).usf = d.usf := rfl
@[simp] theorem Dev.onSup_adc (f) : (d.onSup f).adc = d.adc := rfl
@[simp] theorem Dev.onSup_nextId (f) : (d.onSup f).nextId = d.nextId := rfl
@[simp] theorem Dev.onSup_detect (f) : (d.onSup f).detect = d.detect := rfl
@[simp] theorem Dev.onSup_swapAcc (f) : (d.onSup f).swapAcc = d.swapAcc := rfl
@[simp] theorem Dev.onSup_met (f) : (d.onSup f).met = d.met := rfl
@[simp] theorem Dev.onSup_loop (f) : (d.onSup f).loop = d.loop := rfl
@[simp] theorem Dev.onSup_heldOrders (f) : (d.onSup f).heldOrders = d.heldOrders := rfl
@[simp] theorem Dev.onSup_pocket (f) : (d.onSup f).pocket = d.pocket := rfl
@[simp] theorem Dev.onSup_radio (f) : (d.onSup f).radio = d.radio := rfl
@[simp] theorem Dev.onSup_freeN (f) : (d.onSup f).freeN = d.freeN := rfl
@[simp] theorem Dev.onSup_col (f) : (d.onSup f).col = d.col := rfl
@[simp] theorem Dev.onSup_label (f) : (d.onSup f).label = d.label := rfl
@[simp] theorem Dev.onSup_bist (f) : (d.onSup f).bist = d.bist := rfl
@[simp] theorem Dev.onSup_pads (f) : (d.onSup f).pads = d.pads := rfl
@[simp] theorem Dev.onSup_port (f) : (d.onSup f).port = d.port := rfl
@[simp] theorem Dev.onSup_dport (f) : (d.onSup f).dport = d.dport := rfl
@[simp] theorem Dev.onSup_quiesce (f) : (d.onSup f).quiesce = d.quiesce := rfl
@[simp] theorem Dev.onSup_stepDue (f) : (d.onSup f).stepDue = d.stepDue := rfl
@[simp] theorem Dev.onSup_busHeld (f) : (d.onSup f).busHeld = d.busHeld := rfl
@[simp] theorem Dev.onSup_raised (f) : (d.onSup f).raised = d.raised := rfl
@[simp] theorem Dev.onSlack_regs (f) : (d.onSlack f).regs = d.regs := rfl
@[simp] theorem Dev.onSlack_shadow (f) : (d.onSlack f).shadow = d.shadow := rfl
@[simp] theorem Dev.onSlack_mem (f) : (d.onSlack f).mem = d.mem := rfl
@[simp] theorem Dev.onSlack_ecc (f) : (d.onSlack f).ecc = d.ecc := rfl
@[simp] theorem Dev.onSlack_orders (f) : (d.onSlack f).orders = d.orders := rfl
@[simp] theorem Dev.onSlack_sup (f) : (d.onSlack f).sup = d.sup := rfl
@[simp] theorem Dev.onSlack_slack (f) : (d.onSlack f).slack = f d.slack := rfl
@[simp] theorem Dev.onSlack_clk (f) : (d.onSlack f).clk = d.clk := rfl
@[simp] theorem Dev.onSlack_tide (f) : (d.onSlack f).tide = d.tide := rfl
@[simp] theorem Dev.onSlack_tmr (f) : (d.onSlack f).tmr = d.tmr := rfl
@[simp] theorem Dev.onSlack_links (f) : (d.onSlack f).links = d.links := rfl
@[simp] theorem Dev.onSlack_seqPrev (f) : (d.onSlack f).seqPrev = d.seqPrev := rfl
@[simp] theorem Dev.onSlack_asleep (f) : (d.onSlack f).asleep = d.asleep := rfl
@[simp] theorem Dev.onSlack_revertDue (f) : (d.onSlack f).revertDue = d.revertDue := rfl
@[simp] theorem Dev.onSlack_held (f) : (d.onSlack f).held = d.held := rfl
@[simp] theorem Dev.onSlack_engC (f) : (d.onSlack f).engC = d.engC := rfl
@[simp] theorem Dev.onSlack_engL (f) : (d.onSlack f).engL = d.engL := rfl
@[simp] theorem Dev.onSlack_engR (f) : (d.onSlack f).engR = d.engR := rfl
@[simp] theorem Dev.onSlack_collarRun (f) : (d.onSlack f).collarRun = d.collarRun := rfl
@[simp] theorem Dev.onSlack_traceHeld (f) : (d.onSlack f).traceHeld = d.traceHeld := rfl
@[simp] theorem Dev.onSlack_traceN (f) : (d.onSlack f).traceN = d.traceN := rfl
@[simp] theorem Dev.onSlack_sleepTick (f) : (d.onSlack f).sleepTick = d.sleepTick := rfl
@[simp] theorem Dev.onSlack_tdcA (f) : (d.onSlack f).tdcA = d.tdcA := rfl
@[simp] theorem Dev.onSlack_tdcB (f) : (d.onSlack f).tdcB = d.tdcB := rfl
@[simp] theorem Dev.onSlack_usf (f) : (d.onSlack f).usf = d.usf := rfl
@[simp] theorem Dev.onSlack_adc (f) : (d.onSlack f).adc = d.adc := rfl
@[simp] theorem Dev.onSlack_nextId (f) : (d.onSlack f).nextId = d.nextId := rfl
@[simp] theorem Dev.onSlack_detect (f) : (d.onSlack f).detect = d.detect := rfl
@[simp] theorem Dev.onSlack_swapAcc (f) : (d.onSlack f).swapAcc = d.swapAcc := rfl
@[simp] theorem Dev.onSlack_met (f) : (d.onSlack f).met = d.met := rfl
@[simp] theorem Dev.onSlack_loop (f) : (d.onSlack f).loop = d.loop := rfl
@[simp] theorem Dev.onSlack_heldOrders (f) : (d.onSlack f).heldOrders = d.heldOrders := rfl
@[simp] theorem Dev.onSlack_pocket (f) : (d.onSlack f).pocket = d.pocket := rfl
@[simp] theorem Dev.onSlack_radio (f) : (d.onSlack f).radio = d.radio := rfl
@[simp] theorem Dev.onSlack_freeN (f) : (d.onSlack f).freeN = d.freeN := rfl
@[simp] theorem Dev.onSlack_col (f) : (d.onSlack f).col = d.col := rfl
@[simp] theorem Dev.onSlack_label (f) : (d.onSlack f).label = d.label := rfl
@[simp] theorem Dev.onSlack_bist (f) : (d.onSlack f).bist = d.bist := rfl
@[simp] theorem Dev.onSlack_pads (f) : (d.onSlack f).pads = d.pads := rfl
@[simp] theorem Dev.onSlack_port (f) : (d.onSlack f).port = d.port := rfl
@[simp] theorem Dev.onSlack_dport (f) : (d.onSlack f).dport = d.dport := rfl
@[simp] theorem Dev.onSlack_quiesce (f) : (d.onSlack f).quiesce = d.quiesce := rfl
@[simp] theorem Dev.onSlack_stepDue (f) : (d.onSlack f).stepDue = d.stepDue := rfl
@[simp] theorem Dev.onSlack_busHeld (f) : (d.onSlack f).busHeld = d.busHeld := rfl
@[simp] theorem Dev.onSlack_raised (f) : (d.onSlack f).raised = d.raised := rfl
@[simp] theorem Dev.onClk_regs (f) : (d.onClk f).regs = d.regs := rfl
@[simp] theorem Dev.onClk_shadow (f) : (d.onClk f).shadow = d.shadow := rfl
@[simp] theorem Dev.onClk_mem (f) : (d.onClk f).mem = d.mem := rfl
@[simp] theorem Dev.onClk_ecc (f) : (d.onClk f).ecc = d.ecc := rfl
@[simp] theorem Dev.onClk_orders (f) : (d.onClk f).orders = d.orders := rfl
@[simp] theorem Dev.onClk_sup (f) : (d.onClk f).sup = d.sup := rfl
@[simp] theorem Dev.onClk_slack (f) : (d.onClk f).slack = d.slack := rfl
@[simp] theorem Dev.onClk_clk (f) : (d.onClk f).clk = f d.clk := rfl
@[simp] theorem Dev.onClk_tide (f) : (d.onClk f).tide = d.tide := rfl
@[simp] theorem Dev.onClk_tmr (f) : (d.onClk f).tmr = d.tmr := rfl
@[simp] theorem Dev.onClk_links (f) : (d.onClk f).links = d.links := rfl
@[simp] theorem Dev.onClk_seqPrev (f) : (d.onClk f).seqPrev = d.seqPrev := rfl
@[simp] theorem Dev.onClk_asleep (f) : (d.onClk f).asleep = d.asleep := rfl
@[simp] theorem Dev.onClk_revertDue (f) : (d.onClk f).revertDue = d.revertDue := rfl
@[simp] theorem Dev.onClk_held (f) : (d.onClk f).held = d.held := rfl
@[simp] theorem Dev.onClk_engC (f) : (d.onClk f).engC = d.engC := rfl
@[simp] theorem Dev.onClk_engL (f) : (d.onClk f).engL = d.engL := rfl
@[simp] theorem Dev.onClk_engR (f) : (d.onClk f).engR = d.engR := rfl
@[simp] theorem Dev.onClk_collarRun (f) : (d.onClk f).collarRun = d.collarRun := rfl
@[simp] theorem Dev.onClk_traceHeld (f) : (d.onClk f).traceHeld = d.traceHeld := rfl
@[simp] theorem Dev.onClk_traceN (f) : (d.onClk f).traceN = d.traceN := rfl
@[simp] theorem Dev.onClk_sleepTick (f) : (d.onClk f).sleepTick = d.sleepTick := rfl
@[simp] theorem Dev.onClk_tdcA (f) : (d.onClk f).tdcA = d.tdcA := rfl
@[simp] theorem Dev.onClk_tdcB (f) : (d.onClk f).tdcB = d.tdcB := rfl
@[simp] theorem Dev.onClk_usf (f) : (d.onClk f).usf = d.usf := rfl
@[simp] theorem Dev.onClk_adc (f) : (d.onClk f).adc = d.adc := rfl
@[simp] theorem Dev.onClk_nextId (f) : (d.onClk f).nextId = d.nextId := rfl
@[simp] theorem Dev.onClk_detect (f) : (d.onClk f).detect = d.detect := rfl
@[simp] theorem Dev.onClk_swapAcc (f) : (d.onClk f).swapAcc = d.swapAcc := rfl
@[simp] theorem Dev.onClk_met (f) : (d.onClk f).met = d.met := rfl
@[simp] theorem Dev.onClk_loop (f) : (d.onClk f).loop = d.loop := rfl
@[simp] theorem Dev.onClk_heldOrders (f) : (d.onClk f).heldOrders = d.heldOrders := rfl
@[simp] theorem Dev.onClk_pocket (f) : (d.onClk f).pocket = d.pocket := rfl
@[simp] theorem Dev.onClk_radio (f) : (d.onClk f).radio = d.radio := rfl
@[simp] theorem Dev.onClk_freeN (f) : (d.onClk f).freeN = d.freeN := rfl
@[simp] theorem Dev.onClk_col (f) : (d.onClk f).col = d.col := rfl
@[simp] theorem Dev.onClk_label (f) : (d.onClk f).label = d.label := rfl
@[simp] theorem Dev.onClk_bist (f) : (d.onClk f).bist = d.bist := rfl
@[simp] theorem Dev.onClk_pads (f) : (d.onClk f).pads = d.pads := rfl
@[simp] theorem Dev.onClk_port (f) : (d.onClk f).port = d.port := rfl
@[simp] theorem Dev.onClk_dport (f) : (d.onClk f).dport = d.dport := rfl
@[simp] theorem Dev.onClk_quiesce (f) : (d.onClk f).quiesce = d.quiesce := rfl
@[simp] theorem Dev.onClk_stepDue (f) : (d.onClk f).stepDue = d.stepDue := rfl
@[simp] theorem Dev.onClk_busHeld (f) : (d.onClk f).busHeld = d.busHeld := rfl
@[simp] theorem Dev.onClk_raised (f) : (d.onClk f).raised = d.raised := rfl
@[simp] theorem Dev.onTide_regs (f) : (d.onTide f).regs = d.regs := rfl
@[simp] theorem Dev.onTide_shadow (f) : (d.onTide f).shadow = d.shadow := rfl
@[simp] theorem Dev.onTide_mem (f) : (d.onTide f).mem = d.mem := rfl
@[simp] theorem Dev.onTide_ecc (f) : (d.onTide f).ecc = d.ecc := rfl
@[simp] theorem Dev.onTide_orders (f) : (d.onTide f).orders = d.orders := rfl
@[simp] theorem Dev.onTide_sup (f) : (d.onTide f).sup = d.sup := rfl
@[simp] theorem Dev.onTide_slack (f) : (d.onTide f).slack = d.slack := rfl
@[simp] theorem Dev.onTide_clk (f) : (d.onTide f).clk = d.clk := rfl
@[simp] theorem Dev.onTide_tide (f) : (d.onTide f).tide = f d.tide := rfl
@[simp] theorem Dev.onTide_tmr (f) : (d.onTide f).tmr = d.tmr := rfl
@[simp] theorem Dev.onTide_links (f) : (d.onTide f).links = d.links := rfl
@[simp] theorem Dev.onTide_seqPrev (f) : (d.onTide f).seqPrev = d.seqPrev := rfl
@[simp] theorem Dev.onTide_asleep (f) : (d.onTide f).asleep = d.asleep := rfl
@[simp] theorem Dev.onTide_revertDue (f) : (d.onTide f).revertDue = d.revertDue := rfl
@[simp] theorem Dev.onTide_held (f) : (d.onTide f).held = d.held := rfl
@[simp] theorem Dev.onTide_engC (f) : (d.onTide f).engC = d.engC := rfl
@[simp] theorem Dev.onTide_engL (f) : (d.onTide f).engL = d.engL := rfl
@[simp] theorem Dev.onTide_engR (f) : (d.onTide f).engR = d.engR := rfl
@[simp] theorem Dev.onTide_collarRun (f) : (d.onTide f).collarRun = d.collarRun := rfl
@[simp] theorem Dev.onTide_traceHeld (f) : (d.onTide f).traceHeld = d.traceHeld := rfl
@[simp] theorem Dev.onTide_traceN (f) : (d.onTide f).traceN = d.traceN := rfl
@[simp] theorem Dev.onTide_sleepTick (f) : (d.onTide f).sleepTick = d.sleepTick := rfl
@[simp] theorem Dev.onTide_tdcA (f) : (d.onTide f).tdcA = d.tdcA := rfl
@[simp] theorem Dev.onTide_tdcB (f) : (d.onTide f).tdcB = d.tdcB := rfl
@[simp] theorem Dev.onTide_usf (f) : (d.onTide f).usf = d.usf := rfl
@[simp] theorem Dev.onTide_adc (f) : (d.onTide f).adc = d.adc := rfl
@[simp] theorem Dev.onTide_nextId (f) : (d.onTide f).nextId = d.nextId := rfl
@[simp] theorem Dev.onTide_detect (f) : (d.onTide f).detect = d.detect := rfl
@[simp] theorem Dev.onTide_swapAcc (f) : (d.onTide f).swapAcc = d.swapAcc := rfl
@[simp] theorem Dev.onTide_met (f) : (d.onTide f).met = d.met := rfl
@[simp] theorem Dev.onTide_loop (f) : (d.onTide f).loop = d.loop := rfl
@[simp] theorem Dev.onTide_heldOrders (f) : (d.onTide f).heldOrders = d.heldOrders := rfl
@[simp] theorem Dev.onTide_pocket (f) : (d.onTide f).pocket = d.pocket := rfl
@[simp] theorem Dev.onTide_radio (f) : (d.onTide f).radio = d.radio := rfl
@[simp] theorem Dev.onTide_freeN (f) : (d.onTide f).freeN = d.freeN := rfl
@[simp] theorem Dev.onTide_col (f) : (d.onTide f).col = d.col := rfl
@[simp] theorem Dev.onTide_label (f) : (d.onTide f).label = d.label := rfl
@[simp] theorem Dev.onTide_bist (f) : (d.onTide f).bist = d.bist := rfl
@[simp] theorem Dev.onTide_pads (f) : (d.onTide f).pads = d.pads := rfl
@[simp] theorem Dev.onTide_port (f) : (d.onTide f).port = d.port := rfl
@[simp] theorem Dev.onTide_dport (f) : (d.onTide f).dport = d.dport := rfl
@[simp] theorem Dev.onTide_quiesce (f) : (d.onTide f).quiesce = d.quiesce := rfl
@[simp] theorem Dev.onTide_stepDue (f) : (d.onTide f).stepDue = d.stepDue := rfl
@[simp] theorem Dev.onTide_busHeld (f) : (d.onTide f).busHeld = d.busHeld := rfl
@[simp] theorem Dev.onTide_raised (f) : (d.onTide f).raised = d.raised := rfl
@[simp] theorem Dev.onTmr_regs (f) : (d.onTmr f).regs = d.regs := rfl
@[simp] theorem Dev.onTmr_shadow (f) : (d.onTmr f).shadow = d.shadow := rfl
@[simp] theorem Dev.onTmr_mem (f) : (d.onTmr f).mem = d.mem := rfl
@[simp] theorem Dev.onTmr_ecc (f) : (d.onTmr f).ecc = d.ecc := rfl
@[simp] theorem Dev.onTmr_orders (f) : (d.onTmr f).orders = d.orders := rfl
@[simp] theorem Dev.onTmr_sup (f) : (d.onTmr f).sup = d.sup := rfl
@[simp] theorem Dev.onTmr_slack (f) : (d.onTmr f).slack = d.slack := rfl
@[simp] theorem Dev.onTmr_clk (f) : (d.onTmr f).clk = d.clk := rfl
@[simp] theorem Dev.onTmr_tide (f) : (d.onTmr f).tide = d.tide := rfl
@[simp] theorem Dev.onTmr_tmr (f) : (d.onTmr f).tmr = f d.tmr := rfl
@[simp] theorem Dev.onTmr_links (f) : (d.onTmr f).links = d.links := rfl
@[simp] theorem Dev.onTmr_seqPrev (f) : (d.onTmr f).seqPrev = d.seqPrev := rfl
@[simp] theorem Dev.onTmr_asleep (f) : (d.onTmr f).asleep = d.asleep := rfl
@[simp] theorem Dev.onTmr_revertDue (f) : (d.onTmr f).revertDue = d.revertDue := rfl
@[simp] theorem Dev.onTmr_held (f) : (d.onTmr f).held = d.held := rfl
@[simp] theorem Dev.onTmr_engC (f) : (d.onTmr f).engC = d.engC := rfl
@[simp] theorem Dev.onTmr_engL (f) : (d.onTmr f).engL = d.engL := rfl
@[simp] theorem Dev.onTmr_engR (f) : (d.onTmr f).engR = d.engR := rfl
@[simp] theorem Dev.onTmr_collarRun (f) : (d.onTmr f).collarRun = d.collarRun := rfl
@[simp] theorem Dev.onTmr_traceHeld (f) : (d.onTmr f).traceHeld = d.traceHeld := rfl
@[simp] theorem Dev.onTmr_traceN (f) : (d.onTmr f).traceN = d.traceN := rfl
@[simp] theorem Dev.onTmr_sleepTick (f) : (d.onTmr f).sleepTick = d.sleepTick := rfl
@[simp] theorem Dev.onTmr_tdcA (f) : (d.onTmr f).tdcA = d.tdcA := rfl
@[simp] theorem Dev.onTmr_tdcB (f) : (d.onTmr f).tdcB = d.tdcB := rfl
@[simp] theorem Dev.onTmr_usf (f) : (d.onTmr f).usf = d.usf := rfl
@[simp] theorem Dev.onTmr_adc (f) : (d.onTmr f).adc = d.adc := rfl
@[simp] theorem Dev.onTmr_nextId (f) : (d.onTmr f).nextId = d.nextId := rfl
@[simp] theorem Dev.onTmr_detect (f) : (d.onTmr f).detect = d.detect := rfl
@[simp] theorem Dev.onTmr_swapAcc (f) : (d.onTmr f).swapAcc = d.swapAcc := rfl
@[simp] theorem Dev.onTmr_met (f) : (d.onTmr f).met = d.met := rfl
@[simp] theorem Dev.onTmr_loop (f) : (d.onTmr f).loop = d.loop := rfl
@[simp] theorem Dev.onTmr_heldOrders (f) : (d.onTmr f).heldOrders = d.heldOrders := rfl
@[simp] theorem Dev.onTmr_pocket (f) : (d.onTmr f).pocket = d.pocket := rfl
@[simp] theorem Dev.onTmr_radio (f) : (d.onTmr f).radio = d.radio := rfl
@[simp] theorem Dev.onTmr_freeN (f) : (d.onTmr f).freeN = d.freeN := rfl
@[simp] theorem Dev.onTmr_col (f) : (d.onTmr f).col = d.col := rfl
@[simp] theorem Dev.onTmr_label (f) : (d.onTmr f).label = d.label := rfl
@[simp] theorem Dev.onTmr_bist (f) : (d.onTmr f).bist = d.bist := rfl
@[simp] theorem Dev.onTmr_pads (f) : (d.onTmr f).pads = d.pads := rfl
@[simp] theorem Dev.onTmr_port (f) : (d.onTmr f).port = d.port := rfl
@[simp] theorem Dev.onTmr_dport (f) : (d.onTmr f).dport = d.dport := rfl
@[simp] theorem Dev.onTmr_quiesce (f) : (d.onTmr f).quiesce = d.quiesce := rfl
@[simp] theorem Dev.onTmr_stepDue (f) : (d.onTmr f).stepDue = d.stepDue := rfl
@[simp] theorem Dev.onTmr_busHeld (f) : (d.onTmr f).busHeld = d.busHeld := rfl
@[simp] theorem Dev.onTmr_raised (f) : (d.onTmr f).raised = d.raised := rfl
@[simp] theorem Dev.onLinks_regs (f) : (d.onLinks f).regs = d.regs := rfl
@[simp] theorem Dev.onLinks_shadow (f) : (d.onLinks f).shadow = d.shadow := rfl
@[simp] theorem Dev.onLinks_mem (f) : (d.onLinks f).mem = d.mem := rfl
@[simp] theorem Dev.onLinks_ecc (f) : (d.onLinks f).ecc = d.ecc := rfl
@[simp] theorem Dev.onLinks_orders (f) : (d.onLinks f).orders = d.orders := rfl
@[simp] theorem Dev.onLinks_sup (f) : (d.onLinks f).sup = d.sup := rfl
@[simp] theorem Dev.onLinks_slack (f) : (d.onLinks f).slack = d.slack := rfl
@[simp] theorem Dev.onLinks_clk (f) : (d.onLinks f).clk = d.clk := rfl
@[simp] theorem Dev.onLinks_tide (f) : (d.onLinks f).tide = d.tide := rfl
@[simp] theorem Dev.onLinks_tmr (f) : (d.onLinks f).tmr = d.tmr := rfl
@[simp] theorem Dev.onLinks_links (f) : (d.onLinks f).links = f d.links := rfl
@[simp] theorem Dev.onLinks_seqPrev (f) : (d.onLinks f).seqPrev = d.seqPrev := rfl
@[simp] theorem Dev.onLinks_asleep (f) : (d.onLinks f).asleep = d.asleep := rfl
@[simp] theorem Dev.onLinks_revertDue (f) : (d.onLinks f).revertDue = d.revertDue := rfl
@[simp] theorem Dev.onLinks_held (f) : (d.onLinks f).held = d.held := rfl
@[simp] theorem Dev.onLinks_engC (f) : (d.onLinks f).engC = d.engC := rfl
@[simp] theorem Dev.onLinks_engL (f) : (d.onLinks f).engL = d.engL := rfl
@[simp] theorem Dev.onLinks_engR (f) : (d.onLinks f).engR = d.engR := rfl
@[simp] theorem Dev.onLinks_collarRun (f) : (d.onLinks f).collarRun = d.collarRun := rfl
@[simp] theorem Dev.onLinks_traceHeld (f) : (d.onLinks f).traceHeld = d.traceHeld := rfl
@[simp] theorem Dev.onLinks_traceN (f) : (d.onLinks f).traceN = d.traceN := rfl
@[simp] theorem Dev.onLinks_sleepTick (f) : (d.onLinks f).sleepTick = d.sleepTick := rfl
@[simp] theorem Dev.onLinks_tdcA (f) : (d.onLinks f).tdcA = d.tdcA := rfl
@[simp] theorem Dev.onLinks_tdcB (f) : (d.onLinks f).tdcB = d.tdcB := rfl
@[simp] theorem Dev.onLinks_usf (f) : (d.onLinks f).usf = d.usf := rfl
@[simp] theorem Dev.onLinks_adc (f) : (d.onLinks f).adc = d.adc := rfl
@[simp] theorem Dev.onLinks_nextId (f) : (d.onLinks f).nextId = d.nextId := rfl
@[simp] theorem Dev.onLinks_detect (f) : (d.onLinks f).detect = d.detect := rfl
@[simp] theorem Dev.onLinks_swapAcc (f) : (d.onLinks f).swapAcc = d.swapAcc := rfl
@[simp] theorem Dev.onLinks_met (f) : (d.onLinks f).met = d.met := rfl
@[simp] theorem Dev.onLinks_loop (f) : (d.onLinks f).loop = d.loop := rfl
@[simp] theorem Dev.onLinks_heldOrders (f) : (d.onLinks f).heldOrders = d.heldOrders := rfl
@[simp] theorem Dev.onLinks_pocket (f) : (d.onLinks f).pocket = d.pocket := rfl
@[simp] theorem Dev.onLinks_radio (f) : (d.onLinks f).radio = d.radio := rfl
@[simp] theorem Dev.onLinks_freeN (f) : (d.onLinks f).freeN = d.freeN := rfl
@[simp] theorem Dev.onLinks_col (f) : (d.onLinks f).col = d.col := rfl
@[simp] theorem Dev.onLinks_label (f) : (d.onLinks f).label = d.label := rfl
@[simp] theorem Dev.onLinks_bist (f) : (d.onLinks f).bist = d.bist := rfl
@[simp] theorem Dev.onLinks_pads (f) : (d.onLinks f).pads = d.pads := rfl
@[simp] theorem Dev.onLinks_port (f) : (d.onLinks f).port = d.port := rfl
@[simp] theorem Dev.onLinks_dport (f) : (d.onLinks f).dport = d.dport := rfl
@[simp] theorem Dev.onLinks_quiesce (f) : (d.onLinks f).quiesce = d.quiesce := rfl
@[simp] theorem Dev.onLinks_stepDue (f) : (d.onLinks f).stepDue = d.stepDue := rfl
@[simp] theorem Dev.onLinks_busHeld (f) : (d.onLinks f).busHeld = d.busHeld := rfl
@[simp] theorem Dev.onLinks_raised (f) : (d.onLinks f).raised = d.raised := rfl
@[simp] theorem Dev.onSeqPrev_regs (f) : (d.onSeqPrev f).regs = d.regs := rfl
@[simp] theorem Dev.onSeqPrev_shadow (f) : (d.onSeqPrev f).shadow = d.shadow := rfl
@[simp] theorem Dev.onSeqPrev_mem (f) : (d.onSeqPrev f).mem = d.mem := rfl
@[simp] theorem Dev.onSeqPrev_ecc (f) : (d.onSeqPrev f).ecc = d.ecc := rfl
@[simp] theorem Dev.onSeqPrev_orders (f) : (d.onSeqPrev f).orders = d.orders := rfl
@[simp] theorem Dev.onSeqPrev_sup (f) : (d.onSeqPrev f).sup = d.sup := rfl
@[simp] theorem Dev.onSeqPrev_slack (f) : (d.onSeqPrev f).slack = d.slack := rfl
@[simp] theorem Dev.onSeqPrev_clk (f) : (d.onSeqPrev f).clk = d.clk := rfl
@[simp] theorem Dev.onSeqPrev_tide (f) : (d.onSeqPrev f).tide = d.tide := rfl
@[simp] theorem Dev.onSeqPrev_tmr (f) : (d.onSeqPrev f).tmr = d.tmr := rfl
@[simp] theorem Dev.onSeqPrev_links (f) : (d.onSeqPrev f).links = d.links := rfl
@[simp] theorem Dev.onSeqPrev_seqPrev (f) : (d.onSeqPrev f).seqPrev = f d.seqPrev := rfl
@[simp] theorem Dev.onSeqPrev_asleep (f) : (d.onSeqPrev f).asleep = d.asleep := rfl
@[simp] theorem Dev.onSeqPrev_revertDue (f) : (d.onSeqPrev f).revertDue = d.revertDue := rfl
@[simp] theorem Dev.onSeqPrev_held (f) : (d.onSeqPrev f).held = d.held := rfl
@[simp] theorem Dev.onSeqPrev_engC (f) : (d.onSeqPrev f).engC = d.engC := rfl
@[simp] theorem Dev.onSeqPrev_engL (f) : (d.onSeqPrev f).engL = d.engL := rfl
@[simp] theorem Dev.onSeqPrev_engR (f) : (d.onSeqPrev f).engR = d.engR := rfl
@[simp] theorem Dev.onSeqPrev_collarRun (f) : (d.onSeqPrev f).collarRun = d.collarRun := rfl
@[simp] theorem Dev.onSeqPrev_traceHeld (f) : (d.onSeqPrev f).traceHeld = d.traceHeld := rfl
@[simp] theorem Dev.onSeqPrev_traceN (f) : (d.onSeqPrev f).traceN = d.traceN := rfl
@[simp] theorem Dev.onSeqPrev_sleepTick (f) : (d.onSeqPrev f).sleepTick = d.sleepTick := rfl
@[simp] theorem Dev.onSeqPrev_tdcA (f) : (d.onSeqPrev f).tdcA = d.tdcA := rfl
@[simp] theorem Dev.onSeqPrev_tdcB (f) : (d.onSeqPrev f).tdcB = d.tdcB := rfl
@[simp] theorem Dev.onSeqPrev_usf (f) : (d.onSeqPrev f).usf = d.usf := rfl
@[simp] theorem Dev.onSeqPrev_adc (f) : (d.onSeqPrev f).adc = d.adc := rfl
@[simp] theorem Dev.onSeqPrev_nextId (f) : (d.onSeqPrev f).nextId = d.nextId := rfl
@[simp] theorem Dev.onSeqPrev_detect (f) : (d.onSeqPrev f).detect = d.detect := rfl
@[simp] theorem Dev.onSeqPrev_swapAcc (f) : (d.onSeqPrev f).swapAcc = d.swapAcc := rfl
@[simp] theorem Dev.onSeqPrev_met (f) : (d.onSeqPrev f).met = d.met := rfl
@[simp] theorem Dev.onSeqPrev_loop (f) : (d.onSeqPrev f).loop = d.loop := rfl
@[simp] theorem Dev.onSeqPrev_heldOrders (f) : (d.onSeqPrev f).heldOrders = d.heldOrders := rfl
@[simp] theorem Dev.onSeqPrev_pocket (f) : (d.onSeqPrev f).pocket = d.pocket := rfl
@[simp] theorem Dev.onSeqPrev_radio (f) : (d.onSeqPrev f).radio = d.radio := rfl
@[simp] theorem Dev.onSeqPrev_freeN (f) : (d.onSeqPrev f).freeN = d.freeN := rfl
@[simp] theorem Dev.onSeqPrev_col (f) : (d.onSeqPrev f).col = d.col := rfl
@[simp] theorem Dev.onSeqPrev_label (f) : (d.onSeqPrev f).label = d.label := rfl
@[simp] theorem Dev.onSeqPrev_bist (f) : (d.onSeqPrev f).bist = d.bist := rfl
@[simp] theorem Dev.onSeqPrev_pads (f) : (d.onSeqPrev f).pads = d.pads := rfl
@[simp] theorem Dev.onSeqPrev_port (f) : (d.onSeqPrev f).port = d.port := rfl
@[simp] theorem Dev.onSeqPrev_dport (f) : (d.onSeqPrev f).dport = d.dport := rfl
@[simp] theorem Dev.onSeqPrev_quiesce (f) : (d.onSeqPrev f).quiesce = d.quiesce := rfl
@[simp] theorem Dev.onSeqPrev_stepDue (f) : (d.onSeqPrev f).stepDue = d.stepDue := rfl
@[simp] theorem Dev.onSeqPrev_busHeld (f) : (d.onSeqPrev f).busHeld = d.busHeld := rfl
@[simp] theorem Dev.onSeqPrev_raised (f) : (d.onSeqPrev f).raised = d.raised := rfl
@[simp] theorem Dev.onAsleep_regs (f) : (d.onAsleep f).regs = d.regs := rfl
@[simp] theorem Dev.onAsleep_shadow (f) : (d.onAsleep f).shadow = d.shadow := rfl
@[simp] theorem Dev.onAsleep_mem (f) : (d.onAsleep f).mem = d.mem := rfl
@[simp] theorem Dev.onAsleep_ecc (f) : (d.onAsleep f).ecc = d.ecc := rfl
@[simp] theorem Dev.onAsleep_orders (f) : (d.onAsleep f).orders = d.orders := rfl
@[simp] theorem Dev.onAsleep_sup (f) : (d.onAsleep f).sup = d.sup := rfl
@[simp] theorem Dev.onAsleep_slack (f) : (d.onAsleep f).slack = d.slack := rfl
@[simp] theorem Dev.onAsleep_clk (f) : (d.onAsleep f).clk = d.clk := rfl
@[simp] theorem Dev.onAsleep_tide (f) : (d.onAsleep f).tide = d.tide := rfl
@[simp] theorem Dev.onAsleep_tmr (f) : (d.onAsleep f).tmr = d.tmr := rfl
@[simp] theorem Dev.onAsleep_links (f) : (d.onAsleep f).links = d.links := rfl
@[simp] theorem Dev.onAsleep_seqPrev (f) : (d.onAsleep f).seqPrev = d.seqPrev := rfl
@[simp] theorem Dev.onAsleep_asleep (f) : (d.onAsleep f).asleep = f d.asleep := rfl
@[simp] theorem Dev.onAsleep_revertDue (f) : (d.onAsleep f).revertDue = d.revertDue := rfl
@[simp] theorem Dev.onAsleep_held (f) : (d.onAsleep f).held = d.held := rfl
@[simp] theorem Dev.onAsleep_engC (f) : (d.onAsleep f).engC = d.engC := rfl
@[simp] theorem Dev.onAsleep_engL (f) : (d.onAsleep f).engL = d.engL := rfl
@[simp] theorem Dev.onAsleep_engR (f) : (d.onAsleep f).engR = d.engR := rfl
@[simp] theorem Dev.onAsleep_collarRun (f) : (d.onAsleep f).collarRun = d.collarRun := rfl
@[simp] theorem Dev.onAsleep_traceHeld (f) : (d.onAsleep f).traceHeld = d.traceHeld := rfl
@[simp] theorem Dev.onAsleep_traceN (f) : (d.onAsleep f).traceN = d.traceN := rfl
@[simp] theorem Dev.onAsleep_sleepTick (f) : (d.onAsleep f).sleepTick = d.sleepTick := rfl
@[simp] theorem Dev.onAsleep_tdcA (f) : (d.onAsleep f).tdcA = d.tdcA := rfl
@[simp] theorem Dev.onAsleep_tdcB (f) : (d.onAsleep f).tdcB = d.tdcB := rfl
@[simp] theorem Dev.onAsleep_usf (f) : (d.onAsleep f).usf = d.usf := rfl
@[simp] theorem Dev.onAsleep_adc (f) : (d.onAsleep f).adc = d.adc := rfl
@[simp] theorem Dev.onAsleep_nextId (f) : (d.onAsleep f).nextId = d.nextId := rfl
@[simp] theorem Dev.onAsleep_detect (f) : (d.onAsleep f).detect = d.detect := rfl
@[simp] theorem Dev.onAsleep_swapAcc (f) : (d.onAsleep f).swapAcc = d.swapAcc := rfl
@[simp] theorem Dev.onAsleep_met (f) : (d.onAsleep f).met = d.met := rfl
@[simp] theorem Dev.onAsleep_loop (f) : (d.onAsleep f).loop = d.loop := rfl
@[simp] theorem Dev.onAsleep_heldOrders (f) : (d.onAsleep f).heldOrders = d.heldOrders := rfl
@[simp] theorem Dev.onAsleep_pocket (f) : (d.onAsleep f).pocket = d.pocket := rfl
@[simp] theorem Dev.onAsleep_radio (f) : (d.onAsleep f).radio = d.radio := rfl
@[simp] theorem Dev.onAsleep_freeN (f) : (d.onAsleep f).freeN = d.freeN := rfl
@[simp] theorem Dev.onAsleep_col (f) : (d.onAsleep f).col = d.col := rfl
@[simp] theorem Dev.onAsleep_label (f) : (d.onAsleep f).label = d.label := rfl
@[simp] theorem Dev.onAsleep_bist (f) : (d.onAsleep f).bist = d.bist := rfl
@[simp] theorem Dev.onAsleep_pads (f) : (d.onAsleep f).pads = d.pads := rfl
@[simp] theorem Dev.onAsleep_port (f) : (d.onAsleep f).port = d.port := rfl
@[simp] theorem Dev.onAsleep_dport (f) : (d.onAsleep f).dport = d.dport := rfl
@[simp] theorem Dev.onAsleep_quiesce (f) : (d.onAsleep f).quiesce = d.quiesce := rfl
@[simp] theorem Dev.onAsleep_stepDue (f) : (d.onAsleep f).stepDue = d.stepDue := rfl
@[simp] theorem Dev.onAsleep_busHeld (f) : (d.onAsleep f).busHeld = d.busHeld := rfl
@[simp] theorem Dev.onAsleep_raised (f) : (d.onAsleep f).raised = d.raised := rfl
@[simp] theorem Dev.onRevertDue_regs (f) : (d.onRevertDue f).regs = d.regs := rfl
@[simp] theorem Dev.onRevertDue_shadow (f) : (d.onRevertDue f).shadow = d.shadow := rfl
@[simp] theorem Dev.onRevertDue_mem (f) : (d.onRevertDue f).mem = d.mem := rfl
@[simp] theorem Dev.onRevertDue_ecc (f) : (d.onRevertDue f).ecc = d.ecc := rfl
@[simp] theorem Dev.onRevertDue_orders (f) : (d.onRevertDue f).orders = d.orders := rfl
@[simp] theorem Dev.onRevertDue_sup (f) : (d.onRevertDue f).sup = d.sup := rfl
@[simp] theorem Dev.onRevertDue_slack (f) : (d.onRevertDue f).slack = d.slack := rfl
@[simp] theorem Dev.onRevertDue_clk (f) : (d.onRevertDue f).clk = d.clk := rfl
@[simp] theorem Dev.onRevertDue_tide (f) : (d.onRevertDue f).tide = d.tide := rfl
@[simp] theorem Dev.onRevertDue_tmr (f) : (d.onRevertDue f).tmr = d.tmr := rfl
@[simp] theorem Dev.onRevertDue_links (f) : (d.onRevertDue f).links = d.links := rfl
@[simp] theorem Dev.onRevertDue_seqPrev (f) : (d.onRevertDue f).seqPrev = d.seqPrev := rfl
@[simp] theorem Dev.onRevertDue_asleep (f) : (d.onRevertDue f).asleep = d.asleep := rfl
@[simp] theorem Dev.onRevertDue_revertDue (f) : (d.onRevertDue f).revertDue = f d.revertDue := rfl
@[simp] theorem Dev.onRevertDue_held (f) : (d.onRevertDue f).held = d.held := rfl
@[simp] theorem Dev.onRevertDue_engC (f) : (d.onRevertDue f).engC = d.engC := rfl
@[simp] theorem Dev.onRevertDue_engL (f) : (d.onRevertDue f).engL = d.engL := rfl
@[simp] theorem Dev.onRevertDue_engR (f) : (d.onRevertDue f).engR = d.engR := rfl
@[simp] theorem Dev.onRevertDue_collarRun (f) : (d.onRevertDue f).collarRun = d.collarRun := rfl
@[simp] theorem Dev.onRevertDue_traceHeld (f) : (d.onRevertDue f).traceHeld = d.traceHeld := rfl
@[simp] theorem Dev.onRevertDue_traceN (f) : (d.onRevertDue f).traceN = d.traceN := rfl
@[simp] theorem Dev.onRevertDue_sleepTick (f) : (d.onRevertDue f).sleepTick = d.sleepTick := rfl
@[simp] theorem Dev.onRevertDue_tdcA (f) : (d.onRevertDue f).tdcA = d.tdcA := rfl
@[simp] theorem Dev.onRevertDue_tdcB (f) : (d.onRevertDue f).tdcB = d.tdcB := rfl
@[simp] theorem Dev.onRevertDue_usf (f) : (d.onRevertDue f).usf = d.usf := rfl
@[simp] theorem Dev.onRevertDue_adc (f) : (d.onRevertDue f).adc = d.adc := rfl
@[simp] theorem Dev.onRevertDue_nextId (f) : (d.onRevertDue f).nextId = d.nextId := rfl
@[simp] theorem Dev.onRevertDue_detect (f) : (d.onRevertDue f).detect = d.detect := rfl
@[simp] theorem Dev.onRevertDue_swapAcc (f) : (d.onRevertDue f).swapAcc = d.swapAcc := rfl
@[simp] theorem Dev.onRevertDue_met (f) : (d.onRevertDue f).met = d.met := rfl
@[simp] theorem Dev.onRevertDue_loop (f) : (d.onRevertDue f).loop = d.loop := rfl
@[simp] theorem Dev.onRevertDue_heldOrders (f) : (d.onRevertDue f).heldOrders = d.heldOrders := rfl
@[simp] theorem Dev.onRevertDue_pocket (f) : (d.onRevertDue f).pocket = d.pocket := rfl
@[simp] theorem Dev.onRevertDue_radio (f) : (d.onRevertDue f).radio = d.radio := rfl
@[simp] theorem Dev.onRevertDue_freeN (f) : (d.onRevertDue f).freeN = d.freeN := rfl
@[simp] theorem Dev.onRevertDue_col (f) : (d.onRevertDue f).col = d.col := rfl
@[simp] theorem Dev.onRevertDue_label (f) : (d.onRevertDue f).label = d.label := rfl
@[simp] theorem Dev.onRevertDue_bist (f) : (d.onRevertDue f).bist = d.bist := rfl
@[simp] theorem Dev.onRevertDue_pads (f) : (d.onRevertDue f).pads = d.pads := rfl
@[simp] theorem Dev.onRevertDue_port (f) : (d.onRevertDue f).port = d.port := rfl
@[simp] theorem Dev.onRevertDue_dport (f) : (d.onRevertDue f).dport = d.dport := rfl
@[simp] theorem Dev.onRevertDue_quiesce (f) : (d.onRevertDue f).quiesce = d.quiesce := rfl
@[simp] theorem Dev.onRevertDue_stepDue (f) : (d.onRevertDue f).stepDue = d.stepDue := rfl
@[simp] theorem Dev.onRevertDue_busHeld (f) : (d.onRevertDue f).busHeld = d.busHeld := rfl
@[simp] theorem Dev.onRevertDue_raised (f) : (d.onRevertDue f).raised = d.raised := rfl
@[simp] theorem Dev.onHeld_regs (f) : (d.onHeld f).regs = d.regs := rfl
@[simp] theorem Dev.onHeld_shadow (f) : (d.onHeld f).shadow = d.shadow := rfl
@[simp] theorem Dev.onHeld_mem (f) : (d.onHeld f).mem = d.mem := rfl
@[simp] theorem Dev.onHeld_ecc (f) : (d.onHeld f).ecc = d.ecc := rfl
@[simp] theorem Dev.onHeld_orders (f) : (d.onHeld f).orders = d.orders := rfl
@[simp] theorem Dev.onHeld_sup (f) : (d.onHeld f).sup = d.sup := rfl
@[simp] theorem Dev.onHeld_slack (f) : (d.onHeld f).slack = d.slack := rfl
@[simp] theorem Dev.onHeld_clk (f) : (d.onHeld f).clk = d.clk := rfl
@[simp] theorem Dev.onHeld_tide (f) : (d.onHeld f).tide = d.tide := rfl
@[simp] theorem Dev.onHeld_tmr (f) : (d.onHeld f).tmr = d.tmr := rfl
@[simp] theorem Dev.onHeld_links (f) : (d.onHeld f).links = d.links := rfl
@[simp] theorem Dev.onHeld_seqPrev (f) : (d.onHeld f).seqPrev = d.seqPrev := rfl
@[simp] theorem Dev.onHeld_asleep (f) : (d.onHeld f).asleep = d.asleep := rfl
@[simp] theorem Dev.onHeld_revertDue (f) : (d.onHeld f).revertDue = d.revertDue := rfl
@[simp] theorem Dev.onHeld_held (f) : (d.onHeld f).held = f d.held := rfl
@[simp] theorem Dev.onHeld_engC (f) : (d.onHeld f).engC = d.engC := rfl
@[simp] theorem Dev.onHeld_engL (f) : (d.onHeld f).engL = d.engL := rfl
@[simp] theorem Dev.onHeld_engR (f) : (d.onHeld f).engR = d.engR := rfl
@[simp] theorem Dev.onHeld_collarRun (f) : (d.onHeld f).collarRun = d.collarRun := rfl
@[simp] theorem Dev.onHeld_traceHeld (f) : (d.onHeld f).traceHeld = d.traceHeld := rfl
@[simp] theorem Dev.onHeld_traceN (f) : (d.onHeld f).traceN = d.traceN := rfl
@[simp] theorem Dev.onHeld_sleepTick (f) : (d.onHeld f).sleepTick = d.sleepTick := rfl
@[simp] theorem Dev.onHeld_tdcA (f) : (d.onHeld f).tdcA = d.tdcA := rfl
@[simp] theorem Dev.onHeld_tdcB (f) : (d.onHeld f).tdcB = d.tdcB := rfl
@[simp] theorem Dev.onHeld_usf (f) : (d.onHeld f).usf = d.usf := rfl
@[simp] theorem Dev.onHeld_adc (f) : (d.onHeld f).adc = d.adc := rfl
@[simp] theorem Dev.onHeld_nextId (f) : (d.onHeld f).nextId = d.nextId := rfl
@[simp] theorem Dev.onHeld_detect (f) : (d.onHeld f).detect = d.detect := rfl
@[simp] theorem Dev.onHeld_swapAcc (f) : (d.onHeld f).swapAcc = d.swapAcc := rfl
@[simp] theorem Dev.onHeld_met (f) : (d.onHeld f).met = d.met := rfl
@[simp] theorem Dev.onHeld_loop (f) : (d.onHeld f).loop = d.loop := rfl
@[simp] theorem Dev.onHeld_heldOrders (f) : (d.onHeld f).heldOrders = d.heldOrders := rfl
@[simp] theorem Dev.onHeld_pocket (f) : (d.onHeld f).pocket = d.pocket := rfl
@[simp] theorem Dev.onHeld_radio (f) : (d.onHeld f).radio = d.radio := rfl
@[simp] theorem Dev.onHeld_freeN (f) : (d.onHeld f).freeN = d.freeN := rfl
@[simp] theorem Dev.onHeld_col (f) : (d.onHeld f).col = d.col := rfl
@[simp] theorem Dev.onHeld_label (f) : (d.onHeld f).label = d.label := rfl
@[simp] theorem Dev.onHeld_bist (f) : (d.onHeld f).bist = d.bist := rfl
@[simp] theorem Dev.onHeld_pads (f) : (d.onHeld f).pads = d.pads := rfl
@[simp] theorem Dev.onHeld_port (f) : (d.onHeld f).port = d.port := rfl
@[simp] theorem Dev.onHeld_dport (f) : (d.onHeld f).dport = d.dport := rfl
@[simp] theorem Dev.onHeld_quiesce (f) : (d.onHeld f).quiesce = d.quiesce := rfl
@[simp] theorem Dev.onHeld_stepDue (f) : (d.onHeld f).stepDue = d.stepDue := rfl
@[simp] theorem Dev.onHeld_busHeld (f) : (d.onHeld f).busHeld = d.busHeld := rfl
@[simp] theorem Dev.onHeld_raised (f) : (d.onHeld f).raised = d.raised := rfl
@[simp] theorem Dev.onEngC_regs (f) : (d.onEngC f).regs = d.regs := rfl
@[simp] theorem Dev.onEngC_shadow (f) : (d.onEngC f).shadow = d.shadow := rfl
@[simp] theorem Dev.onEngC_mem (f) : (d.onEngC f).mem = d.mem := rfl
@[simp] theorem Dev.onEngC_ecc (f) : (d.onEngC f).ecc = d.ecc := rfl
@[simp] theorem Dev.onEngC_orders (f) : (d.onEngC f).orders = d.orders := rfl
@[simp] theorem Dev.onEngC_sup (f) : (d.onEngC f).sup = d.sup := rfl
@[simp] theorem Dev.onEngC_slack (f) : (d.onEngC f).slack = d.slack := rfl
@[simp] theorem Dev.onEngC_clk (f) : (d.onEngC f).clk = d.clk := rfl
@[simp] theorem Dev.onEngC_tide (f) : (d.onEngC f).tide = d.tide := rfl
@[simp] theorem Dev.onEngC_tmr (f) : (d.onEngC f).tmr = d.tmr := rfl
@[simp] theorem Dev.onEngC_links (f) : (d.onEngC f).links = d.links := rfl
@[simp] theorem Dev.onEngC_seqPrev (f) : (d.onEngC f).seqPrev = d.seqPrev := rfl
@[simp] theorem Dev.onEngC_asleep (f) : (d.onEngC f).asleep = d.asleep := rfl
@[simp] theorem Dev.onEngC_revertDue (f) : (d.onEngC f).revertDue = d.revertDue := rfl
@[simp] theorem Dev.onEngC_held (f) : (d.onEngC f).held = d.held := rfl
@[simp] theorem Dev.onEngC_engC (f) : (d.onEngC f).engC = f d.engC := rfl
@[simp] theorem Dev.onEngC_engL (f) : (d.onEngC f).engL = d.engL := rfl
@[simp] theorem Dev.onEngC_engR (f) : (d.onEngC f).engR = d.engR := rfl
@[simp] theorem Dev.onEngC_collarRun (f) : (d.onEngC f).collarRun = d.collarRun := rfl
@[simp] theorem Dev.onEngC_traceHeld (f) : (d.onEngC f).traceHeld = d.traceHeld := rfl
@[simp] theorem Dev.onEngC_traceN (f) : (d.onEngC f).traceN = d.traceN := rfl
@[simp] theorem Dev.onEngC_sleepTick (f) : (d.onEngC f).sleepTick = d.sleepTick := rfl
@[simp] theorem Dev.onEngC_tdcA (f) : (d.onEngC f).tdcA = d.tdcA := rfl
@[simp] theorem Dev.onEngC_tdcB (f) : (d.onEngC f).tdcB = d.tdcB := rfl
@[simp] theorem Dev.onEngC_usf (f) : (d.onEngC f).usf = d.usf := rfl
@[simp] theorem Dev.onEngC_adc (f) : (d.onEngC f).adc = d.adc := rfl
@[simp] theorem Dev.onEngC_nextId (f) : (d.onEngC f).nextId = d.nextId := rfl
@[simp] theorem Dev.onEngC_detect (f) : (d.onEngC f).detect = d.detect := rfl
@[simp] theorem Dev.onEngC_swapAcc (f) : (d.onEngC f).swapAcc = d.swapAcc := rfl
@[simp] theorem Dev.onEngC_met (f) : (d.onEngC f).met = d.met := rfl
@[simp] theorem Dev.onEngC_loop (f) : (d.onEngC f).loop = d.loop := rfl
@[simp] theorem Dev.onEngC_heldOrders (f) : (d.onEngC f).heldOrders = d.heldOrders := rfl
@[simp] theorem Dev.onEngC_pocket (f) : (d.onEngC f).pocket = d.pocket := rfl
@[simp] theorem Dev.onEngC_radio (f) : (d.onEngC f).radio = d.radio := rfl
@[simp] theorem Dev.onEngC_freeN (f) : (d.onEngC f).freeN = d.freeN := rfl
@[simp] theorem Dev.onEngC_col (f) : (d.onEngC f).col = d.col := rfl
@[simp] theorem Dev.onEngC_label (f) : (d.onEngC f).label = d.label := rfl
@[simp] theorem Dev.onEngC_bist (f) : (d.onEngC f).bist = d.bist := rfl
@[simp] theorem Dev.onEngC_pads (f) : (d.onEngC f).pads = d.pads := rfl
@[simp] theorem Dev.onEngC_port (f) : (d.onEngC f).port = d.port := rfl
@[simp] theorem Dev.onEngC_dport (f) : (d.onEngC f).dport = d.dport := rfl
@[simp] theorem Dev.onEngC_quiesce (f) : (d.onEngC f).quiesce = d.quiesce := rfl
@[simp] theorem Dev.onEngC_stepDue (f) : (d.onEngC f).stepDue = d.stepDue := rfl
@[simp] theorem Dev.onEngC_busHeld (f) : (d.onEngC f).busHeld = d.busHeld := rfl
@[simp] theorem Dev.onEngC_raised (f) : (d.onEngC f).raised = d.raised := rfl
@[simp] theorem Dev.onEngL_regs (f) : (d.onEngL f).regs = d.regs := rfl
@[simp] theorem Dev.onEngL_shadow (f) : (d.onEngL f).shadow = d.shadow := rfl
@[simp] theorem Dev.onEngL_mem (f) : (d.onEngL f).mem = d.mem := rfl
@[simp] theorem Dev.onEngL_ecc (f) : (d.onEngL f).ecc = d.ecc := rfl
@[simp] theorem Dev.onEngL_orders (f) : (d.onEngL f).orders = d.orders := rfl
@[simp] theorem Dev.onEngL_sup (f) : (d.onEngL f).sup = d.sup := rfl
@[simp] theorem Dev.onEngL_slack (f) : (d.onEngL f).slack = d.slack := rfl
@[simp] theorem Dev.onEngL_clk (f) : (d.onEngL f).clk = d.clk := rfl
@[simp] theorem Dev.onEngL_tide (f) : (d.onEngL f).tide = d.tide := rfl
@[simp] theorem Dev.onEngL_tmr (f) : (d.onEngL f).tmr = d.tmr := rfl
@[simp] theorem Dev.onEngL_links (f) : (d.onEngL f).links = d.links := rfl
@[simp] theorem Dev.onEngL_seqPrev (f) : (d.onEngL f).seqPrev = d.seqPrev := rfl
@[simp] theorem Dev.onEngL_asleep (f) : (d.onEngL f).asleep = d.asleep := rfl
@[simp] theorem Dev.onEngL_revertDue (f) : (d.onEngL f).revertDue = d.revertDue := rfl
@[simp] theorem Dev.onEngL_held (f) : (d.onEngL f).held = d.held := rfl
@[simp] theorem Dev.onEngL_engC (f) : (d.onEngL f).engC = d.engC := rfl
@[simp] theorem Dev.onEngL_engL (f) : (d.onEngL f).engL = f d.engL := rfl
@[simp] theorem Dev.onEngL_engR (f) : (d.onEngL f).engR = d.engR := rfl
@[simp] theorem Dev.onEngL_collarRun (f) : (d.onEngL f).collarRun = d.collarRun := rfl
@[simp] theorem Dev.onEngL_traceHeld (f) : (d.onEngL f).traceHeld = d.traceHeld := rfl
@[simp] theorem Dev.onEngL_traceN (f) : (d.onEngL f).traceN = d.traceN := rfl
@[simp] theorem Dev.onEngL_sleepTick (f) : (d.onEngL f).sleepTick = d.sleepTick := rfl
@[simp] theorem Dev.onEngL_tdcA (f) : (d.onEngL f).tdcA = d.tdcA := rfl
@[simp] theorem Dev.onEngL_tdcB (f) : (d.onEngL f).tdcB = d.tdcB := rfl
@[simp] theorem Dev.onEngL_usf (f) : (d.onEngL f).usf = d.usf := rfl
@[simp] theorem Dev.onEngL_adc (f) : (d.onEngL f).adc = d.adc := rfl
@[simp] theorem Dev.onEngL_nextId (f) : (d.onEngL f).nextId = d.nextId := rfl
@[simp] theorem Dev.onEngL_detect (f) : (d.onEngL f).detect = d.detect := rfl
@[simp] theorem Dev.onEngL_swapAcc (f) : (d.onEngL f).swapAcc = d.swapAcc := rfl
@[simp] theorem Dev.onEngL_met (f) : (d.onEngL f).met = d.met := rfl
@[simp] theorem Dev.onEngL_loop (f) : (d.onEngL f).loop = d.loop := rfl
@[simp] theorem Dev.onEngL_heldOrders (f) : (d.onEngL f).heldOrders = d.heldOrders := rfl
@[simp] theorem Dev.onEngL_pocket (f) : (d.onEngL f).pocket = d.pocket := rfl
@[simp] theorem Dev.onEngL_radio (f) : (d.onEngL f).radio = d.radio := rfl
@[simp] theorem Dev.onEngL_freeN (f) : (d.onEngL f).freeN = d.freeN := rfl
@[simp] theorem Dev.onEngL_col (f) : (d.onEngL f).col = d.col := rfl
@[simp] theorem Dev.onEngL_label (f) : (d.onEngL f).label = d.label := rfl
@[simp] theorem Dev.onEngL_bist (f) : (d.onEngL f).bist = d.bist := rfl
@[simp] theorem Dev.onEngL_pads (f) : (d.onEngL f).pads = d.pads := rfl
@[simp] theorem Dev.onEngL_port (f) : (d.onEngL f).port = d.port := rfl
@[simp] theorem Dev.onEngL_dport (f) : (d.onEngL f).dport = d.dport := rfl
@[simp] theorem Dev.onEngL_quiesce (f) : (d.onEngL f).quiesce = d.quiesce := rfl
@[simp] theorem Dev.onEngL_stepDue (f) : (d.onEngL f).stepDue = d.stepDue := rfl
@[simp] theorem Dev.onEngL_busHeld (f) : (d.onEngL f).busHeld = d.busHeld := rfl
@[simp] theorem Dev.onEngL_raised (f) : (d.onEngL f).raised = d.raised := rfl
@[simp] theorem Dev.onEngR_regs (f) : (d.onEngR f).regs = d.regs := rfl
@[simp] theorem Dev.onEngR_shadow (f) : (d.onEngR f).shadow = d.shadow := rfl
@[simp] theorem Dev.onEngR_mem (f) : (d.onEngR f).mem = d.mem := rfl
@[simp] theorem Dev.onEngR_ecc (f) : (d.onEngR f).ecc = d.ecc := rfl
@[simp] theorem Dev.onEngR_orders (f) : (d.onEngR f).orders = d.orders := rfl
@[simp] theorem Dev.onEngR_sup (f) : (d.onEngR f).sup = d.sup := rfl
@[simp] theorem Dev.onEngR_slack (f) : (d.onEngR f).slack = d.slack := rfl
@[simp] theorem Dev.onEngR_clk (f) : (d.onEngR f).clk = d.clk := rfl
@[simp] theorem Dev.onEngR_tide (f) : (d.onEngR f).tide = d.tide := rfl
@[simp] theorem Dev.onEngR_tmr (f) : (d.onEngR f).tmr = d.tmr := rfl
@[simp] theorem Dev.onEngR_links (f) : (d.onEngR f).links = d.links := rfl
@[simp] theorem Dev.onEngR_seqPrev (f) : (d.onEngR f).seqPrev = d.seqPrev := rfl
@[simp] theorem Dev.onEngR_asleep (f) : (d.onEngR f).asleep = d.asleep := rfl
@[simp] theorem Dev.onEngR_revertDue (f) : (d.onEngR f).revertDue = d.revertDue := rfl
@[simp] theorem Dev.onEngR_held (f) : (d.onEngR f).held = d.held := rfl
@[simp] theorem Dev.onEngR_engC (f) : (d.onEngR f).engC = d.engC := rfl
@[simp] theorem Dev.onEngR_engL (f) : (d.onEngR f).engL = d.engL := rfl
@[simp] theorem Dev.onEngR_engR (f) : (d.onEngR f).engR = f d.engR := rfl
@[simp] theorem Dev.onEngR_collarRun (f) : (d.onEngR f).collarRun = d.collarRun := rfl
@[simp] theorem Dev.onEngR_traceHeld (f) : (d.onEngR f).traceHeld = d.traceHeld := rfl
@[simp] theorem Dev.onEngR_traceN (f) : (d.onEngR f).traceN = d.traceN := rfl
@[simp] theorem Dev.onEngR_sleepTick (f) : (d.onEngR f).sleepTick = d.sleepTick := rfl
@[simp] theorem Dev.onEngR_tdcA (f) : (d.onEngR f).tdcA = d.tdcA := rfl
@[simp] theorem Dev.onEngR_tdcB (f) : (d.onEngR f).tdcB = d.tdcB := rfl
@[simp] theorem Dev.onEngR_usf (f) : (d.onEngR f).usf = d.usf := rfl
@[simp] theorem Dev.onEngR_adc (f) : (d.onEngR f).adc = d.adc := rfl
@[simp] theorem Dev.onEngR_nextId (f) : (d.onEngR f).nextId = d.nextId := rfl
@[simp] theorem Dev.onEngR_detect (f) : (d.onEngR f).detect = d.detect := rfl
@[simp] theorem Dev.onEngR_swapAcc (f) : (d.onEngR f).swapAcc = d.swapAcc := rfl
@[simp] theorem Dev.onEngR_met (f) : (d.onEngR f).met = d.met := rfl
@[simp] theorem Dev.onEngR_loop (f) : (d.onEngR f).loop = d.loop := rfl
@[simp] theorem Dev.onEngR_heldOrders (f) : (d.onEngR f).heldOrders = d.heldOrders := rfl
@[simp] theorem Dev.onEngR_pocket (f) : (d.onEngR f).pocket = d.pocket := rfl
@[simp] theorem Dev.onEngR_radio (f) : (d.onEngR f).radio = d.radio := rfl
@[simp] theorem Dev.onEngR_freeN (f) : (d.onEngR f).freeN = d.freeN := rfl
@[simp] theorem Dev.onEngR_col (f) : (d.onEngR f).col = d.col := rfl
@[simp] theorem Dev.onEngR_label (f) : (d.onEngR f).label = d.label := rfl
@[simp] theorem Dev.onEngR_bist (f) : (d.onEngR f).bist = d.bist := rfl
@[simp] theorem Dev.onEngR_pads (f) : (d.onEngR f).pads = d.pads := rfl
@[simp] theorem Dev.onEngR_port (f) : (d.onEngR f).port = d.port := rfl
@[simp] theorem Dev.onEngR_dport (f) : (d.onEngR f).dport = d.dport := rfl
@[simp] theorem Dev.onEngR_quiesce (f) : (d.onEngR f).quiesce = d.quiesce := rfl
@[simp] theorem Dev.onEngR_stepDue (f) : (d.onEngR f).stepDue = d.stepDue := rfl
@[simp] theorem Dev.onEngR_busHeld (f) : (d.onEngR f).busHeld = d.busHeld := rfl
@[simp] theorem Dev.onEngR_raised (f) : (d.onEngR f).raised = d.raised := rfl
@[simp] theorem Dev.onCollarRun_regs (f) : (d.onCollarRun f).regs = d.regs := rfl
@[simp] theorem Dev.onCollarRun_shadow (f) : (d.onCollarRun f).shadow = d.shadow := rfl
@[simp] theorem Dev.onCollarRun_mem (f) : (d.onCollarRun f).mem = d.mem := rfl
@[simp] theorem Dev.onCollarRun_ecc (f) : (d.onCollarRun f).ecc = d.ecc := rfl
@[simp] theorem Dev.onCollarRun_orders (f) : (d.onCollarRun f).orders = d.orders := rfl
@[simp] theorem Dev.onCollarRun_sup (f) : (d.onCollarRun f).sup = d.sup := rfl
@[simp] theorem Dev.onCollarRun_slack (f) : (d.onCollarRun f).slack = d.slack := rfl
@[simp] theorem Dev.onCollarRun_clk (f) : (d.onCollarRun f).clk = d.clk := rfl
@[simp] theorem Dev.onCollarRun_tide (f) : (d.onCollarRun f).tide = d.tide := rfl
@[simp] theorem Dev.onCollarRun_tmr (f) : (d.onCollarRun f).tmr = d.tmr := rfl
@[simp] theorem Dev.onCollarRun_links (f) : (d.onCollarRun f).links = d.links := rfl
@[simp] theorem Dev.onCollarRun_seqPrev (f) : (d.onCollarRun f).seqPrev = d.seqPrev := rfl
@[simp] theorem Dev.onCollarRun_asleep (f) : (d.onCollarRun f).asleep = d.asleep := rfl
@[simp] theorem Dev.onCollarRun_revertDue (f) : (d.onCollarRun f).revertDue = d.revertDue := rfl
@[simp] theorem Dev.onCollarRun_held (f) : (d.onCollarRun f).held = d.held := rfl
@[simp] theorem Dev.onCollarRun_engC (f) : (d.onCollarRun f).engC = d.engC := rfl
@[simp] theorem Dev.onCollarRun_engL (f) : (d.onCollarRun f).engL = d.engL := rfl
@[simp] theorem Dev.onCollarRun_engR (f) : (d.onCollarRun f).engR = d.engR := rfl
@[simp] theorem Dev.onCollarRun_collarRun (f) : (d.onCollarRun f).collarRun = f d.collarRun := rfl
@[simp] theorem Dev.onCollarRun_traceHeld (f) : (d.onCollarRun f).traceHeld = d.traceHeld := rfl
@[simp] theorem Dev.onCollarRun_traceN (f) : (d.onCollarRun f).traceN = d.traceN := rfl
@[simp] theorem Dev.onCollarRun_sleepTick (f) : (d.onCollarRun f).sleepTick = d.sleepTick := rfl
@[simp] theorem Dev.onCollarRun_tdcA (f) : (d.onCollarRun f).tdcA = d.tdcA := rfl
@[simp] theorem Dev.onCollarRun_tdcB (f) : (d.onCollarRun f).tdcB = d.tdcB := rfl
@[simp] theorem Dev.onCollarRun_usf (f) : (d.onCollarRun f).usf = d.usf := rfl
@[simp] theorem Dev.onCollarRun_adc (f) : (d.onCollarRun f).adc = d.adc := rfl
@[simp] theorem Dev.onCollarRun_nextId (f) : (d.onCollarRun f).nextId = d.nextId := rfl
@[simp] theorem Dev.onCollarRun_detect (f) : (d.onCollarRun f).detect = d.detect := rfl
@[simp] theorem Dev.onCollarRun_swapAcc (f) : (d.onCollarRun f).swapAcc = d.swapAcc := rfl
@[simp] theorem Dev.onCollarRun_met (f) : (d.onCollarRun f).met = d.met := rfl
@[simp] theorem Dev.onCollarRun_loop (f) : (d.onCollarRun f).loop = d.loop := rfl
@[simp] theorem Dev.onCollarRun_heldOrders (f) : (d.onCollarRun f).heldOrders = d.heldOrders := rfl
@[simp] theorem Dev.onCollarRun_pocket (f) : (d.onCollarRun f).pocket = d.pocket := rfl
@[simp] theorem Dev.onCollarRun_radio (f) : (d.onCollarRun f).radio = d.radio := rfl
@[simp] theorem Dev.onCollarRun_freeN (f) : (d.onCollarRun f).freeN = d.freeN := rfl
@[simp] theorem Dev.onCollarRun_col (f) : (d.onCollarRun f).col = d.col := rfl
@[simp] theorem Dev.onCollarRun_label (f) : (d.onCollarRun f).label = d.label := rfl
@[simp] theorem Dev.onCollarRun_bist (f) : (d.onCollarRun f).bist = d.bist := rfl
@[simp] theorem Dev.onCollarRun_pads (f) : (d.onCollarRun f).pads = d.pads := rfl
@[simp] theorem Dev.onCollarRun_port (f) : (d.onCollarRun f).port = d.port := rfl
@[simp] theorem Dev.onCollarRun_dport (f) : (d.onCollarRun f).dport = d.dport := rfl
@[simp] theorem Dev.onCollarRun_quiesce (f) : (d.onCollarRun f).quiesce = d.quiesce := rfl
@[simp] theorem Dev.onCollarRun_stepDue (f) : (d.onCollarRun f).stepDue = d.stepDue := rfl
@[simp] theorem Dev.onCollarRun_busHeld (f) : (d.onCollarRun f).busHeld = d.busHeld := rfl
@[simp] theorem Dev.onCollarRun_raised (f) : (d.onCollarRun f).raised = d.raised := rfl
@[simp] theorem Dev.onTraceHeld_regs (f) : (d.onTraceHeld f).regs = d.regs := rfl
@[simp] theorem Dev.onTraceHeld_shadow (f) : (d.onTraceHeld f).shadow = d.shadow := rfl
@[simp] theorem Dev.onTraceHeld_mem (f) : (d.onTraceHeld f).mem = d.mem := rfl
@[simp] theorem Dev.onTraceHeld_ecc (f) : (d.onTraceHeld f).ecc = d.ecc := rfl
@[simp] theorem Dev.onTraceHeld_orders (f) : (d.onTraceHeld f).orders = d.orders := rfl
@[simp] theorem Dev.onTraceHeld_sup (f) : (d.onTraceHeld f).sup = d.sup := rfl
@[simp] theorem Dev.onTraceHeld_slack (f) : (d.onTraceHeld f).slack = d.slack := rfl
@[simp] theorem Dev.onTraceHeld_clk (f) : (d.onTraceHeld f).clk = d.clk := rfl
@[simp] theorem Dev.onTraceHeld_tide (f) : (d.onTraceHeld f).tide = d.tide := rfl
@[simp] theorem Dev.onTraceHeld_tmr (f) : (d.onTraceHeld f).tmr = d.tmr := rfl
@[simp] theorem Dev.onTraceHeld_links (f) : (d.onTraceHeld f).links = d.links := rfl
@[simp] theorem Dev.onTraceHeld_seqPrev (f) : (d.onTraceHeld f).seqPrev = d.seqPrev := rfl
@[simp] theorem Dev.onTraceHeld_asleep (f) : (d.onTraceHeld f).asleep = d.asleep := rfl
@[simp] theorem Dev.onTraceHeld_revertDue (f) : (d.onTraceHeld f).revertDue = d.revertDue := rfl
@[simp] theorem Dev.onTraceHeld_held (f) : (d.onTraceHeld f).held = d.held := rfl
@[simp] theorem Dev.onTraceHeld_engC (f) : (d.onTraceHeld f).engC = d.engC := rfl
@[simp] theorem Dev.onTraceHeld_engL (f) : (d.onTraceHeld f).engL = d.engL := rfl
@[simp] theorem Dev.onTraceHeld_engR (f) : (d.onTraceHeld f).engR = d.engR := rfl
@[simp] theorem Dev.onTraceHeld_collarRun (f) : (d.onTraceHeld f).collarRun = d.collarRun := rfl
@[simp] theorem Dev.onTraceHeld_traceHeld (f) : (d.onTraceHeld f).traceHeld = f d.traceHeld := rfl
@[simp] theorem Dev.onTraceHeld_traceN (f) : (d.onTraceHeld f).traceN = d.traceN := rfl
@[simp] theorem Dev.onTraceHeld_sleepTick (f) : (d.onTraceHeld f).sleepTick = d.sleepTick := rfl
@[simp] theorem Dev.onTraceHeld_tdcA (f) : (d.onTraceHeld f).tdcA = d.tdcA := rfl
@[simp] theorem Dev.onTraceHeld_tdcB (f) : (d.onTraceHeld f).tdcB = d.tdcB := rfl
@[simp] theorem Dev.onTraceHeld_usf (f) : (d.onTraceHeld f).usf = d.usf := rfl
@[simp] theorem Dev.onTraceHeld_adc (f) : (d.onTraceHeld f).adc = d.adc := rfl
@[simp] theorem Dev.onTraceHeld_nextId (f) : (d.onTraceHeld f).nextId = d.nextId := rfl
@[simp] theorem Dev.onTraceHeld_detect (f) : (d.onTraceHeld f).detect = d.detect := rfl
@[simp] theorem Dev.onTraceHeld_swapAcc (f) : (d.onTraceHeld f).swapAcc = d.swapAcc := rfl
@[simp] theorem Dev.onTraceHeld_met (f) : (d.onTraceHeld f).met = d.met := rfl
@[simp] theorem Dev.onTraceHeld_loop (f) : (d.onTraceHeld f).loop = d.loop := rfl
@[simp] theorem Dev.onTraceHeld_heldOrders (f) : (d.onTraceHeld f).heldOrders = d.heldOrders := rfl
@[simp] theorem Dev.onTraceHeld_pocket (f) : (d.onTraceHeld f).pocket = d.pocket := rfl
@[simp] theorem Dev.onTraceHeld_radio (f) : (d.onTraceHeld f).radio = d.radio := rfl
@[simp] theorem Dev.onTraceHeld_freeN (f) : (d.onTraceHeld f).freeN = d.freeN := rfl
@[simp] theorem Dev.onTraceHeld_col (f) : (d.onTraceHeld f).col = d.col := rfl
@[simp] theorem Dev.onTraceHeld_label (f) : (d.onTraceHeld f).label = d.label := rfl
@[simp] theorem Dev.onTraceHeld_bist (f) : (d.onTraceHeld f).bist = d.bist := rfl
@[simp] theorem Dev.onTraceHeld_pads (f) : (d.onTraceHeld f).pads = d.pads := rfl
@[simp] theorem Dev.onTraceHeld_port (f) : (d.onTraceHeld f).port = d.port := rfl
@[simp] theorem Dev.onTraceHeld_dport (f) : (d.onTraceHeld f).dport = d.dport := rfl
@[simp] theorem Dev.onTraceHeld_quiesce (f) : (d.onTraceHeld f).quiesce = d.quiesce := rfl
@[simp] theorem Dev.onTraceHeld_stepDue (f) : (d.onTraceHeld f).stepDue = d.stepDue := rfl
@[simp] theorem Dev.onTraceHeld_busHeld (f) : (d.onTraceHeld f).busHeld = d.busHeld := rfl
@[simp] theorem Dev.onTraceHeld_raised (f) : (d.onTraceHeld f).raised = d.raised := rfl
@[simp] theorem Dev.onTraceN_regs (f) : (d.onTraceN f).regs = d.regs := rfl
@[simp] theorem Dev.onTraceN_shadow (f) : (d.onTraceN f).shadow = d.shadow := rfl
@[simp] theorem Dev.onTraceN_mem (f) : (d.onTraceN f).mem = d.mem := rfl
@[simp] theorem Dev.onTraceN_ecc (f) : (d.onTraceN f).ecc = d.ecc := rfl
@[simp] theorem Dev.onTraceN_orders (f) : (d.onTraceN f).orders = d.orders := rfl
@[simp] theorem Dev.onTraceN_sup (f) : (d.onTraceN f).sup = d.sup := rfl
@[simp] theorem Dev.onTraceN_slack (f) : (d.onTraceN f).slack = d.slack := rfl
@[simp] theorem Dev.onTraceN_clk (f) : (d.onTraceN f).clk = d.clk := rfl
@[simp] theorem Dev.onTraceN_tide (f) : (d.onTraceN f).tide = d.tide := rfl
@[simp] theorem Dev.onTraceN_tmr (f) : (d.onTraceN f).tmr = d.tmr := rfl
@[simp] theorem Dev.onTraceN_links (f) : (d.onTraceN f).links = d.links := rfl
@[simp] theorem Dev.onTraceN_seqPrev (f) : (d.onTraceN f).seqPrev = d.seqPrev := rfl
@[simp] theorem Dev.onTraceN_asleep (f) : (d.onTraceN f).asleep = d.asleep := rfl
@[simp] theorem Dev.onTraceN_revertDue (f) : (d.onTraceN f).revertDue = d.revertDue := rfl
@[simp] theorem Dev.onTraceN_held (f) : (d.onTraceN f).held = d.held := rfl
@[simp] theorem Dev.onTraceN_engC (f) : (d.onTraceN f).engC = d.engC := rfl
@[simp] theorem Dev.onTraceN_engL (f) : (d.onTraceN f).engL = d.engL := rfl
@[simp] theorem Dev.onTraceN_engR (f) : (d.onTraceN f).engR = d.engR := rfl
@[simp] theorem Dev.onTraceN_collarRun (f) : (d.onTraceN f).collarRun = d.collarRun := rfl
@[simp] theorem Dev.onTraceN_traceHeld (f) : (d.onTraceN f).traceHeld = d.traceHeld := rfl
@[simp] theorem Dev.onTraceN_traceN (f) : (d.onTraceN f).traceN = f d.traceN := rfl
@[simp] theorem Dev.onTraceN_sleepTick (f) : (d.onTraceN f).sleepTick = d.sleepTick := rfl
@[simp] theorem Dev.onTraceN_tdcA (f) : (d.onTraceN f).tdcA = d.tdcA := rfl
@[simp] theorem Dev.onTraceN_tdcB (f) : (d.onTraceN f).tdcB = d.tdcB := rfl
@[simp] theorem Dev.onTraceN_usf (f) : (d.onTraceN f).usf = d.usf := rfl
@[simp] theorem Dev.onTraceN_adc (f) : (d.onTraceN f).adc = d.adc := rfl
@[simp] theorem Dev.onTraceN_nextId (f) : (d.onTraceN f).nextId = d.nextId := rfl
@[simp] theorem Dev.onTraceN_detect (f) : (d.onTraceN f).detect = d.detect := rfl
@[simp] theorem Dev.onTraceN_swapAcc (f) : (d.onTraceN f).swapAcc = d.swapAcc := rfl
@[simp] theorem Dev.onTraceN_met (f) : (d.onTraceN f).met = d.met := rfl
@[simp] theorem Dev.onTraceN_loop (f) : (d.onTraceN f).loop = d.loop := rfl
@[simp] theorem Dev.onTraceN_heldOrders (f) : (d.onTraceN f).heldOrders = d.heldOrders := rfl
@[simp] theorem Dev.onTraceN_pocket (f) : (d.onTraceN f).pocket = d.pocket := rfl
@[simp] theorem Dev.onTraceN_radio (f) : (d.onTraceN f).radio = d.radio := rfl
@[simp] theorem Dev.onTraceN_freeN (f) : (d.onTraceN f).freeN = d.freeN := rfl
@[simp] theorem Dev.onTraceN_col (f) : (d.onTraceN f).col = d.col := rfl
@[simp] theorem Dev.onTraceN_label (f) : (d.onTraceN f).label = d.label := rfl
@[simp] theorem Dev.onTraceN_bist (f) : (d.onTraceN f).bist = d.bist := rfl
@[simp] theorem Dev.onTraceN_pads (f) : (d.onTraceN f).pads = d.pads := rfl
@[simp] theorem Dev.onTraceN_port (f) : (d.onTraceN f).port = d.port := rfl
@[simp] theorem Dev.onTraceN_dport (f) : (d.onTraceN f).dport = d.dport := rfl
@[simp] theorem Dev.onTraceN_quiesce (f) : (d.onTraceN f).quiesce = d.quiesce := rfl
@[simp] theorem Dev.onTraceN_stepDue (f) : (d.onTraceN f).stepDue = d.stepDue := rfl
@[simp] theorem Dev.onTraceN_busHeld (f) : (d.onTraceN f).busHeld = d.busHeld := rfl
@[simp] theorem Dev.onTraceN_raised (f) : (d.onTraceN f).raised = d.raised := rfl
@[simp] theorem Dev.onSleepTick_regs (f) : (d.onSleepTick f).regs = d.regs := rfl
@[simp] theorem Dev.onSleepTick_shadow (f) : (d.onSleepTick f).shadow = d.shadow := rfl
@[simp] theorem Dev.onSleepTick_mem (f) : (d.onSleepTick f).mem = d.mem := rfl
@[simp] theorem Dev.onSleepTick_ecc (f) : (d.onSleepTick f).ecc = d.ecc := rfl
@[simp] theorem Dev.onSleepTick_orders (f) : (d.onSleepTick f).orders = d.orders := rfl
@[simp] theorem Dev.onSleepTick_sup (f) : (d.onSleepTick f).sup = d.sup := rfl
@[simp] theorem Dev.onSleepTick_slack (f) : (d.onSleepTick f).slack = d.slack := rfl
@[simp] theorem Dev.onSleepTick_clk (f) : (d.onSleepTick f).clk = d.clk := rfl
@[simp] theorem Dev.onSleepTick_tide (f) : (d.onSleepTick f).tide = d.tide := rfl
@[simp] theorem Dev.onSleepTick_tmr (f) : (d.onSleepTick f).tmr = d.tmr := rfl
@[simp] theorem Dev.onSleepTick_links (f) : (d.onSleepTick f).links = d.links := rfl
@[simp] theorem Dev.onSleepTick_seqPrev (f) : (d.onSleepTick f).seqPrev = d.seqPrev := rfl
@[simp] theorem Dev.onSleepTick_asleep (f) : (d.onSleepTick f).asleep = d.asleep := rfl
@[simp] theorem Dev.onSleepTick_revertDue (f) : (d.onSleepTick f).revertDue = d.revertDue := rfl
@[simp] theorem Dev.onSleepTick_held (f) : (d.onSleepTick f).held = d.held := rfl
@[simp] theorem Dev.onSleepTick_engC (f) : (d.onSleepTick f).engC = d.engC := rfl
@[simp] theorem Dev.onSleepTick_engL (f) : (d.onSleepTick f).engL = d.engL := rfl
@[simp] theorem Dev.onSleepTick_engR (f) : (d.onSleepTick f).engR = d.engR := rfl
@[simp] theorem Dev.onSleepTick_collarRun (f) : (d.onSleepTick f).collarRun = d.collarRun := rfl
@[simp] theorem Dev.onSleepTick_traceHeld (f) : (d.onSleepTick f).traceHeld = d.traceHeld := rfl
@[simp] theorem Dev.onSleepTick_traceN (f) : (d.onSleepTick f).traceN = d.traceN := rfl
@[simp] theorem Dev.onSleepTick_sleepTick (f) : (d.onSleepTick f).sleepTick = f d.sleepTick := rfl
@[simp] theorem Dev.onSleepTick_tdcA (f) : (d.onSleepTick f).tdcA = d.tdcA := rfl
@[simp] theorem Dev.onSleepTick_tdcB (f) : (d.onSleepTick f).tdcB = d.tdcB := rfl
@[simp] theorem Dev.onSleepTick_usf (f) : (d.onSleepTick f).usf = d.usf := rfl
@[simp] theorem Dev.onSleepTick_adc (f) : (d.onSleepTick f).adc = d.adc := rfl
@[simp] theorem Dev.onSleepTick_nextId (f) : (d.onSleepTick f).nextId = d.nextId := rfl
@[simp] theorem Dev.onSleepTick_detect (f) : (d.onSleepTick f).detect = d.detect := rfl
@[simp] theorem Dev.onSleepTick_swapAcc (f) : (d.onSleepTick f).swapAcc = d.swapAcc := rfl
@[simp] theorem Dev.onSleepTick_met (f) : (d.onSleepTick f).met = d.met := rfl
@[simp] theorem Dev.onSleepTick_loop (f) : (d.onSleepTick f).loop = d.loop := rfl
@[simp] theorem Dev.onSleepTick_heldOrders (f) : (d.onSleepTick f).heldOrders = d.heldOrders := rfl
@[simp] theorem Dev.onSleepTick_pocket (f) : (d.onSleepTick f).pocket = d.pocket := rfl
@[simp] theorem Dev.onSleepTick_radio (f) : (d.onSleepTick f).radio = d.radio := rfl
@[simp] theorem Dev.onSleepTick_freeN (f) : (d.onSleepTick f).freeN = d.freeN := rfl
@[simp] theorem Dev.onSleepTick_col (f) : (d.onSleepTick f).col = d.col := rfl
@[simp] theorem Dev.onSleepTick_label (f) : (d.onSleepTick f).label = d.label := rfl
@[simp] theorem Dev.onSleepTick_bist (f) : (d.onSleepTick f).bist = d.bist := rfl
@[simp] theorem Dev.onSleepTick_pads (f) : (d.onSleepTick f).pads = d.pads := rfl
@[simp] theorem Dev.onSleepTick_port (f) : (d.onSleepTick f).port = d.port := rfl
@[simp] theorem Dev.onSleepTick_dport (f) : (d.onSleepTick f).dport = d.dport := rfl
@[simp] theorem Dev.onSleepTick_quiesce (f) : (d.onSleepTick f).quiesce = d.quiesce := rfl
@[simp] theorem Dev.onSleepTick_stepDue (f) : (d.onSleepTick f).stepDue = d.stepDue := rfl
@[simp] theorem Dev.onSleepTick_busHeld (f) : (d.onSleepTick f).busHeld = d.busHeld := rfl
@[simp] theorem Dev.onSleepTick_raised (f) : (d.onSleepTick f).raised = d.raised := rfl
@[simp] theorem Dev.onTdcA_regs (f) : (d.onTdcA f).regs = d.regs := rfl
@[simp] theorem Dev.onTdcA_shadow (f) : (d.onTdcA f).shadow = d.shadow := rfl
@[simp] theorem Dev.onTdcA_mem (f) : (d.onTdcA f).mem = d.mem := rfl
@[simp] theorem Dev.onTdcA_ecc (f) : (d.onTdcA f).ecc = d.ecc := rfl
@[simp] theorem Dev.onTdcA_orders (f) : (d.onTdcA f).orders = d.orders := rfl
@[simp] theorem Dev.onTdcA_sup (f) : (d.onTdcA f).sup = d.sup := rfl
@[simp] theorem Dev.onTdcA_slack (f) : (d.onTdcA f).slack = d.slack := rfl
@[simp] theorem Dev.onTdcA_clk (f) : (d.onTdcA f).clk = d.clk := rfl
@[simp] theorem Dev.onTdcA_tide (f) : (d.onTdcA f).tide = d.tide := rfl
@[simp] theorem Dev.onTdcA_tmr (f) : (d.onTdcA f).tmr = d.tmr := rfl
@[simp] theorem Dev.onTdcA_links (f) : (d.onTdcA f).links = d.links := rfl
@[simp] theorem Dev.onTdcA_seqPrev (f) : (d.onTdcA f).seqPrev = d.seqPrev := rfl
@[simp] theorem Dev.onTdcA_asleep (f) : (d.onTdcA f).asleep = d.asleep := rfl
@[simp] theorem Dev.onTdcA_revertDue (f) : (d.onTdcA f).revertDue = d.revertDue := rfl
@[simp] theorem Dev.onTdcA_held (f) : (d.onTdcA f).held = d.held := rfl
@[simp] theorem Dev.onTdcA_engC (f) : (d.onTdcA f).engC = d.engC := rfl
@[simp] theorem Dev.onTdcA_engL (f) : (d.onTdcA f).engL = d.engL := rfl
@[simp] theorem Dev.onTdcA_engR (f) : (d.onTdcA f).engR = d.engR := rfl
@[simp] theorem Dev.onTdcA_collarRun (f) : (d.onTdcA f).collarRun = d.collarRun := rfl
@[simp] theorem Dev.onTdcA_traceHeld (f) : (d.onTdcA f).traceHeld = d.traceHeld := rfl
@[simp] theorem Dev.onTdcA_traceN (f) : (d.onTdcA f).traceN = d.traceN := rfl
@[simp] theorem Dev.onTdcA_sleepTick (f) : (d.onTdcA f).sleepTick = d.sleepTick := rfl
@[simp] theorem Dev.onTdcA_tdcA (f) : (d.onTdcA f).tdcA = f d.tdcA := rfl
@[simp] theorem Dev.onTdcA_tdcB (f) : (d.onTdcA f).tdcB = d.tdcB := rfl
@[simp] theorem Dev.onTdcA_usf (f) : (d.onTdcA f).usf = d.usf := rfl
@[simp] theorem Dev.onTdcA_adc (f) : (d.onTdcA f).adc = d.adc := rfl
@[simp] theorem Dev.onTdcA_nextId (f) : (d.onTdcA f).nextId = d.nextId := rfl
@[simp] theorem Dev.onTdcA_detect (f) : (d.onTdcA f).detect = d.detect := rfl
@[simp] theorem Dev.onTdcA_swapAcc (f) : (d.onTdcA f).swapAcc = d.swapAcc := rfl
@[simp] theorem Dev.onTdcA_met (f) : (d.onTdcA f).met = d.met := rfl
@[simp] theorem Dev.onTdcA_loop (f) : (d.onTdcA f).loop = d.loop := rfl
@[simp] theorem Dev.onTdcA_heldOrders (f) : (d.onTdcA f).heldOrders = d.heldOrders := rfl
@[simp] theorem Dev.onTdcA_pocket (f) : (d.onTdcA f).pocket = d.pocket := rfl
@[simp] theorem Dev.onTdcA_radio (f) : (d.onTdcA f).radio = d.radio := rfl
@[simp] theorem Dev.onTdcA_freeN (f) : (d.onTdcA f).freeN = d.freeN := rfl
@[simp] theorem Dev.onTdcA_col (f) : (d.onTdcA f).col = d.col := rfl
@[simp] theorem Dev.onTdcA_label (f) : (d.onTdcA f).label = d.label := rfl
@[simp] theorem Dev.onTdcA_bist (f) : (d.onTdcA f).bist = d.bist := rfl
@[simp] theorem Dev.onTdcA_pads (f) : (d.onTdcA f).pads = d.pads := rfl
@[simp] theorem Dev.onTdcA_port (f) : (d.onTdcA f).port = d.port := rfl
@[simp] theorem Dev.onTdcA_dport (f) : (d.onTdcA f).dport = d.dport := rfl
@[simp] theorem Dev.onTdcA_quiesce (f) : (d.onTdcA f).quiesce = d.quiesce := rfl
@[simp] theorem Dev.onTdcA_stepDue (f) : (d.onTdcA f).stepDue = d.stepDue := rfl
@[simp] theorem Dev.onTdcA_busHeld (f) : (d.onTdcA f).busHeld = d.busHeld := rfl
@[simp] theorem Dev.onTdcA_raised (f) : (d.onTdcA f).raised = d.raised := rfl
@[simp] theorem Dev.onTdcB_regs (f) : (d.onTdcB f).regs = d.regs := rfl
@[simp] theorem Dev.onTdcB_shadow (f) : (d.onTdcB f).shadow = d.shadow := rfl
@[simp] theorem Dev.onTdcB_mem (f) : (d.onTdcB f).mem = d.mem := rfl
@[simp] theorem Dev.onTdcB_ecc (f) : (d.onTdcB f).ecc = d.ecc := rfl
@[simp] theorem Dev.onTdcB_orders (f) : (d.onTdcB f).orders = d.orders := rfl
@[simp] theorem Dev.onTdcB_sup (f) : (d.onTdcB f).sup = d.sup := rfl
@[simp] theorem Dev.onTdcB_slack (f) : (d.onTdcB f).slack = d.slack := rfl
@[simp] theorem Dev.onTdcB_clk (f) : (d.onTdcB f).clk = d.clk := rfl
@[simp] theorem Dev.onTdcB_tide (f) : (d.onTdcB f).tide = d.tide := rfl
@[simp] theorem Dev.onTdcB_tmr (f) : (d.onTdcB f).tmr = d.tmr := rfl
@[simp] theorem Dev.onTdcB_links (f) : (d.onTdcB f).links = d.links := rfl
@[simp] theorem Dev.onTdcB_seqPrev (f) : (d.onTdcB f).seqPrev = d.seqPrev := rfl
@[simp] theorem Dev.onTdcB_asleep (f) : (d.onTdcB f).asleep = d.asleep := rfl
@[simp] theorem Dev.onTdcB_revertDue (f) : (d.onTdcB f).revertDue = d.revertDue := rfl
@[simp] theorem Dev.onTdcB_held (f) : (d.onTdcB f).held = d.held := rfl
@[simp] theorem Dev.onTdcB_engC (f) : (d.onTdcB f).engC = d.engC := rfl
@[simp] theorem Dev.onTdcB_engL (f) : (d.onTdcB f).engL = d.engL := rfl
@[simp] theorem Dev.onTdcB_engR (f) : (d.onTdcB f).engR = d.engR := rfl
@[simp] theorem Dev.onTdcB_collarRun (f) : (d.onTdcB f).collarRun = d.collarRun := rfl
@[simp] theorem Dev.onTdcB_traceHeld (f) : (d.onTdcB f).traceHeld = d.traceHeld := rfl
@[simp] theorem Dev.onTdcB_traceN (f) : (d.onTdcB f).traceN = d.traceN := rfl
@[simp] theorem Dev.onTdcB_sleepTick (f) : (d.onTdcB f).sleepTick = d.sleepTick := rfl
@[simp] theorem Dev.onTdcB_tdcA (f) : (d.onTdcB f).tdcA = d.tdcA := rfl
@[simp] theorem Dev.onTdcB_tdcB (f) : (d.onTdcB f).tdcB = f d.tdcB := rfl
@[simp] theorem Dev.onTdcB_usf (f) : (d.onTdcB f).usf = d.usf := rfl
@[simp] theorem Dev.onTdcB_adc (f) : (d.onTdcB f).adc = d.adc := rfl
@[simp] theorem Dev.onTdcB_nextId (f) : (d.onTdcB f).nextId = d.nextId := rfl
@[simp] theorem Dev.onTdcB_detect (f) : (d.onTdcB f).detect = d.detect := rfl
@[simp] theorem Dev.onTdcB_swapAcc (f) : (d.onTdcB f).swapAcc = d.swapAcc := rfl
@[simp] theorem Dev.onTdcB_met (f) : (d.onTdcB f).met = d.met := rfl
@[simp] theorem Dev.onTdcB_loop (f) : (d.onTdcB f).loop = d.loop := rfl
@[simp] theorem Dev.onTdcB_heldOrders (f) : (d.onTdcB f).heldOrders = d.heldOrders := rfl
@[simp] theorem Dev.onTdcB_pocket (f) : (d.onTdcB f).pocket = d.pocket := rfl
@[simp] theorem Dev.onTdcB_radio (f) : (d.onTdcB f).radio = d.radio := rfl
@[simp] theorem Dev.onTdcB_freeN (f) : (d.onTdcB f).freeN = d.freeN := rfl
@[simp] theorem Dev.onTdcB_col (f) : (d.onTdcB f).col = d.col := rfl
@[simp] theorem Dev.onTdcB_label (f) : (d.onTdcB f).label = d.label := rfl
@[simp] theorem Dev.onTdcB_bist (f) : (d.onTdcB f).bist = d.bist := rfl
@[simp] theorem Dev.onTdcB_pads (f) : (d.onTdcB f).pads = d.pads := rfl
@[simp] theorem Dev.onTdcB_port (f) : (d.onTdcB f).port = d.port := rfl
@[simp] theorem Dev.onTdcB_dport (f) : (d.onTdcB f).dport = d.dport := rfl
@[simp] theorem Dev.onTdcB_quiesce (f) : (d.onTdcB f).quiesce = d.quiesce := rfl
@[simp] theorem Dev.onTdcB_stepDue (f) : (d.onTdcB f).stepDue = d.stepDue := rfl
@[simp] theorem Dev.onTdcB_busHeld (f) : (d.onTdcB f).busHeld = d.busHeld := rfl
@[simp] theorem Dev.onTdcB_raised (f) : (d.onTdcB f).raised = d.raised := rfl
@[simp] theorem Dev.onUsf_regs (f) : (d.onUsf f).regs = d.regs := rfl
@[simp] theorem Dev.onUsf_shadow (f) : (d.onUsf f).shadow = d.shadow := rfl
@[simp] theorem Dev.onUsf_mem (f) : (d.onUsf f).mem = d.mem := rfl
@[simp] theorem Dev.onUsf_ecc (f) : (d.onUsf f).ecc = d.ecc := rfl
@[simp] theorem Dev.onUsf_orders (f) : (d.onUsf f).orders = d.orders := rfl
@[simp] theorem Dev.onUsf_sup (f) : (d.onUsf f).sup = d.sup := rfl
@[simp] theorem Dev.onUsf_slack (f) : (d.onUsf f).slack = d.slack := rfl
@[simp] theorem Dev.onUsf_clk (f) : (d.onUsf f).clk = d.clk := rfl
@[simp] theorem Dev.onUsf_tide (f) : (d.onUsf f).tide = d.tide := rfl
@[simp] theorem Dev.onUsf_tmr (f) : (d.onUsf f).tmr = d.tmr := rfl
@[simp] theorem Dev.onUsf_links (f) : (d.onUsf f).links = d.links := rfl
@[simp] theorem Dev.onUsf_seqPrev (f) : (d.onUsf f).seqPrev = d.seqPrev := rfl
@[simp] theorem Dev.onUsf_asleep (f) : (d.onUsf f).asleep = d.asleep := rfl
@[simp] theorem Dev.onUsf_revertDue (f) : (d.onUsf f).revertDue = d.revertDue := rfl
@[simp] theorem Dev.onUsf_held (f) : (d.onUsf f).held = d.held := rfl
@[simp] theorem Dev.onUsf_engC (f) : (d.onUsf f).engC = d.engC := rfl
@[simp] theorem Dev.onUsf_engL (f) : (d.onUsf f).engL = d.engL := rfl
@[simp] theorem Dev.onUsf_engR (f) : (d.onUsf f).engR = d.engR := rfl
@[simp] theorem Dev.onUsf_collarRun (f) : (d.onUsf f).collarRun = d.collarRun := rfl
@[simp] theorem Dev.onUsf_traceHeld (f) : (d.onUsf f).traceHeld = d.traceHeld := rfl
@[simp] theorem Dev.onUsf_traceN (f) : (d.onUsf f).traceN = d.traceN := rfl
@[simp] theorem Dev.onUsf_sleepTick (f) : (d.onUsf f).sleepTick = d.sleepTick := rfl
@[simp] theorem Dev.onUsf_tdcA (f) : (d.onUsf f).tdcA = d.tdcA := rfl
@[simp] theorem Dev.onUsf_tdcB (f) : (d.onUsf f).tdcB = d.tdcB := rfl
@[simp] theorem Dev.onUsf_usf (f) : (d.onUsf f).usf = f d.usf := rfl
@[simp] theorem Dev.onUsf_adc (f) : (d.onUsf f).adc = d.adc := rfl
@[simp] theorem Dev.onUsf_nextId (f) : (d.onUsf f).nextId = d.nextId := rfl
@[simp] theorem Dev.onUsf_detect (f) : (d.onUsf f).detect = d.detect := rfl
@[simp] theorem Dev.onUsf_swapAcc (f) : (d.onUsf f).swapAcc = d.swapAcc := rfl
@[simp] theorem Dev.onUsf_met (f) : (d.onUsf f).met = d.met := rfl
@[simp] theorem Dev.onUsf_loop (f) : (d.onUsf f).loop = d.loop := rfl
@[simp] theorem Dev.onUsf_heldOrders (f) : (d.onUsf f).heldOrders = d.heldOrders := rfl
@[simp] theorem Dev.onUsf_pocket (f) : (d.onUsf f).pocket = d.pocket := rfl
@[simp] theorem Dev.onUsf_radio (f) : (d.onUsf f).radio = d.radio := rfl
@[simp] theorem Dev.onUsf_freeN (f) : (d.onUsf f).freeN = d.freeN := rfl
@[simp] theorem Dev.onUsf_col (f) : (d.onUsf f).col = d.col := rfl
@[simp] theorem Dev.onUsf_label (f) : (d.onUsf f).label = d.label := rfl
@[simp] theorem Dev.onUsf_bist (f) : (d.onUsf f).bist = d.bist := rfl
@[simp] theorem Dev.onUsf_pads (f) : (d.onUsf f).pads = d.pads := rfl
@[simp] theorem Dev.onUsf_port (f) : (d.onUsf f).port = d.port := rfl
@[simp] theorem Dev.onUsf_dport (f) : (d.onUsf f).dport = d.dport := rfl
@[simp] theorem Dev.onUsf_quiesce (f) : (d.onUsf f).quiesce = d.quiesce := rfl
@[simp] theorem Dev.onUsf_stepDue (f) : (d.onUsf f).stepDue = d.stepDue := rfl
@[simp] theorem Dev.onUsf_busHeld (f) : (d.onUsf f).busHeld = d.busHeld := rfl
@[simp] theorem Dev.onUsf_raised (f) : (d.onUsf f).raised = d.raised := rfl
@[simp] theorem Dev.onAdc_regs (f) : (d.onAdc f).regs = d.regs := rfl
@[simp] theorem Dev.onAdc_shadow (f) : (d.onAdc f).shadow = d.shadow := rfl
@[simp] theorem Dev.onAdc_mem (f) : (d.onAdc f).mem = d.mem := rfl
@[simp] theorem Dev.onAdc_ecc (f) : (d.onAdc f).ecc = d.ecc := rfl
@[simp] theorem Dev.onAdc_orders (f) : (d.onAdc f).orders = d.orders := rfl
@[simp] theorem Dev.onAdc_sup (f) : (d.onAdc f).sup = d.sup := rfl
@[simp] theorem Dev.onAdc_slack (f) : (d.onAdc f).slack = d.slack := rfl
@[simp] theorem Dev.onAdc_clk (f) : (d.onAdc f).clk = d.clk := rfl
@[simp] theorem Dev.onAdc_tide (f) : (d.onAdc f).tide = d.tide := rfl
@[simp] theorem Dev.onAdc_tmr (f) : (d.onAdc f).tmr = d.tmr := rfl
@[simp] theorem Dev.onAdc_links (f) : (d.onAdc f).links = d.links := rfl
@[simp] theorem Dev.onAdc_seqPrev (f) : (d.onAdc f).seqPrev = d.seqPrev := rfl
@[simp] theorem Dev.onAdc_asleep (f) : (d.onAdc f).asleep = d.asleep := rfl
@[simp] theorem Dev.onAdc_revertDue (f) : (d.onAdc f).revertDue = d.revertDue := rfl
@[simp] theorem Dev.onAdc_held (f) : (d.onAdc f).held = d.held := rfl
@[simp] theorem Dev.onAdc_engC (f) : (d.onAdc f).engC = d.engC := rfl
@[simp] theorem Dev.onAdc_engL (f) : (d.onAdc f).engL = d.engL := rfl
@[simp] theorem Dev.onAdc_engR (f) : (d.onAdc f).engR = d.engR := rfl
@[simp] theorem Dev.onAdc_collarRun (f) : (d.onAdc f).collarRun = d.collarRun := rfl
@[simp] theorem Dev.onAdc_traceHeld (f) : (d.onAdc f).traceHeld = d.traceHeld := rfl
@[simp] theorem Dev.onAdc_traceN (f) : (d.onAdc f).traceN = d.traceN := rfl
@[simp] theorem Dev.onAdc_sleepTick (f) : (d.onAdc f).sleepTick = d.sleepTick := rfl
@[simp] theorem Dev.onAdc_tdcA (f) : (d.onAdc f).tdcA = d.tdcA := rfl
@[simp] theorem Dev.onAdc_tdcB (f) : (d.onAdc f).tdcB = d.tdcB := rfl
@[simp] theorem Dev.onAdc_usf (f) : (d.onAdc f).usf = d.usf := rfl
@[simp] theorem Dev.onAdc_adc (f) : (d.onAdc f).adc = f d.adc := rfl
@[simp] theorem Dev.onAdc_nextId (f) : (d.onAdc f).nextId = d.nextId := rfl
@[simp] theorem Dev.onAdc_detect (f) : (d.onAdc f).detect = d.detect := rfl
@[simp] theorem Dev.onAdc_swapAcc (f) : (d.onAdc f).swapAcc = d.swapAcc := rfl
@[simp] theorem Dev.onAdc_met (f) : (d.onAdc f).met = d.met := rfl
@[simp] theorem Dev.onAdc_loop (f) : (d.onAdc f).loop = d.loop := rfl
@[simp] theorem Dev.onAdc_heldOrders (f) : (d.onAdc f).heldOrders = d.heldOrders := rfl
@[simp] theorem Dev.onAdc_pocket (f) : (d.onAdc f).pocket = d.pocket := rfl
@[simp] theorem Dev.onAdc_radio (f) : (d.onAdc f).radio = d.radio := rfl
@[simp] theorem Dev.onAdc_freeN (f) : (d.onAdc f).freeN = d.freeN := rfl
@[simp] theorem Dev.onAdc_col (f) : (d.onAdc f).col = d.col := rfl
@[simp] theorem Dev.onAdc_label (f) : (d.onAdc f).label = d.label := rfl
@[simp] theorem Dev.onAdc_bist (f) : (d.onAdc f).bist = d.bist := rfl
@[simp] theorem Dev.onAdc_pads (f) : (d.onAdc f).pads = d.pads := rfl
@[simp] theorem Dev.onAdc_port (f) : (d.onAdc f).port = d.port := rfl
@[simp] theorem Dev.onAdc_dport (f) : (d.onAdc f).dport = d.dport := rfl
@[simp] theorem Dev.onAdc_quiesce (f) : (d.onAdc f).quiesce = d.quiesce := rfl
@[simp] theorem Dev.onAdc_stepDue (f) : (d.onAdc f).stepDue = d.stepDue := rfl
@[simp] theorem Dev.onAdc_busHeld (f) : (d.onAdc f).busHeld = d.busHeld := rfl
@[simp] theorem Dev.onAdc_raised (f) : (d.onAdc f).raised = d.raised := rfl
@[simp] theorem Dev.onNextId_regs (f) : (d.onNextId f).regs = d.regs := rfl
@[simp] theorem Dev.onNextId_shadow (f) : (d.onNextId f).shadow = d.shadow := rfl
@[simp] theorem Dev.onNextId_mem (f) : (d.onNextId f).mem = d.mem := rfl
@[simp] theorem Dev.onNextId_ecc (f) : (d.onNextId f).ecc = d.ecc := rfl
@[simp] theorem Dev.onNextId_orders (f) : (d.onNextId f).orders = d.orders := rfl
@[simp] theorem Dev.onNextId_sup (f) : (d.onNextId f).sup = d.sup := rfl
@[simp] theorem Dev.onNextId_slack (f) : (d.onNextId f).slack = d.slack := rfl
@[simp] theorem Dev.onNextId_clk (f) : (d.onNextId f).clk = d.clk := rfl
@[simp] theorem Dev.onNextId_tide (f) : (d.onNextId f).tide = d.tide := rfl
@[simp] theorem Dev.onNextId_tmr (f) : (d.onNextId f).tmr = d.tmr := rfl
@[simp] theorem Dev.onNextId_links (f) : (d.onNextId f).links = d.links := rfl
@[simp] theorem Dev.onNextId_seqPrev (f) : (d.onNextId f).seqPrev = d.seqPrev := rfl
@[simp] theorem Dev.onNextId_asleep (f) : (d.onNextId f).asleep = d.asleep := rfl
@[simp] theorem Dev.onNextId_revertDue (f) : (d.onNextId f).revertDue = d.revertDue := rfl
@[simp] theorem Dev.onNextId_held (f) : (d.onNextId f).held = d.held := rfl
@[simp] theorem Dev.onNextId_engC (f) : (d.onNextId f).engC = d.engC := rfl
@[simp] theorem Dev.onNextId_engL (f) : (d.onNextId f).engL = d.engL := rfl
@[simp] theorem Dev.onNextId_engR (f) : (d.onNextId f).engR = d.engR := rfl
@[simp] theorem Dev.onNextId_collarRun (f) : (d.onNextId f).collarRun = d.collarRun := rfl
@[simp] theorem Dev.onNextId_traceHeld (f) : (d.onNextId f).traceHeld = d.traceHeld := rfl
@[simp] theorem Dev.onNextId_traceN (f) : (d.onNextId f).traceN = d.traceN := rfl
@[simp] theorem Dev.onNextId_sleepTick (f) : (d.onNextId f).sleepTick = d.sleepTick := rfl
@[simp] theorem Dev.onNextId_tdcA (f) : (d.onNextId f).tdcA = d.tdcA := rfl
@[simp] theorem Dev.onNextId_tdcB (f) : (d.onNextId f).tdcB = d.tdcB := rfl
@[simp] theorem Dev.onNextId_usf (f) : (d.onNextId f).usf = d.usf := rfl
@[simp] theorem Dev.onNextId_adc (f) : (d.onNextId f).adc = d.adc := rfl
@[simp] theorem Dev.onNextId_nextId (f) : (d.onNextId f).nextId = f d.nextId := rfl
@[simp] theorem Dev.onNextId_detect (f) : (d.onNextId f).detect = d.detect := rfl
@[simp] theorem Dev.onNextId_swapAcc (f) : (d.onNextId f).swapAcc = d.swapAcc := rfl
@[simp] theorem Dev.onNextId_met (f) : (d.onNextId f).met = d.met := rfl
@[simp] theorem Dev.onNextId_loop (f) : (d.onNextId f).loop = d.loop := rfl
@[simp] theorem Dev.onNextId_heldOrders (f) : (d.onNextId f).heldOrders = d.heldOrders := rfl
@[simp] theorem Dev.onNextId_pocket (f) : (d.onNextId f).pocket = d.pocket := rfl
@[simp] theorem Dev.onNextId_radio (f) : (d.onNextId f).radio = d.radio := rfl
@[simp] theorem Dev.onNextId_freeN (f) : (d.onNextId f).freeN = d.freeN := rfl
@[simp] theorem Dev.onNextId_col (f) : (d.onNextId f).col = d.col := rfl
@[simp] theorem Dev.onNextId_label (f) : (d.onNextId f).label = d.label := rfl
@[simp] theorem Dev.onNextId_bist (f) : (d.onNextId f).bist = d.bist := rfl
@[simp] theorem Dev.onNextId_pads (f) : (d.onNextId f).pads = d.pads := rfl
@[simp] theorem Dev.onNextId_port (f) : (d.onNextId f).port = d.port := rfl
@[simp] theorem Dev.onNextId_dport (f) : (d.onNextId f).dport = d.dport := rfl
@[simp] theorem Dev.onNextId_quiesce (f) : (d.onNextId f).quiesce = d.quiesce := rfl
@[simp] theorem Dev.onNextId_stepDue (f) : (d.onNextId f).stepDue = d.stepDue := rfl
@[simp] theorem Dev.onNextId_busHeld (f) : (d.onNextId f).busHeld = d.busHeld := rfl
@[simp] theorem Dev.onNextId_raised (f) : (d.onNextId f).raised = d.raised := rfl
@[simp] theorem Dev.onDetect_regs (f) : (d.onDetect f).regs = d.regs := rfl
@[simp] theorem Dev.onDetect_shadow (f) : (d.onDetect f).shadow = d.shadow := rfl
@[simp] theorem Dev.onDetect_mem (f) : (d.onDetect f).mem = d.mem := rfl
@[simp] theorem Dev.onDetect_ecc (f) : (d.onDetect f).ecc = d.ecc := rfl
@[simp] theorem Dev.onDetect_orders (f) : (d.onDetect f).orders = d.orders := rfl
@[simp] theorem Dev.onDetect_sup (f) : (d.onDetect f).sup = d.sup := rfl
@[simp] theorem Dev.onDetect_slack (f) : (d.onDetect f).slack = d.slack := rfl
@[simp] theorem Dev.onDetect_clk (f) : (d.onDetect f).clk = d.clk := rfl
@[simp] theorem Dev.onDetect_tide (f) : (d.onDetect f).tide = d.tide := rfl
@[simp] theorem Dev.onDetect_tmr (f) : (d.onDetect f).tmr = d.tmr := rfl
@[simp] theorem Dev.onDetect_links (f) : (d.onDetect f).links = d.links := rfl
@[simp] theorem Dev.onDetect_seqPrev (f) : (d.onDetect f).seqPrev = d.seqPrev := rfl
@[simp] theorem Dev.onDetect_asleep (f) : (d.onDetect f).asleep = d.asleep := rfl
@[simp] theorem Dev.onDetect_revertDue (f) : (d.onDetect f).revertDue = d.revertDue := rfl
@[simp] theorem Dev.onDetect_held (f) : (d.onDetect f).held = d.held := rfl
@[simp] theorem Dev.onDetect_engC (f) : (d.onDetect f).engC = d.engC := rfl
@[simp] theorem Dev.onDetect_engL (f) : (d.onDetect f).engL = d.engL := rfl
@[simp] theorem Dev.onDetect_engR (f) : (d.onDetect f).engR = d.engR := rfl
@[simp] theorem Dev.onDetect_collarRun (f) : (d.onDetect f).collarRun = d.collarRun := rfl
@[simp] theorem Dev.onDetect_traceHeld (f) : (d.onDetect f).traceHeld = d.traceHeld := rfl
@[simp] theorem Dev.onDetect_traceN (f) : (d.onDetect f).traceN = d.traceN := rfl
@[simp] theorem Dev.onDetect_sleepTick (f) : (d.onDetect f).sleepTick = d.sleepTick := rfl
@[simp] theorem Dev.onDetect_tdcA (f) : (d.onDetect f).tdcA = d.tdcA := rfl
@[simp] theorem Dev.onDetect_tdcB (f) : (d.onDetect f).tdcB = d.tdcB := rfl
@[simp] theorem Dev.onDetect_usf (f) : (d.onDetect f).usf = d.usf := rfl
@[simp] theorem Dev.onDetect_adc (f) : (d.onDetect f).adc = d.adc := rfl
@[simp] theorem Dev.onDetect_nextId (f) : (d.onDetect f).nextId = d.nextId := rfl
@[simp] theorem Dev.onDetect_detect (f) : (d.onDetect f).detect = f d.detect := rfl
@[simp] theorem Dev.onDetect_swapAcc (f) : (d.onDetect f).swapAcc = d.swapAcc := rfl
@[simp] theorem Dev.onDetect_met (f) : (d.onDetect f).met = d.met := rfl
@[simp] theorem Dev.onDetect_loop (f) : (d.onDetect f).loop = d.loop := rfl
@[simp] theorem Dev.onDetect_heldOrders (f) : (d.onDetect f).heldOrders = d.heldOrders := rfl
@[simp] theorem Dev.onDetect_pocket (f) : (d.onDetect f).pocket = d.pocket := rfl
@[simp] theorem Dev.onDetect_radio (f) : (d.onDetect f).radio = d.radio := rfl
@[simp] theorem Dev.onDetect_freeN (f) : (d.onDetect f).freeN = d.freeN := rfl
@[simp] theorem Dev.onDetect_col (f) : (d.onDetect f).col = d.col := rfl
@[simp] theorem Dev.onDetect_label (f) : (d.onDetect f).label = d.label := rfl
@[simp] theorem Dev.onDetect_bist (f) : (d.onDetect f).bist = d.bist := rfl
@[simp] theorem Dev.onDetect_pads (f) : (d.onDetect f).pads = d.pads := rfl
@[simp] theorem Dev.onDetect_port (f) : (d.onDetect f).port = d.port := rfl
@[simp] theorem Dev.onDetect_dport (f) : (d.onDetect f).dport = d.dport := rfl
@[simp] theorem Dev.onDetect_quiesce (f) : (d.onDetect f).quiesce = d.quiesce := rfl
@[simp] theorem Dev.onDetect_stepDue (f) : (d.onDetect f).stepDue = d.stepDue := rfl
@[simp] theorem Dev.onDetect_busHeld (f) : (d.onDetect f).busHeld = d.busHeld := rfl
@[simp] theorem Dev.onDetect_raised (f) : (d.onDetect f).raised = d.raised := rfl
@[simp] theorem Dev.onSwapAcc_regs (f) : (d.onSwapAcc f).regs = d.regs := rfl
@[simp] theorem Dev.onSwapAcc_shadow (f) : (d.onSwapAcc f).shadow = d.shadow := rfl
@[simp] theorem Dev.onSwapAcc_mem (f) : (d.onSwapAcc f).mem = d.mem := rfl
@[simp] theorem Dev.onSwapAcc_ecc (f) : (d.onSwapAcc f).ecc = d.ecc := rfl
@[simp] theorem Dev.onSwapAcc_orders (f) : (d.onSwapAcc f).orders = d.orders := rfl
@[simp] theorem Dev.onSwapAcc_sup (f) : (d.onSwapAcc f).sup = d.sup := rfl
@[simp] theorem Dev.onSwapAcc_slack (f) : (d.onSwapAcc f).slack = d.slack := rfl
@[simp] theorem Dev.onSwapAcc_clk (f) : (d.onSwapAcc f).clk = d.clk := rfl
@[simp] theorem Dev.onSwapAcc_tide (f) : (d.onSwapAcc f).tide = d.tide := rfl
@[simp] theorem Dev.onSwapAcc_tmr (f) : (d.onSwapAcc f).tmr = d.tmr := rfl
@[simp] theorem Dev.onSwapAcc_links (f) : (d.onSwapAcc f).links = d.links := rfl
@[simp] theorem Dev.onSwapAcc_seqPrev (f) : (d.onSwapAcc f).seqPrev = d.seqPrev := rfl
@[simp] theorem Dev.onSwapAcc_asleep (f) : (d.onSwapAcc f).asleep = d.asleep := rfl
@[simp] theorem Dev.onSwapAcc_revertDue (f) : (d.onSwapAcc f).revertDue = d.revertDue := rfl
@[simp] theorem Dev.onSwapAcc_held (f) : (d.onSwapAcc f).held = d.held := rfl
@[simp] theorem Dev.onSwapAcc_engC (f) : (d.onSwapAcc f).engC = d.engC := rfl
@[simp] theorem Dev.onSwapAcc_engL (f) : (d.onSwapAcc f).engL = d.engL := rfl
@[simp] theorem Dev.onSwapAcc_engR (f) : (d.onSwapAcc f).engR = d.engR := rfl
@[simp] theorem Dev.onSwapAcc_collarRun (f) : (d.onSwapAcc f).collarRun = d.collarRun := rfl
@[simp] theorem Dev.onSwapAcc_traceHeld (f) : (d.onSwapAcc f).traceHeld = d.traceHeld := rfl
@[simp] theorem Dev.onSwapAcc_traceN (f) : (d.onSwapAcc f).traceN = d.traceN := rfl
@[simp] theorem Dev.onSwapAcc_sleepTick (f) : (d.onSwapAcc f).sleepTick = d.sleepTick := rfl
@[simp] theorem Dev.onSwapAcc_tdcA (f) : (d.onSwapAcc f).tdcA = d.tdcA := rfl
@[simp] theorem Dev.onSwapAcc_tdcB (f) : (d.onSwapAcc f).tdcB = d.tdcB := rfl
@[simp] theorem Dev.onSwapAcc_usf (f) : (d.onSwapAcc f).usf = d.usf := rfl
@[simp] theorem Dev.onSwapAcc_adc (f) : (d.onSwapAcc f).adc = d.adc := rfl
@[simp] theorem Dev.onSwapAcc_nextId (f) : (d.onSwapAcc f).nextId = d.nextId := rfl
@[simp] theorem Dev.onSwapAcc_detect (f) : (d.onSwapAcc f).detect = d.detect := rfl
@[simp] theorem Dev.onSwapAcc_swapAcc (f) : (d.onSwapAcc f).swapAcc = f d.swapAcc := rfl
@[simp] theorem Dev.onSwapAcc_met (f) : (d.onSwapAcc f).met = d.met := rfl
@[simp] theorem Dev.onSwapAcc_loop (f) : (d.onSwapAcc f).loop = d.loop := rfl
@[simp] theorem Dev.onSwapAcc_heldOrders (f) : (d.onSwapAcc f).heldOrders = d.heldOrders := rfl
@[simp] theorem Dev.onSwapAcc_pocket (f) : (d.onSwapAcc f).pocket = d.pocket := rfl
@[simp] theorem Dev.onSwapAcc_radio (f) : (d.onSwapAcc f).radio = d.radio := rfl
@[simp] theorem Dev.onSwapAcc_freeN (f) : (d.onSwapAcc f).freeN = d.freeN := rfl
@[simp] theorem Dev.onSwapAcc_col (f) : (d.onSwapAcc f).col = d.col := rfl
@[simp] theorem Dev.onSwapAcc_label (f) : (d.onSwapAcc f).label = d.label := rfl
@[simp] theorem Dev.onSwapAcc_bist (f) : (d.onSwapAcc f).bist = d.bist := rfl
@[simp] theorem Dev.onSwapAcc_pads (f) : (d.onSwapAcc f).pads = d.pads := rfl
@[simp] theorem Dev.onSwapAcc_port (f) : (d.onSwapAcc f).port = d.port := rfl
@[simp] theorem Dev.onSwapAcc_dport (f) : (d.onSwapAcc f).dport = d.dport := rfl
@[simp] theorem Dev.onSwapAcc_quiesce (f) : (d.onSwapAcc f).quiesce = d.quiesce := rfl
@[simp] theorem Dev.onSwapAcc_stepDue (f) : (d.onSwapAcc f).stepDue = d.stepDue := rfl
@[simp] theorem Dev.onSwapAcc_busHeld (f) : (d.onSwapAcc f).busHeld = d.busHeld := rfl
@[simp] theorem Dev.onSwapAcc_raised (f) : (d.onSwapAcc f).raised = d.raised := rfl
@[simp] theorem Dev.onMet_regs (f) : (d.onMet f).regs = d.regs := rfl
@[simp] theorem Dev.onMet_shadow (f) : (d.onMet f).shadow = d.shadow := rfl
@[simp] theorem Dev.onMet_mem (f) : (d.onMet f).mem = d.mem := rfl
@[simp] theorem Dev.onMet_ecc (f) : (d.onMet f).ecc = d.ecc := rfl
@[simp] theorem Dev.onMet_orders (f) : (d.onMet f).orders = d.orders := rfl
@[simp] theorem Dev.onMet_sup (f) : (d.onMet f).sup = d.sup := rfl
@[simp] theorem Dev.onMet_slack (f) : (d.onMet f).slack = d.slack := rfl
@[simp] theorem Dev.onMet_clk (f) : (d.onMet f).clk = d.clk := rfl
@[simp] theorem Dev.onMet_tide (f) : (d.onMet f).tide = d.tide := rfl
@[simp] theorem Dev.onMet_tmr (f) : (d.onMet f).tmr = d.tmr := rfl
@[simp] theorem Dev.onMet_links (f) : (d.onMet f).links = d.links := rfl
@[simp] theorem Dev.onMet_seqPrev (f) : (d.onMet f).seqPrev = d.seqPrev := rfl
@[simp] theorem Dev.onMet_asleep (f) : (d.onMet f).asleep = d.asleep := rfl
@[simp] theorem Dev.onMet_revertDue (f) : (d.onMet f).revertDue = d.revertDue := rfl
@[simp] theorem Dev.onMet_held (f) : (d.onMet f).held = d.held := rfl
@[simp] theorem Dev.onMet_engC (f) : (d.onMet f).engC = d.engC := rfl
@[simp] theorem Dev.onMet_engL (f) : (d.onMet f).engL = d.engL := rfl
@[simp] theorem Dev.onMet_engR (f) : (d.onMet f).engR = d.engR := rfl
@[simp] theorem Dev.onMet_collarRun (f) : (d.onMet f).collarRun = d.collarRun := rfl
@[simp] theorem Dev.onMet_traceHeld (f) : (d.onMet f).traceHeld = d.traceHeld := rfl
@[simp] theorem Dev.onMet_traceN (f) : (d.onMet f).traceN = d.traceN := rfl
@[simp] theorem Dev.onMet_sleepTick (f) : (d.onMet f).sleepTick = d.sleepTick := rfl
@[simp] theorem Dev.onMet_tdcA (f) : (d.onMet f).tdcA = d.tdcA := rfl
@[simp] theorem Dev.onMet_tdcB (f) : (d.onMet f).tdcB = d.tdcB := rfl
@[simp] theorem Dev.onMet_usf (f) : (d.onMet f).usf = d.usf := rfl
@[simp] theorem Dev.onMet_adc (f) : (d.onMet f).adc = d.adc := rfl
@[simp] theorem Dev.onMet_nextId (f) : (d.onMet f).nextId = d.nextId := rfl
@[simp] theorem Dev.onMet_detect (f) : (d.onMet f).detect = d.detect := rfl
@[simp] theorem Dev.onMet_swapAcc (f) : (d.onMet f).swapAcc = d.swapAcc := rfl
@[simp] theorem Dev.onMet_met (f) : (d.onMet f).met = f d.met := rfl
@[simp] theorem Dev.onMet_loop (f) : (d.onMet f).loop = d.loop := rfl
@[simp] theorem Dev.onMet_heldOrders (f) : (d.onMet f).heldOrders = d.heldOrders := rfl
@[simp] theorem Dev.onMet_pocket (f) : (d.onMet f).pocket = d.pocket := rfl
@[simp] theorem Dev.onMet_radio (f) : (d.onMet f).radio = d.radio := rfl
@[simp] theorem Dev.onMet_freeN (f) : (d.onMet f).freeN = d.freeN := rfl
@[simp] theorem Dev.onMet_col (f) : (d.onMet f).col = d.col := rfl
@[simp] theorem Dev.onMet_label (f) : (d.onMet f).label = d.label := rfl
@[simp] theorem Dev.onMet_bist (f) : (d.onMet f).bist = d.bist := rfl
@[simp] theorem Dev.onMet_pads (f) : (d.onMet f).pads = d.pads := rfl
@[simp] theorem Dev.onMet_port (f) : (d.onMet f).port = d.port := rfl
@[simp] theorem Dev.onMet_dport (f) : (d.onMet f).dport = d.dport := rfl
@[simp] theorem Dev.onMet_quiesce (f) : (d.onMet f).quiesce = d.quiesce := rfl
@[simp] theorem Dev.onMet_stepDue (f) : (d.onMet f).stepDue = d.stepDue := rfl
@[simp] theorem Dev.onMet_busHeld (f) : (d.onMet f).busHeld = d.busHeld := rfl
@[simp] theorem Dev.onMet_raised (f) : (d.onMet f).raised = d.raised := rfl
@[simp] theorem Dev.onLoop_regs (f) : (d.onLoop f).regs = d.regs := rfl
@[simp] theorem Dev.onLoop_shadow (f) : (d.onLoop f).shadow = d.shadow := rfl
@[simp] theorem Dev.onLoop_mem (f) : (d.onLoop f).mem = d.mem := rfl
@[simp] theorem Dev.onLoop_ecc (f) : (d.onLoop f).ecc = d.ecc := rfl
@[simp] theorem Dev.onLoop_orders (f) : (d.onLoop f).orders = d.orders := rfl
@[simp] theorem Dev.onLoop_sup (f) : (d.onLoop f).sup = d.sup := rfl
@[simp] theorem Dev.onLoop_slack (f) : (d.onLoop f).slack = d.slack := rfl
@[simp] theorem Dev.onLoop_clk (f) : (d.onLoop f).clk = d.clk := rfl
@[simp] theorem Dev.onLoop_tide (f) : (d.onLoop f).tide = d.tide := rfl
@[simp] theorem Dev.onLoop_tmr (f) : (d.onLoop f).tmr = d.tmr := rfl
@[simp] theorem Dev.onLoop_links (f) : (d.onLoop f).links = d.links := rfl
@[simp] theorem Dev.onLoop_seqPrev (f) : (d.onLoop f).seqPrev = d.seqPrev := rfl
@[simp] theorem Dev.onLoop_asleep (f) : (d.onLoop f).asleep = d.asleep := rfl
@[simp] theorem Dev.onLoop_revertDue (f) : (d.onLoop f).revertDue = d.revertDue := rfl
@[simp] theorem Dev.onLoop_held (f) : (d.onLoop f).held = d.held := rfl
@[simp] theorem Dev.onLoop_engC (f) : (d.onLoop f).engC = d.engC := rfl
@[simp] theorem Dev.onLoop_engL (f) : (d.onLoop f).engL = d.engL := rfl
@[simp] theorem Dev.onLoop_engR (f) : (d.onLoop f).engR = d.engR := rfl
@[simp] theorem Dev.onLoop_collarRun (f) : (d.onLoop f).collarRun = d.collarRun := rfl
@[simp] theorem Dev.onLoop_traceHeld (f) : (d.onLoop f).traceHeld = d.traceHeld := rfl
@[simp] theorem Dev.onLoop_traceN (f) : (d.onLoop f).traceN = d.traceN := rfl
@[simp] theorem Dev.onLoop_sleepTick (f) : (d.onLoop f).sleepTick = d.sleepTick := rfl
@[simp] theorem Dev.onLoop_tdcA (f) : (d.onLoop f).tdcA = d.tdcA := rfl
@[simp] theorem Dev.onLoop_tdcB (f) : (d.onLoop f).tdcB = d.tdcB := rfl
@[simp] theorem Dev.onLoop_usf (f) : (d.onLoop f).usf = d.usf := rfl
@[simp] theorem Dev.onLoop_adc (f) : (d.onLoop f).adc = d.adc := rfl
@[simp] theorem Dev.onLoop_nextId (f) : (d.onLoop f).nextId = d.nextId := rfl
@[simp] theorem Dev.onLoop_detect (f) : (d.onLoop f).detect = d.detect := rfl
@[simp] theorem Dev.onLoop_swapAcc (f) : (d.onLoop f).swapAcc = d.swapAcc := rfl
@[simp] theorem Dev.onLoop_met (f) : (d.onLoop f).met = d.met := rfl
@[simp] theorem Dev.onLoop_loop (f) : (d.onLoop f).loop = f d.loop := rfl
@[simp] theorem Dev.onLoop_heldOrders (f) : (d.onLoop f).heldOrders = d.heldOrders := rfl
@[simp] theorem Dev.onLoop_pocket (f) : (d.onLoop f).pocket = d.pocket := rfl
@[simp] theorem Dev.onLoop_radio (f) : (d.onLoop f).radio = d.radio := rfl
@[simp] theorem Dev.onLoop_freeN (f) : (d.onLoop f).freeN = d.freeN := rfl
@[simp] theorem Dev.onLoop_col (f) : (d.onLoop f).col = d.col := rfl
@[simp] theorem Dev.onLoop_label (f) : (d.onLoop f).label = d.label := rfl
@[simp] theorem Dev.onLoop_bist (f) : (d.onLoop f).bist = d.bist := rfl
@[simp] theorem Dev.onLoop_pads (f) : (d.onLoop f).pads = d.pads := rfl
@[simp] theorem Dev.onLoop_port (f) : (d.onLoop f).port = d.port := rfl
@[simp] theorem Dev.onLoop_dport (f) : (d.onLoop f).dport = d.dport := rfl
@[simp] theorem Dev.onLoop_quiesce (f) : (d.onLoop f).quiesce = d.quiesce := rfl
@[simp] theorem Dev.onLoop_stepDue (f) : (d.onLoop f).stepDue = d.stepDue := rfl
@[simp] theorem Dev.onLoop_busHeld (f) : (d.onLoop f).busHeld = d.busHeld := rfl
@[simp] theorem Dev.onLoop_raised (f) : (d.onLoop f).raised = d.raised := rfl
@[simp] theorem Dev.onHeldOrders_regs (f) : (d.onHeldOrders f).regs = d.regs := rfl
@[simp] theorem Dev.onHeldOrders_shadow (f) : (d.onHeldOrders f).shadow = d.shadow := rfl
@[simp] theorem Dev.onHeldOrders_mem (f) : (d.onHeldOrders f).mem = d.mem := rfl
@[simp] theorem Dev.onHeldOrders_ecc (f) : (d.onHeldOrders f).ecc = d.ecc := rfl
@[simp] theorem Dev.onHeldOrders_orders (f) : (d.onHeldOrders f).orders = d.orders := rfl
@[simp] theorem Dev.onHeldOrders_sup (f) : (d.onHeldOrders f).sup = d.sup := rfl
@[simp] theorem Dev.onHeldOrders_slack (f) : (d.onHeldOrders f).slack = d.slack := rfl
@[simp] theorem Dev.onHeldOrders_clk (f) : (d.onHeldOrders f).clk = d.clk := rfl
@[simp] theorem Dev.onHeldOrders_tide (f) : (d.onHeldOrders f).tide = d.tide := rfl
@[simp] theorem Dev.onHeldOrders_tmr (f) : (d.onHeldOrders f).tmr = d.tmr := rfl
@[simp] theorem Dev.onHeldOrders_links (f) : (d.onHeldOrders f).links = d.links := rfl
@[simp] theorem Dev.onHeldOrders_seqPrev (f) : (d.onHeldOrders f).seqPrev = d.seqPrev := rfl
@[simp] theorem Dev.onHeldOrders_asleep (f) : (d.onHeldOrders f).asleep = d.asleep := rfl
@[simp] theorem Dev.onHeldOrders_revertDue (f) : (d.onHeldOrders f).revertDue = d.revertDue := rfl
@[simp] theorem Dev.onHeldOrders_held (f) : (d.onHeldOrders f).held = d.held := rfl
@[simp] theorem Dev.onHeldOrders_engC (f) : (d.onHeldOrders f).engC = d.engC := rfl
@[simp] theorem Dev.onHeldOrders_engL (f) : (d.onHeldOrders f).engL = d.engL := rfl
@[simp] theorem Dev.onHeldOrders_engR (f) : (d.onHeldOrders f).engR = d.engR := rfl
@[simp] theorem Dev.onHeldOrders_collarRun (f) : (d.onHeldOrders f).collarRun = d.collarRun := rfl
@[simp] theorem Dev.onHeldOrders_traceHeld (f) : (d.onHeldOrders f).traceHeld = d.traceHeld := rfl
@[simp] theorem Dev.onHeldOrders_traceN (f) : (d.onHeldOrders f).traceN = d.traceN := rfl
@[simp] theorem Dev.onHeldOrders_sleepTick (f) : (d.onHeldOrders f).sleepTick = d.sleepTick := rfl
@[simp] theorem Dev.onHeldOrders_tdcA (f) : (d.onHeldOrders f).tdcA = d.tdcA := rfl
@[simp] theorem Dev.onHeldOrders_tdcB (f) : (d.onHeldOrders f).tdcB = d.tdcB := rfl
@[simp] theorem Dev.onHeldOrders_usf (f) : (d.onHeldOrders f).usf = d.usf := rfl
@[simp] theorem Dev.onHeldOrders_adc (f) : (d.onHeldOrders f).adc = d.adc := rfl
@[simp] theorem Dev.onHeldOrders_nextId (f) : (d.onHeldOrders f).nextId = d.nextId := rfl
@[simp] theorem Dev.onHeldOrders_detect (f) : (d.onHeldOrders f).detect = d.detect := rfl
@[simp] theorem Dev.onHeldOrders_swapAcc (f) : (d.onHeldOrders f).swapAcc = d.swapAcc := rfl
@[simp] theorem Dev.onHeldOrders_met (f) : (d.onHeldOrders f).met = d.met := rfl
@[simp] theorem Dev.onHeldOrders_loop (f) : (d.onHeldOrders f).loop = d.loop := rfl
@[simp] theorem Dev.onHeldOrders_heldOrders (f) : (d.onHeldOrders f).heldOrders = f d.heldOrders := rfl
@[simp] theorem Dev.onHeldOrders_pocket (f) : (d.onHeldOrders f).pocket = d.pocket := rfl
@[simp] theorem Dev.onHeldOrders_radio (f) : (d.onHeldOrders f).radio = d.radio := rfl
@[simp] theorem Dev.onHeldOrders_freeN (f) : (d.onHeldOrders f).freeN = d.freeN := rfl
@[simp] theorem Dev.onHeldOrders_col (f) : (d.onHeldOrders f).col = d.col := rfl
@[simp] theorem Dev.onHeldOrders_label (f) : (d.onHeldOrders f).label = d.label := rfl
@[simp] theorem Dev.onHeldOrders_bist (f) : (d.onHeldOrders f).bist = d.bist := rfl
@[simp] theorem Dev.onHeldOrders_pads (f) : (d.onHeldOrders f).pads = d.pads := rfl
@[simp] theorem Dev.onHeldOrders_port (f) : (d.onHeldOrders f).port = d.port := rfl
@[simp] theorem Dev.onHeldOrders_dport (f) : (d.onHeldOrders f).dport = d.dport := rfl
@[simp] theorem Dev.onHeldOrders_quiesce (f) : (d.onHeldOrders f).quiesce = d.quiesce := rfl
@[simp] theorem Dev.onHeldOrders_stepDue (f) : (d.onHeldOrders f).stepDue = d.stepDue := rfl
@[simp] theorem Dev.onHeldOrders_busHeld (f) : (d.onHeldOrders f).busHeld = d.busHeld := rfl
@[simp] theorem Dev.onHeldOrders_raised (f) : (d.onHeldOrders f).raised = d.raised := rfl
@[simp] theorem Dev.onPocket_regs (f) : (d.onPocket f).regs = d.regs := rfl
@[simp] theorem Dev.onPocket_shadow (f) : (d.onPocket f).shadow = d.shadow := rfl
@[simp] theorem Dev.onPocket_mem (f) : (d.onPocket f).mem = d.mem := rfl
@[simp] theorem Dev.onPocket_ecc (f) : (d.onPocket f).ecc = d.ecc := rfl
@[simp] theorem Dev.onPocket_orders (f) : (d.onPocket f).orders = d.orders := rfl
@[simp] theorem Dev.onPocket_sup (f) : (d.onPocket f).sup = d.sup := rfl
@[simp] theorem Dev.onPocket_slack (f) : (d.onPocket f).slack = d.slack := rfl
@[simp] theorem Dev.onPocket_clk (f) : (d.onPocket f).clk = d.clk := rfl
@[simp] theorem Dev.onPocket_tide (f) : (d.onPocket f).tide = d.tide := rfl
@[simp] theorem Dev.onPocket_tmr (f) : (d.onPocket f).tmr = d.tmr := rfl
@[simp] theorem Dev.onPocket_links (f) : (d.onPocket f).links = d.links := rfl
@[simp] theorem Dev.onPocket_seqPrev (f) : (d.onPocket f).seqPrev = d.seqPrev := rfl
@[simp] theorem Dev.onPocket_asleep (f) : (d.onPocket f).asleep = d.asleep := rfl
@[simp] theorem Dev.onPocket_revertDue (f) : (d.onPocket f).revertDue = d.revertDue := rfl
@[simp] theorem Dev.onPocket_held (f) : (d.onPocket f).held = d.held := rfl
@[simp] theorem Dev.onPocket_engC (f) : (d.onPocket f).engC = d.engC := rfl
@[simp] theorem Dev.onPocket_engL (f) : (d.onPocket f).engL = d.engL := rfl
@[simp] theorem Dev.onPocket_engR (f) : (d.onPocket f).engR = d.engR := rfl
@[simp] theorem Dev.onPocket_collarRun (f) : (d.onPocket f).collarRun = d.collarRun := rfl
@[simp] theorem Dev.onPocket_traceHeld (f) : (d.onPocket f).traceHeld = d.traceHeld := rfl
@[simp] theorem Dev.onPocket_traceN (f) : (d.onPocket f).traceN = d.traceN := rfl
@[simp] theorem Dev.onPocket_sleepTick (f) : (d.onPocket f).sleepTick = d.sleepTick := rfl
@[simp] theorem Dev.onPocket_tdcA (f) : (d.onPocket f).tdcA = d.tdcA := rfl
@[simp] theorem Dev.onPocket_tdcB (f) : (d.onPocket f).tdcB = d.tdcB := rfl
@[simp] theorem Dev.onPocket_usf (f) : (d.onPocket f).usf = d.usf := rfl
@[simp] theorem Dev.onPocket_adc (f) : (d.onPocket f).adc = d.adc := rfl
@[simp] theorem Dev.onPocket_nextId (f) : (d.onPocket f).nextId = d.nextId := rfl
@[simp] theorem Dev.onPocket_detect (f) : (d.onPocket f).detect = d.detect := rfl
@[simp] theorem Dev.onPocket_swapAcc (f) : (d.onPocket f).swapAcc = d.swapAcc := rfl
@[simp] theorem Dev.onPocket_met (f) : (d.onPocket f).met = d.met := rfl
@[simp] theorem Dev.onPocket_loop (f) : (d.onPocket f).loop = d.loop := rfl
@[simp] theorem Dev.onPocket_heldOrders (f) : (d.onPocket f).heldOrders = d.heldOrders := rfl
@[simp] theorem Dev.onPocket_pocket (f) : (d.onPocket f).pocket = f d.pocket := rfl
@[simp] theorem Dev.onPocket_radio (f) : (d.onPocket f).radio = d.radio := rfl
@[simp] theorem Dev.onPocket_freeN (f) : (d.onPocket f).freeN = d.freeN := rfl
@[simp] theorem Dev.onPocket_col (f) : (d.onPocket f).col = d.col := rfl
@[simp] theorem Dev.onPocket_label (f) : (d.onPocket f).label = d.label := rfl
@[simp] theorem Dev.onPocket_bist (f) : (d.onPocket f).bist = d.bist := rfl
@[simp] theorem Dev.onPocket_pads (f) : (d.onPocket f).pads = d.pads := rfl
@[simp] theorem Dev.onPocket_port (f) : (d.onPocket f).port = d.port := rfl
@[simp] theorem Dev.onPocket_dport (f) : (d.onPocket f).dport = d.dport := rfl
@[simp] theorem Dev.onPocket_quiesce (f) : (d.onPocket f).quiesce = d.quiesce := rfl
@[simp] theorem Dev.onPocket_stepDue (f) : (d.onPocket f).stepDue = d.stepDue := rfl
@[simp] theorem Dev.onPocket_busHeld (f) : (d.onPocket f).busHeld = d.busHeld := rfl
@[simp] theorem Dev.onPocket_raised (f) : (d.onPocket f).raised = d.raised := rfl
@[simp] theorem Dev.onRadio_regs (f) : (d.onRadio f).regs = d.regs := rfl
@[simp] theorem Dev.onRadio_shadow (f) : (d.onRadio f).shadow = d.shadow := rfl
@[simp] theorem Dev.onRadio_mem (f) : (d.onRadio f).mem = d.mem := rfl
@[simp] theorem Dev.onRadio_ecc (f) : (d.onRadio f).ecc = d.ecc := rfl
@[simp] theorem Dev.onRadio_orders (f) : (d.onRadio f).orders = d.orders := rfl
@[simp] theorem Dev.onRadio_sup (f) : (d.onRadio f).sup = d.sup := rfl
@[simp] theorem Dev.onRadio_slack (f) : (d.onRadio f).slack = d.slack := rfl
@[simp] theorem Dev.onRadio_clk (f) : (d.onRadio f).clk = d.clk := rfl
@[simp] theorem Dev.onRadio_tide (f) : (d.onRadio f).tide = d.tide := rfl
@[simp] theorem Dev.onRadio_tmr (f) : (d.onRadio f).tmr = d.tmr := rfl
@[simp] theorem Dev.onRadio_links (f) : (d.onRadio f).links = d.links := rfl
@[simp] theorem Dev.onRadio_seqPrev (f) : (d.onRadio f).seqPrev = d.seqPrev := rfl
@[simp] theorem Dev.onRadio_asleep (f) : (d.onRadio f).asleep = d.asleep := rfl
@[simp] theorem Dev.onRadio_revertDue (f) : (d.onRadio f).revertDue = d.revertDue := rfl
@[simp] theorem Dev.onRadio_held (f) : (d.onRadio f).held = d.held := rfl
@[simp] theorem Dev.onRadio_engC (f) : (d.onRadio f).engC = d.engC := rfl
@[simp] theorem Dev.onRadio_engL (f) : (d.onRadio f).engL = d.engL := rfl
@[simp] theorem Dev.onRadio_engR (f) : (d.onRadio f).engR = d.engR := rfl
@[simp] theorem Dev.onRadio_collarRun (f) : (d.onRadio f).collarRun = d.collarRun := rfl
@[simp] theorem Dev.onRadio_traceHeld (f) : (d.onRadio f).traceHeld = d.traceHeld := rfl
@[simp] theorem Dev.onRadio_traceN (f) : (d.onRadio f).traceN = d.traceN := rfl
@[simp] theorem Dev.onRadio_sleepTick (f) : (d.onRadio f).sleepTick = d.sleepTick := rfl
@[simp] theorem Dev.onRadio_tdcA (f) : (d.onRadio f).tdcA = d.tdcA := rfl
@[simp] theorem Dev.onRadio_tdcB (f) : (d.onRadio f).tdcB = d.tdcB := rfl
@[simp] theorem Dev.onRadio_usf (f) : (d.onRadio f).usf = d.usf := rfl
@[simp] theorem Dev.onRadio_adc (f) : (d.onRadio f).adc = d.adc := rfl
@[simp] theorem Dev.onRadio_nextId (f) : (d.onRadio f).nextId = d.nextId := rfl
@[simp] theorem Dev.onRadio_detect (f) : (d.onRadio f).detect = d.detect := rfl
@[simp] theorem Dev.onRadio_swapAcc (f) : (d.onRadio f).swapAcc = d.swapAcc := rfl
@[simp] theorem Dev.onRadio_met (f) : (d.onRadio f).met = d.met := rfl
@[simp] theorem Dev.onRadio_loop (f) : (d.onRadio f).loop = d.loop := rfl
@[simp] theorem Dev.onRadio_heldOrders (f) : (d.onRadio f).heldOrders = d.heldOrders := rfl
@[simp] theorem Dev.onRadio_pocket (f) : (d.onRadio f).pocket = d.pocket := rfl
@[simp] theorem Dev.onRadio_radio (f) : (d.onRadio f).radio = f d.radio := rfl
@[simp] theorem Dev.onRadio_freeN (f) : (d.onRadio f).freeN = d.freeN := rfl
@[simp] theorem Dev.onRadio_col (f) : (d.onRadio f).col = d.col := rfl
@[simp] theorem Dev.onRadio_label (f) : (d.onRadio f).label = d.label := rfl
@[simp] theorem Dev.onRadio_bist (f) : (d.onRadio f).bist = d.bist := rfl
@[simp] theorem Dev.onRadio_pads (f) : (d.onRadio f).pads = d.pads := rfl
@[simp] theorem Dev.onRadio_port (f) : (d.onRadio f).port = d.port := rfl
@[simp] theorem Dev.onRadio_dport (f) : (d.onRadio f).dport = d.dport := rfl
@[simp] theorem Dev.onRadio_quiesce (f) : (d.onRadio f).quiesce = d.quiesce := rfl
@[simp] theorem Dev.onRadio_stepDue (f) : (d.onRadio f).stepDue = d.stepDue := rfl
@[simp] theorem Dev.onRadio_busHeld (f) : (d.onRadio f).busHeld = d.busHeld := rfl
@[simp] theorem Dev.onRadio_raised (f) : (d.onRadio f).raised = d.raised := rfl
@[simp] theorem Dev.onFreeN_regs (f) : (d.onFreeN f).regs = d.regs := rfl
@[simp] theorem Dev.onFreeN_shadow (f) : (d.onFreeN f).shadow = d.shadow := rfl
@[simp] theorem Dev.onFreeN_mem (f) : (d.onFreeN f).mem = d.mem := rfl
@[simp] theorem Dev.onFreeN_ecc (f) : (d.onFreeN f).ecc = d.ecc := rfl
@[simp] theorem Dev.onFreeN_orders (f) : (d.onFreeN f).orders = d.orders := rfl
@[simp] theorem Dev.onFreeN_sup (f) : (d.onFreeN f).sup = d.sup := rfl
@[simp] theorem Dev.onFreeN_slack (f) : (d.onFreeN f).slack = d.slack := rfl
@[simp] theorem Dev.onFreeN_clk (f) : (d.onFreeN f).clk = d.clk := rfl
@[simp] theorem Dev.onFreeN_tide (f) : (d.onFreeN f).tide = d.tide := rfl
@[simp] theorem Dev.onFreeN_tmr (f) : (d.onFreeN f).tmr = d.tmr := rfl
@[simp] theorem Dev.onFreeN_links (f) : (d.onFreeN f).links = d.links := rfl
@[simp] theorem Dev.onFreeN_seqPrev (f) : (d.onFreeN f).seqPrev = d.seqPrev := rfl
@[simp] theorem Dev.onFreeN_asleep (f) : (d.onFreeN f).asleep = d.asleep := rfl
@[simp] theorem Dev.onFreeN_revertDue (f) : (d.onFreeN f).revertDue = d.revertDue := rfl
@[simp] theorem Dev.onFreeN_held (f) : (d.onFreeN f).held = d.held := rfl
@[simp] theorem Dev.onFreeN_engC (f) : (d.onFreeN f).engC = d.engC := rfl
@[simp] theorem Dev.onFreeN_engL (f) : (d.onFreeN f).engL = d.engL := rfl
@[simp] theorem Dev.onFreeN_engR (f) : (d.onFreeN f).engR = d.engR := rfl
@[simp] theorem Dev.onFreeN_collarRun (f) : (d.onFreeN f).collarRun = d.collarRun := rfl
@[simp] theorem Dev.onFreeN_traceHeld (f) : (d.onFreeN f).traceHeld = d.traceHeld := rfl
@[simp] theorem Dev.onFreeN_traceN (f) : (d.onFreeN f).traceN = d.traceN := rfl
@[simp] theorem Dev.onFreeN_sleepTick (f) : (d.onFreeN f).sleepTick = d.sleepTick := rfl
@[simp] theorem Dev.onFreeN_tdcA (f) : (d.onFreeN f).tdcA = d.tdcA := rfl
@[simp] theorem Dev.onFreeN_tdcB (f) : (d.onFreeN f).tdcB = d.tdcB := rfl
@[simp] theorem Dev.onFreeN_usf (f) : (d.onFreeN f).usf = d.usf := rfl
@[simp] theorem Dev.onFreeN_adc (f) : (d.onFreeN f).adc = d.adc := rfl
@[simp] theorem Dev.onFreeN_nextId (f) : (d.onFreeN f).nextId = d.nextId := rfl
@[simp] theorem Dev.onFreeN_detect (f) : (d.onFreeN f).detect = d.detect := rfl
@[simp] theorem Dev.onFreeN_swapAcc (f) : (d.onFreeN f).swapAcc = d.swapAcc := rfl
@[simp] theorem Dev.onFreeN_met (f) : (d.onFreeN f).met = d.met := rfl
@[simp] theorem Dev.onFreeN_loop (f) : (d.onFreeN f).loop = d.loop := rfl
@[simp] theorem Dev.onFreeN_heldOrders (f) : (d.onFreeN f).heldOrders = d.heldOrders := rfl
@[simp] theorem Dev.onFreeN_pocket (f) : (d.onFreeN f).pocket = d.pocket := rfl
@[simp] theorem Dev.onFreeN_radio (f) : (d.onFreeN f).radio = d.radio := rfl
@[simp] theorem Dev.onFreeN_freeN (f) : (d.onFreeN f).freeN = f d.freeN := rfl
@[simp] theorem Dev.onFreeN_col (f) : (d.onFreeN f).col = d.col := rfl
@[simp] theorem Dev.onFreeN_label (f) : (d.onFreeN f).label = d.label := rfl
@[simp] theorem Dev.onFreeN_bist (f) : (d.onFreeN f).bist = d.bist := rfl
@[simp] theorem Dev.onFreeN_pads (f) : (d.onFreeN f).pads = d.pads := rfl
@[simp] theorem Dev.onFreeN_port (f) : (d.onFreeN f).port = d.port := rfl
@[simp] theorem Dev.onFreeN_dport (f) : (d.onFreeN f).dport = d.dport := rfl
@[simp] theorem Dev.onFreeN_quiesce (f) : (d.onFreeN f).quiesce = d.quiesce := rfl
@[simp] theorem Dev.onFreeN_stepDue (f) : (d.onFreeN f).stepDue = d.stepDue := rfl
@[simp] theorem Dev.onFreeN_busHeld (f) : (d.onFreeN f).busHeld = d.busHeld := rfl
@[simp] theorem Dev.onFreeN_raised (f) : (d.onFreeN f).raised = d.raised := rfl
@[simp] theorem Dev.onCol_regs (f) : (d.onCol f).regs = d.regs := rfl
@[simp] theorem Dev.onCol_shadow (f) : (d.onCol f).shadow = d.shadow := rfl
@[simp] theorem Dev.onCol_mem (f) : (d.onCol f).mem = d.mem := rfl
@[simp] theorem Dev.onCol_ecc (f) : (d.onCol f).ecc = d.ecc := rfl
@[simp] theorem Dev.onCol_orders (f) : (d.onCol f).orders = d.orders := rfl
@[simp] theorem Dev.onCol_sup (f) : (d.onCol f).sup = d.sup := rfl
@[simp] theorem Dev.onCol_slack (f) : (d.onCol f).slack = d.slack := rfl
@[simp] theorem Dev.onCol_clk (f) : (d.onCol f).clk = d.clk := rfl
@[simp] theorem Dev.onCol_tide (f) : (d.onCol f).tide = d.tide := rfl
@[simp] theorem Dev.onCol_tmr (f) : (d.onCol f).tmr = d.tmr := rfl
@[simp] theorem Dev.onCol_links (f) : (d.onCol f).links = d.links := rfl
@[simp] theorem Dev.onCol_seqPrev (f) : (d.onCol f).seqPrev = d.seqPrev := rfl
@[simp] theorem Dev.onCol_asleep (f) : (d.onCol f).asleep = d.asleep := rfl
@[simp] theorem Dev.onCol_revertDue (f) : (d.onCol f).revertDue = d.revertDue := rfl
@[simp] theorem Dev.onCol_held (f) : (d.onCol f).held = d.held := rfl
@[simp] theorem Dev.onCol_engC (f) : (d.onCol f).engC = d.engC := rfl
@[simp] theorem Dev.onCol_engL (f) : (d.onCol f).engL = d.engL := rfl
@[simp] theorem Dev.onCol_engR (f) : (d.onCol f).engR = d.engR := rfl
@[simp] theorem Dev.onCol_collarRun (f) : (d.onCol f).collarRun = d.collarRun := rfl
@[simp] theorem Dev.onCol_traceHeld (f) : (d.onCol f).traceHeld = d.traceHeld := rfl
@[simp] theorem Dev.onCol_traceN (f) : (d.onCol f).traceN = d.traceN := rfl
@[simp] theorem Dev.onCol_sleepTick (f) : (d.onCol f).sleepTick = d.sleepTick := rfl
@[simp] theorem Dev.onCol_tdcA (f) : (d.onCol f).tdcA = d.tdcA := rfl
@[simp] theorem Dev.onCol_tdcB (f) : (d.onCol f).tdcB = d.tdcB := rfl
@[simp] theorem Dev.onCol_usf (f) : (d.onCol f).usf = d.usf := rfl
@[simp] theorem Dev.onCol_adc (f) : (d.onCol f).adc = d.adc := rfl
@[simp] theorem Dev.onCol_nextId (f) : (d.onCol f).nextId = d.nextId := rfl
@[simp] theorem Dev.onCol_detect (f) : (d.onCol f).detect = d.detect := rfl
@[simp] theorem Dev.onCol_swapAcc (f) : (d.onCol f).swapAcc = d.swapAcc := rfl
@[simp] theorem Dev.onCol_met (f) : (d.onCol f).met = d.met := rfl
@[simp] theorem Dev.onCol_loop (f) : (d.onCol f).loop = d.loop := rfl
@[simp] theorem Dev.onCol_heldOrders (f) : (d.onCol f).heldOrders = d.heldOrders := rfl
@[simp] theorem Dev.onCol_pocket (f) : (d.onCol f).pocket = d.pocket := rfl
@[simp] theorem Dev.onCol_radio (f) : (d.onCol f).radio = d.radio := rfl
@[simp] theorem Dev.onCol_freeN (f) : (d.onCol f).freeN = d.freeN := rfl
@[simp] theorem Dev.onCol_col (f) : (d.onCol f).col = f d.col := rfl
@[simp] theorem Dev.onCol_label (f) : (d.onCol f).label = d.label := rfl
@[simp] theorem Dev.onCol_bist (f) : (d.onCol f).bist = d.bist := rfl
@[simp] theorem Dev.onCol_pads (f) : (d.onCol f).pads = d.pads := rfl
@[simp] theorem Dev.onCol_port (f) : (d.onCol f).port = d.port := rfl
@[simp] theorem Dev.onCol_dport (f) : (d.onCol f).dport = d.dport := rfl
@[simp] theorem Dev.onCol_quiesce (f) : (d.onCol f).quiesce = d.quiesce := rfl
@[simp] theorem Dev.onCol_stepDue (f) : (d.onCol f).stepDue = d.stepDue := rfl
@[simp] theorem Dev.onCol_busHeld (f) : (d.onCol f).busHeld = d.busHeld := rfl
@[simp] theorem Dev.onCol_raised (f) : (d.onCol f).raised = d.raised := rfl
@[simp] theorem Dev.onLabel_regs (f) : (d.onLabel f).regs = d.regs := rfl
@[simp] theorem Dev.onLabel_shadow (f) : (d.onLabel f).shadow = d.shadow := rfl
@[simp] theorem Dev.onLabel_mem (f) : (d.onLabel f).mem = d.mem := rfl
@[simp] theorem Dev.onLabel_ecc (f) : (d.onLabel f).ecc = d.ecc := rfl
@[simp] theorem Dev.onLabel_orders (f) : (d.onLabel f).orders = d.orders := rfl
@[simp] theorem Dev.onLabel_sup (f) : (d.onLabel f).sup = d.sup := rfl
@[simp] theorem Dev.onLabel_slack (f) : (d.onLabel f).slack = d.slack := rfl
@[simp] theorem Dev.onLabel_clk (f) : (d.onLabel f).clk = d.clk := rfl
@[simp] theorem Dev.onLabel_tide (f) : (d.onLabel f).tide = d.tide := rfl
@[simp] theorem Dev.onLabel_tmr (f) : (d.onLabel f).tmr = d.tmr := rfl
@[simp] theorem Dev.onLabel_links (f) : (d.onLabel f).links = d.links := rfl
@[simp] theorem Dev.onLabel_seqPrev (f) : (d.onLabel f).seqPrev = d.seqPrev := rfl
@[simp] theorem Dev.onLabel_asleep (f) : (d.onLabel f).asleep = d.asleep := rfl
@[simp] theorem Dev.onLabel_revertDue (f) : (d.onLabel f).revertDue = d.revertDue := rfl
@[simp] theorem Dev.onLabel_held (f) : (d.onLabel f).held = d.held := rfl
@[simp] theorem Dev.onLabel_engC (f) : (d.onLabel f).engC = d.engC := rfl
@[simp] theorem Dev.onLabel_engL (f) : (d.onLabel f).engL = d.engL := rfl
@[simp] theorem Dev.onLabel_engR (f) : (d.onLabel f).engR = d.engR := rfl
@[simp] theorem Dev.onLabel_collarRun (f) : (d.onLabel f).collarRun = d.collarRun := rfl
@[simp] theorem Dev.onLabel_traceHeld (f) : (d.onLabel f).traceHeld = d.traceHeld := rfl
@[simp] theorem Dev.onLabel_traceN (f) : (d.onLabel f).traceN = d.traceN := rfl
@[simp] theorem Dev.onLabel_sleepTick (f) : (d.onLabel f).sleepTick = d.sleepTick := rfl
@[simp] theorem Dev.onLabel_tdcA (f) : (d.onLabel f).tdcA = d.tdcA := rfl
@[simp] theorem Dev.onLabel_tdcB (f) : (d.onLabel f).tdcB = d.tdcB := rfl
@[simp] theorem Dev.onLabel_usf (f) : (d.onLabel f).usf = d.usf := rfl
@[simp] theorem Dev.onLabel_adc (f) : (d.onLabel f).adc = d.adc := rfl
@[simp] theorem Dev.onLabel_nextId (f) : (d.onLabel f).nextId = d.nextId := rfl
@[simp] theorem Dev.onLabel_detect (f) : (d.onLabel f).detect = d.detect := rfl
@[simp] theorem Dev.onLabel_swapAcc (f) : (d.onLabel f).swapAcc = d.swapAcc := rfl
@[simp] theorem Dev.onLabel_met (f) : (d.onLabel f).met = d.met := rfl
@[simp] theorem Dev.onLabel_loop (f) : (d.onLabel f).loop = d.loop := rfl
@[simp] theorem Dev.onLabel_heldOrders (f) : (d.onLabel f).heldOrders = d.heldOrders := rfl
@[simp] theorem Dev.onLabel_pocket (f) : (d.onLabel f).pocket = d.pocket := rfl
@[simp] theorem Dev.onLabel_radio (f) : (d.onLabel f).radio = d.radio := rfl
@[simp] theorem Dev.onLabel_freeN (f) : (d.onLabel f).freeN = d.freeN := rfl
@[simp] theorem Dev.onLabel_col (f) : (d.onLabel f).col = d.col := rfl
@[simp] theorem Dev.onLabel_label (f) : (d.onLabel f).label = f d.label := rfl
@[simp] theorem Dev.onLabel_bist (f) : (d.onLabel f).bist = d.bist := rfl
@[simp] theorem Dev.onLabel_pads (f) : (d.onLabel f).pads = d.pads := rfl
@[simp] theorem Dev.onLabel_port (f) : (d.onLabel f).port = d.port := rfl
@[simp] theorem Dev.onLabel_dport (f) : (d.onLabel f).dport = d.dport := rfl
@[simp] theorem Dev.onLabel_quiesce (f) : (d.onLabel f).quiesce = d.quiesce := rfl
@[simp] theorem Dev.onLabel_stepDue (f) : (d.onLabel f).stepDue = d.stepDue := rfl
@[simp] theorem Dev.onLabel_busHeld (f) : (d.onLabel f).busHeld = d.busHeld := rfl
@[simp] theorem Dev.onLabel_raised (f) : (d.onLabel f).raised = d.raised := rfl
@[simp] theorem Dev.onBist_regs (f) : (d.onBist f).regs = d.regs := rfl
@[simp] theorem Dev.onBist_shadow (f) : (d.onBist f).shadow = d.shadow := rfl
@[simp] theorem Dev.onBist_mem (f) : (d.onBist f).mem = d.mem := rfl
@[simp] theorem Dev.onBist_ecc (f) : (d.onBist f).ecc = d.ecc := rfl
@[simp] theorem Dev.onBist_orders (f) : (d.onBist f).orders = d.orders := rfl
@[simp] theorem Dev.onBist_sup (f) : (d.onBist f).sup = d.sup := rfl
@[simp] theorem Dev.onBist_slack (f) : (d.onBist f).slack = d.slack := rfl
@[simp] theorem Dev.onBist_clk (f) : (d.onBist f).clk = d.clk := rfl
@[simp] theorem Dev.onBist_tide (f) : (d.onBist f).tide = d.tide := rfl
@[simp] theorem Dev.onBist_tmr (f) : (d.onBist f).tmr = d.tmr := rfl
@[simp] theorem Dev.onBist_links (f) : (d.onBist f).links = d.links := rfl
@[simp] theorem Dev.onBist_seqPrev (f) : (d.onBist f).seqPrev = d.seqPrev := rfl
@[simp] theorem Dev.onBist_asleep (f) : (d.onBist f).asleep = d.asleep := rfl
@[simp] theorem Dev.onBist_revertDue (f) : (d.onBist f).revertDue = d.revertDue := rfl
@[simp] theorem Dev.onBist_held (f) : (d.onBist f).held = d.held := rfl
@[simp] theorem Dev.onBist_engC (f) : (d.onBist f).engC = d.engC := rfl
@[simp] theorem Dev.onBist_engL (f) : (d.onBist f).engL = d.engL := rfl
@[simp] theorem Dev.onBist_engR (f) : (d.onBist f).engR = d.engR := rfl
@[simp] theorem Dev.onBist_collarRun (f) : (d.onBist f).collarRun = d.collarRun := rfl
@[simp] theorem Dev.onBist_traceHeld (f) : (d.onBist f).traceHeld = d.traceHeld := rfl
@[simp] theorem Dev.onBist_traceN (f) : (d.onBist f).traceN = d.traceN := rfl
@[simp] theorem Dev.onBist_sleepTick (f) : (d.onBist f).sleepTick = d.sleepTick := rfl
@[simp] theorem Dev.onBist_tdcA (f) : (d.onBist f).tdcA = d.tdcA := rfl
@[simp] theorem Dev.onBist_tdcB (f) : (d.onBist f).tdcB = d.tdcB := rfl
@[simp] theorem Dev.onBist_usf (f) : (d.onBist f).usf = d.usf := rfl
@[simp] theorem Dev.onBist_adc (f) : (d.onBist f).adc = d.adc := rfl
@[simp] theorem Dev.onBist_nextId (f) : (d.onBist f).nextId = d.nextId := rfl
@[simp] theorem Dev.onBist_detect (f) : (d.onBist f).detect = d.detect := rfl
@[simp] theorem Dev.onBist_swapAcc (f) : (d.onBist f).swapAcc = d.swapAcc := rfl
@[simp] theorem Dev.onBist_met (f) : (d.onBist f).met = d.met := rfl
@[simp] theorem Dev.onBist_loop (f) : (d.onBist f).loop = d.loop := rfl
@[simp] theorem Dev.onBist_heldOrders (f) : (d.onBist f).heldOrders = d.heldOrders := rfl
@[simp] theorem Dev.onBist_pocket (f) : (d.onBist f).pocket = d.pocket := rfl
@[simp] theorem Dev.onBist_radio (f) : (d.onBist f).radio = d.radio := rfl
@[simp] theorem Dev.onBist_freeN (f) : (d.onBist f).freeN = d.freeN := rfl
@[simp] theorem Dev.onBist_col (f) : (d.onBist f).col = d.col := rfl
@[simp] theorem Dev.onBist_label (f) : (d.onBist f).label = d.label := rfl
@[simp] theorem Dev.onBist_bist (f) : (d.onBist f).bist = f d.bist := rfl
@[simp] theorem Dev.onBist_pads (f) : (d.onBist f).pads = d.pads := rfl
@[simp] theorem Dev.onBist_port (f) : (d.onBist f).port = d.port := rfl
@[simp] theorem Dev.onBist_dport (f) : (d.onBist f).dport = d.dport := rfl
@[simp] theorem Dev.onBist_quiesce (f) : (d.onBist f).quiesce = d.quiesce := rfl
@[simp] theorem Dev.onBist_stepDue (f) : (d.onBist f).stepDue = d.stepDue := rfl
@[simp] theorem Dev.onBist_busHeld (f) : (d.onBist f).busHeld = d.busHeld := rfl
@[simp] theorem Dev.onBist_raised (f) : (d.onBist f).raised = d.raised := rfl
@[simp] theorem Dev.onPads_regs (f) : (d.onPads f).regs = d.regs := rfl
@[simp] theorem Dev.onPads_shadow (f) : (d.onPads f).shadow = d.shadow := rfl
@[simp] theorem Dev.onPads_mem (f) : (d.onPads f).mem = d.mem := rfl
@[simp] theorem Dev.onPads_ecc (f) : (d.onPads f).ecc = d.ecc := rfl
@[simp] theorem Dev.onPads_orders (f) : (d.onPads f).orders = d.orders := rfl
@[simp] theorem Dev.onPads_sup (f) : (d.onPads f).sup = d.sup := rfl
@[simp] theorem Dev.onPads_slack (f) : (d.onPads f).slack = d.slack := rfl
@[simp] theorem Dev.onPads_clk (f) : (d.onPads f).clk = d.clk := rfl
@[simp] theorem Dev.onPads_tide (f) : (d.onPads f).tide = d.tide := rfl
@[simp] theorem Dev.onPads_tmr (f) : (d.onPads f).tmr = d.tmr := rfl
@[simp] theorem Dev.onPads_links (f) : (d.onPads f).links = d.links := rfl
@[simp] theorem Dev.onPads_seqPrev (f) : (d.onPads f).seqPrev = d.seqPrev := rfl
@[simp] theorem Dev.onPads_asleep (f) : (d.onPads f).asleep = d.asleep := rfl
@[simp] theorem Dev.onPads_revertDue (f) : (d.onPads f).revertDue = d.revertDue := rfl
@[simp] theorem Dev.onPads_held (f) : (d.onPads f).held = d.held := rfl
@[simp] theorem Dev.onPads_engC (f) : (d.onPads f).engC = d.engC := rfl
@[simp] theorem Dev.onPads_engL (f) : (d.onPads f).engL = d.engL := rfl
@[simp] theorem Dev.onPads_engR (f) : (d.onPads f).engR = d.engR := rfl
@[simp] theorem Dev.onPads_collarRun (f) : (d.onPads f).collarRun = d.collarRun := rfl
@[simp] theorem Dev.onPads_traceHeld (f) : (d.onPads f).traceHeld = d.traceHeld := rfl
@[simp] theorem Dev.onPads_traceN (f) : (d.onPads f).traceN = d.traceN := rfl
@[simp] theorem Dev.onPads_sleepTick (f) : (d.onPads f).sleepTick = d.sleepTick := rfl
@[simp] theorem Dev.onPads_tdcA (f) : (d.onPads f).tdcA = d.tdcA := rfl
@[simp] theorem Dev.onPads_tdcB (f) : (d.onPads f).tdcB = d.tdcB := rfl
@[simp] theorem Dev.onPads_usf (f) : (d.onPads f).usf = d.usf := rfl
@[simp] theorem Dev.onPads_adc (f) : (d.onPads f).adc = d.adc := rfl
@[simp] theorem Dev.onPads_nextId (f) : (d.onPads f).nextId = d.nextId := rfl
@[simp] theorem Dev.onPads_detect (f) : (d.onPads f).detect = d.detect := rfl
@[simp] theorem Dev.onPads_swapAcc (f) : (d.onPads f).swapAcc = d.swapAcc := rfl
@[simp] theorem Dev.onPads_met (f) : (d.onPads f).met = d.met := rfl
@[simp] theorem Dev.onPads_loop (f) : (d.onPads f).loop = d.loop := rfl
@[simp] theorem Dev.onPads_heldOrders (f) : (d.onPads f).heldOrders = d.heldOrders := rfl
@[simp] theorem Dev.onPads_pocket (f) : (d.onPads f).pocket = d.pocket := rfl
@[simp] theorem Dev.onPads_radio (f) : (d.onPads f).radio = d.radio := rfl
@[simp] theorem Dev.onPads_freeN (f) : (d.onPads f).freeN = d.freeN := rfl
@[simp] theorem Dev.onPads_col (f) : (d.onPads f).col = d.col := rfl
@[simp] theorem Dev.onPads_label (f) : (d.onPads f).label = d.label := rfl
@[simp] theorem Dev.onPads_bist (f) : (d.onPads f).bist = d.bist := rfl
@[simp] theorem Dev.onPads_pads (f) : (d.onPads f).pads = f d.pads := rfl
@[simp] theorem Dev.onPads_port (f) : (d.onPads f).port = d.port := rfl
@[simp] theorem Dev.onPads_dport (f) : (d.onPads f).dport = d.dport := rfl
@[simp] theorem Dev.onPads_quiesce (f) : (d.onPads f).quiesce = d.quiesce := rfl
@[simp] theorem Dev.onPads_stepDue (f) : (d.onPads f).stepDue = d.stepDue := rfl
@[simp] theorem Dev.onPads_busHeld (f) : (d.onPads f).busHeld = d.busHeld := rfl
@[simp] theorem Dev.onPads_raised (f) : (d.onPads f).raised = d.raised := rfl
@[simp] theorem Dev.onPort_regs (f) : (d.onPort f).regs = d.regs := rfl
@[simp] theorem Dev.onPort_shadow (f) : (d.onPort f).shadow = d.shadow := rfl
@[simp] theorem Dev.onPort_mem (f) : (d.onPort f).mem = d.mem := rfl
@[simp] theorem Dev.onPort_ecc (f) : (d.onPort f).ecc = d.ecc := rfl
@[simp] theorem Dev.onPort_orders (f) : (d.onPort f).orders = d.orders := rfl
@[simp] theorem Dev.onPort_sup (f) : (d.onPort f).sup = d.sup := rfl
@[simp] theorem Dev.onPort_slack (f) : (d.onPort f).slack = d.slack := rfl
@[simp] theorem Dev.onPort_clk (f) : (d.onPort f).clk = d.clk := rfl
@[simp] theorem Dev.onPort_tide (f) : (d.onPort f).tide = d.tide := rfl
@[simp] theorem Dev.onPort_tmr (f) : (d.onPort f).tmr = d.tmr := rfl
@[simp] theorem Dev.onPort_links (f) : (d.onPort f).links = d.links := rfl
@[simp] theorem Dev.onPort_seqPrev (f) : (d.onPort f).seqPrev = d.seqPrev := rfl
@[simp] theorem Dev.onPort_asleep (f) : (d.onPort f).asleep = d.asleep := rfl
@[simp] theorem Dev.onPort_revertDue (f) : (d.onPort f).revertDue = d.revertDue := rfl
@[simp] theorem Dev.onPort_held (f) : (d.onPort f).held = d.held := rfl
@[simp] theorem Dev.onPort_engC (f) : (d.onPort f).engC = d.engC := rfl
@[simp] theorem Dev.onPort_engL (f) : (d.onPort f).engL = d.engL := rfl
@[simp] theorem Dev.onPort_engR (f) : (d.onPort f).engR = d.engR := rfl
@[simp] theorem Dev.onPort_collarRun (f) : (d.onPort f).collarRun = d.collarRun := rfl
@[simp] theorem Dev.onPort_traceHeld (f) : (d.onPort f).traceHeld = d.traceHeld := rfl
@[simp] theorem Dev.onPort_traceN (f) : (d.onPort f).traceN = d.traceN := rfl
@[simp] theorem Dev.onPort_sleepTick (f) : (d.onPort f).sleepTick = d.sleepTick := rfl
@[simp] theorem Dev.onPort_tdcA (f) : (d.onPort f).tdcA = d.tdcA := rfl
@[simp] theorem Dev.onPort_tdcB (f) : (d.onPort f).tdcB = d.tdcB := rfl
@[simp] theorem Dev.onPort_usf (f) : (d.onPort f).usf = d.usf := rfl
@[simp] theorem Dev.onPort_adc (f) : (d.onPort f).adc = d.adc := rfl
@[simp] theorem Dev.onPort_nextId (f) : (d.onPort f).nextId = d.nextId := rfl
@[simp] theorem Dev.onPort_detect (f) : (d.onPort f).detect = d.detect := rfl
@[simp] theorem Dev.onPort_swapAcc (f) : (d.onPort f).swapAcc = d.swapAcc := rfl
@[simp] theorem Dev.onPort_met (f) : (d.onPort f).met = d.met := rfl
@[simp] theorem Dev.onPort_loop (f) : (d.onPort f).loop = d.loop := rfl
@[simp] theorem Dev.onPort_heldOrders (f) : (d.onPort f).heldOrders = d.heldOrders := rfl
@[simp] theorem Dev.onPort_pocket (f) : (d.onPort f).pocket = d.pocket := rfl
@[simp] theorem Dev.onPort_radio (f) : (d.onPort f).radio = d.radio := rfl
@[simp] theorem Dev.onPort_freeN (f) : (d.onPort f).freeN = d.freeN := rfl
@[simp] theorem Dev.onPort_col (f) : (d.onPort f).col = d.col := rfl
@[simp] theorem Dev.onPort_label (f) : (d.onPort f).label = d.label := rfl
@[simp] theorem Dev.onPort_bist (f) : (d.onPort f).bist = d.bist := rfl
@[simp] theorem Dev.onPort_pads (f) : (d.onPort f).pads = d.pads := rfl
@[simp] theorem Dev.onPort_port (f) : (d.onPort f).port = f d.port := rfl
@[simp] theorem Dev.onPort_dport (f) : (d.onPort f).dport = d.dport := rfl
@[simp] theorem Dev.onPort_quiesce (f) : (d.onPort f).quiesce = d.quiesce := rfl
@[simp] theorem Dev.onPort_stepDue (f) : (d.onPort f).stepDue = d.stepDue := rfl
@[simp] theorem Dev.onPort_busHeld (f) : (d.onPort f).busHeld = d.busHeld := rfl
@[simp] theorem Dev.onPort_raised (f) : (d.onPort f).raised = d.raised := rfl
@[simp] theorem Dev.onDport_regs (f) : (d.onDport f).regs = d.regs := rfl
@[simp] theorem Dev.onDport_shadow (f) : (d.onDport f).shadow = d.shadow := rfl
@[simp] theorem Dev.onDport_mem (f) : (d.onDport f).mem = d.mem := rfl
@[simp] theorem Dev.onDport_ecc (f) : (d.onDport f).ecc = d.ecc := rfl
@[simp] theorem Dev.onDport_orders (f) : (d.onDport f).orders = d.orders := rfl
@[simp] theorem Dev.onDport_sup (f) : (d.onDport f).sup = d.sup := rfl
@[simp] theorem Dev.onDport_slack (f) : (d.onDport f).slack = d.slack := rfl
@[simp] theorem Dev.onDport_clk (f) : (d.onDport f).clk = d.clk := rfl
@[simp] theorem Dev.onDport_tide (f) : (d.onDport f).tide = d.tide := rfl
@[simp] theorem Dev.onDport_tmr (f) : (d.onDport f).tmr = d.tmr := rfl
@[simp] theorem Dev.onDport_links (f) : (d.onDport f).links = d.links := rfl
@[simp] theorem Dev.onDport_seqPrev (f) : (d.onDport f).seqPrev = d.seqPrev := rfl
@[simp] theorem Dev.onDport_asleep (f) : (d.onDport f).asleep = d.asleep := rfl
@[simp] theorem Dev.onDport_revertDue (f) : (d.onDport f).revertDue = d.revertDue := rfl
@[simp] theorem Dev.onDport_held (f) : (d.onDport f).held = d.held := rfl
@[simp] theorem Dev.onDport_engC (f) : (d.onDport f).engC = d.engC := rfl
@[simp] theorem Dev.onDport_engL (f) : (d.onDport f).engL = d.engL := rfl
@[simp] theorem Dev.onDport_engR (f) : (d.onDport f).engR = d.engR := rfl
@[simp] theorem Dev.onDport_collarRun (f) : (d.onDport f).collarRun = d.collarRun := rfl
@[simp] theorem Dev.onDport_traceHeld (f) : (d.onDport f).traceHeld = d.traceHeld := rfl
@[simp] theorem Dev.onDport_traceN (f) : (d.onDport f).traceN = d.traceN := rfl
@[simp] theorem Dev.onDport_sleepTick (f) : (d.onDport f).sleepTick = d.sleepTick := rfl
@[simp] theorem Dev.onDport_tdcA (f) : (d.onDport f).tdcA = d.tdcA := rfl
@[simp] theorem Dev.onDport_tdcB (f) : (d.onDport f).tdcB = d.tdcB := rfl
@[simp] theorem Dev.onDport_usf (f) : (d.onDport f).usf = d.usf := rfl
@[simp] theorem Dev.onDport_adc (f) : (d.onDport f).adc = d.adc := rfl
@[simp] theorem Dev.onDport_nextId (f) : (d.onDport f).nextId = d.nextId := rfl
@[simp] theorem Dev.onDport_detect (f) : (d.onDport f).detect = d.detect := rfl
@[simp] theorem Dev.onDport_swapAcc (f) : (d.onDport f).swapAcc = d.swapAcc := rfl
@[simp] theorem Dev.onDport_met (f) : (d.onDport f).met = d.met := rfl
@[simp] theorem Dev.onDport_loop (f) : (d.onDport f).loop = d.loop := rfl
@[simp] theorem Dev.onDport_heldOrders (f) : (d.onDport f).heldOrders = d.heldOrders := rfl
@[simp] theorem Dev.onDport_pocket (f) : (d.onDport f).pocket = d.pocket := rfl
@[simp] theorem Dev.onDport_radio (f) : (d.onDport f).radio = d.radio := rfl
@[simp] theorem Dev.onDport_freeN (f) : (d.onDport f).freeN = d.freeN := rfl
@[simp] theorem Dev.onDport_col (f) : (d.onDport f).col = d.col := rfl
@[simp] theorem Dev.onDport_label (f) : (d.onDport f).label = d.label := rfl
@[simp] theorem Dev.onDport_bist (f) : (d.onDport f).bist = d.bist := rfl
@[simp] theorem Dev.onDport_pads (f) : (d.onDport f).pads = d.pads := rfl
@[simp] theorem Dev.onDport_port (f) : (d.onDport f).port = d.port := rfl
@[simp] theorem Dev.onDport_dport (f) : (d.onDport f).dport = f d.dport := rfl
@[simp] theorem Dev.onDport_quiesce (f) : (d.onDport f).quiesce = d.quiesce := rfl
@[simp] theorem Dev.onDport_stepDue (f) : (d.onDport f).stepDue = d.stepDue := rfl
@[simp] theorem Dev.onDport_busHeld (f) : (d.onDport f).busHeld = d.busHeld := rfl
@[simp] theorem Dev.onDport_raised (f) : (d.onDport f).raised = d.raised := rfl
@[simp] theorem Dev.onQuiesce_regs (f) : (d.onQuiesce f).regs = d.regs := rfl
@[simp] theorem Dev.onQuiesce_shadow (f) : (d.onQuiesce f).shadow = d.shadow := rfl
@[simp] theorem Dev.onQuiesce_mem (f) : (d.onQuiesce f).mem = d.mem := rfl
@[simp] theorem Dev.onQuiesce_ecc (f) : (d.onQuiesce f).ecc = d.ecc := rfl
@[simp] theorem Dev.onQuiesce_orders (f) : (d.onQuiesce f).orders = d.orders := rfl
@[simp] theorem Dev.onQuiesce_sup (f) : (d.onQuiesce f).sup = d.sup := rfl
@[simp] theorem Dev.onQuiesce_slack (f) : (d.onQuiesce f).slack = d.slack := rfl
@[simp] theorem Dev.onQuiesce_clk (f) : (d.onQuiesce f).clk = d.clk := rfl
@[simp] theorem Dev.onQuiesce_tide (f) : (d.onQuiesce f).tide = d.tide := rfl
@[simp] theorem Dev.onQuiesce_tmr (f) : (d.onQuiesce f).tmr = d.tmr := rfl
@[simp] theorem Dev.onQuiesce_links (f) : (d.onQuiesce f).links = d.links := rfl
@[simp] theorem Dev.onQuiesce_seqPrev (f) : (d.onQuiesce f).seqPrev = d.seqPrev := rfl
@[simp] theorem Dev.onQuiesce_asleep (f) : (d.onQuiesce f).asleep = d.asleep := rfl
@[simp] theorem Dev.onQuiesce_revertDue (f) : (d.onQuiesce f).revertDue = d.revertDue := rfl
@[simp] theorem Dev.onQuiesce_held (f) : (d.onQuiesce f).held = d.held := rfl
@[simp] theorem Dev.onQuiesce_engC (f) : (d.onQuiesce f).engC = d.engC := rfl
@[simp] theorem Dev.onQuiesce_engL (f) : (d.onQuiesce f).engL = d.engL := rfl
@[simp] theorem Dev.onQuiesce_engR (f) : (d.onQuiesce f).engR = d.engR := rfl
@[simp] theorem Dev.onQuiesce_collarRun (f) : (d.onQuiesce f).collarRun = d.collarRun := rfl
@[simp] theorem Dev.onQuiesce_traceHeld (f) : (d.onQuiesce f).traceHeld = d.traceHeld := rfl
@[simp] theorem Dev.onQuiesce_traceN (f) : (d.onQuiesce f).traceN = d.traceN := rfl
@[simp] theorem Dev.onQuiesce_sleepTick (f) : (d.onQuiesce f).sleepTick = d.sleepTick := rfl
@[simp] theorem Dev.onQuiesce_tdcA (f) : (d.onQuiesce f).tdcA = d.tdcA := rfl
@[simp] theorem Dev.onQuiesce_tdcB (f) : (d.onQuiesce f).tdcB = d.tdcB := rfl
@[simp] theorem Dev.onQuiesce_usf (f) : (d.onQuiesce f).usf = d.usf := rfl
@[simp] theorem Dev.onQuiesce_adc (f) : (d.onQuiesce f).adc = d.adc := rfl
@[simp] theorem Dev.onQuiesce_nextId (f) : (d.onQuiesce f).nextId = d.nextId := rfl
@[simp] theorem Dev.onQuiesce_detect (f) : (d.onQuiesce f).detect = d.detect := rfl
@[simp] theorem Dev.onQuiesce_swapAcc (f) : (d.onQuiesce f).swapAcc = d.swapAcc := rfl
@[simp] theorem Dev.onQuiesce_met (f) : (d.onQuiesce f).met = d.met := rfl
@[simp] theorem Dev.onQuiesce_loop (f) : (d.onQuiesce f).loop = d.loop := rfl
@[simp] theorem Dev.onQuiesce_heldOrders (f) : (d.onQuiesce f).heldOrders = d.heldOrders := rfl
@[simp] theorem Dev.onQuiesce_pocket (f) : (d.onQuiesce f).pocket = d.pocket := rfl
@[simp] theorem Dev.onQuiesce_radio (f) : (d.onQuiesce f).radio = d.radio := rfl
@[simp] theorem Dev.onQuiesce_freeN (f) : (d.onQuiesce f).freeN = d.freeN := rfl
@[simp] theorem Dev.onQuiesce_col (f) : (d.onQuiesce f).col = d.col := rfl
@[simp] theorem Dev.onQuiesce_label (f) : (d.onQuiesce f).label = d.label := rfl
@[simp] theorem Dev.onQuiesce_bist (f) : (d.onQuiesce f).bist = d.bist := rfl
@[simp] theorem Dev.onQuiesce_pads (f) : (d.onQuiesce f).pads = d.pads := rfl
@[simp] theorem Dev.onQuiesce_port (f) : (d.onQuiesce f).port = d.port := rfl
@[simp] theorem Dev.onQuiesce_dport (f) : (d.onQuiesce f).dport = d.dport := rfl
@[simp] theorem Dev.onQuiesce_quiesce (f) : (d.onQuiesce f).quiesce = f d.quiesce := rfl
@[simp] theorem Dev.onQuiesce_stepDue (f) : (d.onQuiesce f).stepDue = d.stepDue := rfl
@[simp] theorem Dev.onQuiesce_busHeld (f) : (d.onQuiesce f).busHeld = d.busHeld := rfl
@[simp] theorem Dev.onQuiesce_raised (f) : (d.onQuiesce f).raised = d.raised := rfl
@[simp] theorem Dev.onStepDue_regs (f) : (d.onStepDue f).regs = d.regs := rfl
@[simp] theorem Dev.onStepDue_shadow (f) : (d.onStepDue f).shadow = d.shadow := rfl
@[simp] theorem Dev.onStepDue_mem (f) : (d.onStepDue f).mem = d.mem := rfl
@[simp] theorem Dev.onStepDue_ecc (f) : (d.onStepDue f).ecc = d.ecc := rfl
@[simp] theorem Dev.onStepDue_orders (f) : (d.onStepDue f).orders = d.orders := rfl
@[simp] theorem Dev.onStepDue_sup (f) : (d.onStepDue f).sup = d.sup := rfl
@[simp] theorem Dev.onStepDue_slack (f) : (d.onStepDue f).slack = d.slack := rfl
@[simp] theorem Dev.onStepDue_clk (f) : (d.onStepDue f).clk = d.clk := rfl
@[simp] theorem Dev.onStepDue_tide (f) : (d.onStepDue f).tide = d.tide := rfl
@[simp] theorem Dev.onStepDue_tmr (f) : (d.onStepDue f).tmr = d.tmr := rfl
@[simp] theorem Dev.onStepDue_links (f) : (d.onStepDue f).links = d.links := rfl
@[simp] theorem Dev.onStepDue_seqPrev (f) : (d.onStepDue f).seqPrev = d.seqPrev := rfl
@[simp] theorem Dev.onStepDue_asleep (f) : (d.onStepDue f).asleep = d.asleep := rfl
@[simp] theorem Dev.onStepDue_revertDue (f) : (d.onStepDue f).revertDue = d.revertDue := rfl
@[simp] theorem Dev.onStepDue_held (f) : (d.onStepDue f).held = d.held := rfl
@[simp] theorem Dev.onStepDue_engC (f) : (d.onStepDue f).engC = d.engC := rfl
@[simp] theorem Dev.onStepDue_engL (f) : (d.onStepDue f).engL = d.engL := rfl
@[simp] theorem Dev.onStepDue_engR (f) : (d.onStepDue f).engR = d.engR := rfl
@[simp] theorem Dev.onStepDue_collarRun (f) : (d.onStepDue f).collarRun = d.collarRun := rfl
@[simp] theorem Dev.onStepDue_traceHeld (f) : (d.onStepDue f).traceHeld = d.traceHeld := rfl
@[simp] theorem Dev.onStepDue_traceN (f) : (d.onStepDue f).traceN = d.traceN := rfl
@[simp] theorem Dev.onStepDue_sleepTick (f) : (d.onStepDue f).sleepTick = d.sleepTick := rfl
@[simp] theorem Dev.onStepDue_tdcA (f) : (d.onStepDue f).tdcA = d.tdcA := rfl
@[simp] theorem Dev.onStepDue_tdcB (f) : (d.onStepDue f).tdcB = d.tdcB := rfl
@[simp] theorem Dev.onStepDue_usf (f) : (d.onStepDue f).usf = d.usf := rfl
@[simp] theorem Dev.onStepDue_adc (f) : (d.onStepDue f).adc = d.adc := rfl
@[simp] theorem Dev.onStepDue_nextId (f) : (d.onStepDue f).nextId = d.nextId := rfl
@[simp] theorem Dev.onStepDue_detect (f) : (d.onStepDue f).detect = d.detect := rfl
@[simp] theorem Dev.onStepDue_swapAcc (f) : (d.onStepDue f).swapAcc = d.swapAcc := rfl
@[simp] theorem Dev.onStepDue_met (f) : (d.onStepDue f).met = d.met := rfl
@[simp] theorem Dev.onStepDue_loop (f) : (d.onStepDue f).loop = d.loop := rfl
@[simp] theorem Dev.onStepDue_heldOrders (f) : (d.onStepDue f).heldOrders = d.heldOrders := rfl
@[simp] theorem Dev.onStepDue_pocket (f) : (d.onStepDue f).pocket = d.pocket := rfl
@[simp] theorem Dev.onStepDue_radio (f) : (d.onStepDue f).radio = d.radio := rfl
@[simp] theorem Dev.onStepDue_freeN (f) : (d.onStepDue f).freeN = d.freeN := rfl
@[simp] theorem Dev.onStepDue_col (f) : (d.onStepDue f).col = d.col := rfl
@[simp] theorem Dev.onStepDue_label (f) : (d.onStepDue f).label = d.label := rfl
@[simp] theorem Dev.onStepDue_bist (f) : (d.onStepDue f).bist = d.bist := rfl
@[simp] theorem Dev.onStepDue_pads (f) : (d.onStepDue f).pads = d.pads := rfl
@[simp] theorem Dev.onStepDue_port (f) : (d.onStepDue f).port = d.port := rfl
@[simp] theorem Dev.onStepDue_dport (f) : (d.onStepDue f).dport = d.dport := rfl
@[simp] theorem Dev.onStepDue_quiesce (f) : (d.onStepDue f).quiesce = d.quiesce := rfl
@[simp] theorem Dev.onStepDue_stepDue (f) : (d.onStepDue f).stepDue = f d.stepDue := rfl
@[simp] theorem Dev.onStepDue_busHeld (f) : (d.onStepDue f).busHeld = d.busHeld := rfl
@[simp] theorem Dev.onStepDue_raised (f) : (d.onStepDue f).raised = d.raised := rfl
@[simp] theorem Dev.onBusHeld_regs (f) : (d.onBusHeld f).regs = d.regs := rfl
@[simp] theorem Dev.onBusHeld_shadow (f) : (d.onBusHeld f).shadow = d.shadow := rfl
@[simp] theorem Dev.onBusHeld_mem (f) : (d.onBusHeld f).mem = d.mem := rfl
@[simp] theorem Dev.onBusHeld_ecc (f) : (d.onBusHeld f).ecc = d.ecc := rfl
@[simp] theorem Dev.onBusHeld_orders (f) : (d.onBusHeld f).orders = d.orders := rfl
@[simp] theorem Dev.onBusHeld_sup (f) : (d.onBusHeld f).sup = d.sup := rfl
@[simp] theorem Dev.onBusHeld_slack (f) : (d.onBusHeld f).slack = d.slack := rfl
@[simp] theorem Dev.onBusHeld_clk (f) : (d.onBusHeld f).clk = d.clk := rfl
@[simp] theorem Dev.onBusHeld_tide (f) : (d.onBusHeld f).tide = d.tide := rfl
@[simp] theorem Dev.onBusHeld_tmr (f) : (d.onBusHeld f).tmr = d.tmr := rfl
@[simp] theorem Dev.onBusHeld_links (f) : (d.onBusHeld f).links = d.links := rfl
@[simp] theorem Dev.onBusHeld_seqPrev (f) : (d.onBusHeld f).seqPrev = d.seqPrev := rfl
@[simp] theorem Dev.onBusHeld_asleep (f) : (d.onBusHeld f).asleep = d.asleep := rfl
@[simp] theorem Dev.onBusHeld_revertDue (f) : (d.onBusHeld f).revertDue = d.revertDue := rfl
@[simp] theorem Dev.onBusHeld_held (f) : (d.onBusHeld f).held = d.held := rfl
@[simp] theorem Dev.onBusHeld_engC (f) : (d.onBusHeld f).engC = d.engC := rfl
@[simp] theorem Dev.onBusHeld_engL (f) : (d.onBusHeld f).engL = d.engL := rfl
@[simp] theorem Dev.onBusHeld_engR (f) : (d.onBusHeld f).engR = d.engR := rfl
@[simp] theorem Dev.onBusHeld_collarRun (f) : (d.onBusHeld f).collarRun = d.collarRun := rfl
@[simp] theorem Dev.onBusHeld_traceHeld (f) : (d.onBusHeld f).traceHeld = d.traceHeld := rfl
@[simp] theorem Dev.onBusHeld_traceN (f) : (d.onBusHeld f).traceN = d.traceN := rfl
@[simp] theorem Dev.onBusHeld_sleepTick (f) : (d.onBusHeld f).sleepTick = d.sleepTick := rfl
@[simp] theorem Dev.onBusHeld_tdcA (f) : (d.onBusHeld f).tdcA = d.tdcA := rfl
@[simp] theorem Dev.onBusHeld_tdcB (f) : (d.onBusHeld f).tdcB = d.tdcB := rfl
@[simp] theorem Dev.onBusHeld_usf (f) : (d.onBusHeld f).usf = d.usf := rfl
@[simp] theorem Dev.onBusHeld_adc (f) : (d.onBusHeld f).adc = d.adc := rfl
@[simp] theorem Dev.onBusHeld_nextId (f) : (d.onBusHeld f).nextId = d.nextId := rfl
@[simp] theorem Dev.onBusHeld_detect (f) : (d.onBusHeld f).detect = d.detect := rfl
@[simp] theorem Dev.onBusHeld_swapAcc (f) : (d.onBusHeld f).swapAcc = d.swapAcc := rfl
@[simp] theorem Dev.onBusHeld_met (f) : (d.onBusHeld f).met = d.met := rfl
@[simp] theorem Dev.onBusHeld_loop (f) : (d.onBusHeld f).loop = d.loop := rfl
@[simp] theorem Dev.onBusHeld_heldOrders (f) : (d.onBusHeld f).heldOrders = d.heldOrders := rfl
@[simp] theorem Dev.onBusHeld_pocket (f) : (d.onBusHeld f).pocket = d.pocket := rfl
@[simp] theorem Dev.onBusHeld_radio (f) : (d.onBusHeld f).radio = d.radio := rfl
@[simp] theorem Dev.onBusHeld_freeN (f) : (d.onBusHeld f).freeN = d.freeN := rfl
@[simp] theorem Dev.onBusHeld_col (f) : (d.onBusHeld f).col = d.col := rfl
@[simp] theorem Dev.onBusHeld_label (f) : (d.onBusHeld f).label = d.label := rfl
@[simp] theorem Dev.onBusHeld_bist (f) : (d.onBusHeld f).bist = d.bist := rfl
@[simp] theorem Dev.onBusHeld_pads (f) : (d.onBusHeld f).pads = d.pads := rfl
@[simp] theorem Dev.onBusHeld_port (f) : (d.onBusHeld f).port = d.port := rfl
@[simp] theorem Dev.onBusHeld_dport (f) : (d.onBusHeld f).dport = d.dport := rfl
@[simp] theorem Dev.onBusHeld_quiesce (f) : (d.onBusHeld f).quiesce = d.quiesce := rfl
@[simp] theorem Dev.onBusHeld_stepDue (f) : (d.onBusHeld f).stepDue = d.stepDue := rfl
@[simp] theorem Dev.onBusHeld_busHeld (f) : (d.onBusHeld f).busHeld = f d.busHeld := rfl
@[simp] theorem Dev.onBusHeld_raised (f) : (d.onBusHeld f).raised = d.raised := rfl
@[simp] theorem Dev.onRaised_regs (f) : (d.onRaised f).regs = d.regs := rfl
@[simp] theorem Dev.onRaised_shadow (f) : (d.onRaised f).shadow = d.shadow := rfl
@[simp] theorem Dev.onRaised_mem (f) : (d.onRaised f).mem = d.mem := rfl
@[simp] theorem Dev.onRaised_ecc (f) : (d.onRaised f).ecc = d.ecc := rfl
@[simp] theorem Dev.onRaised_orders (f) : (d.onRaised f).orders = d.orders := rfl
@[simp] theorem Dev.onRaised_sup (f) : (d.onRaised f).sup = d.sup := rfl
@[simp] theorem Dev.onRaised_slack (f) : (d.onRaised f).slack = d.slack := rfl
@[simp] theorem Dev.onRaised_clk (f) : (d.onRaised f).clk = d.clk := rfl
@[simp] theorem Dev.onRaised_tide (f) : (d.onRaised f).tide = d.tide := rfl
@[simp] theorem Dev.onRaised_tmr (f) : (d.onRaised f).tmr = d.tmr := rfl
@[simp] theorem Dev.onRaised_links (f) : (d.onRaised f).links = d.links := rfl
@[simp] theorem Dev.onRaised_seqPrev (f) : (d.onRaised f).seqPrev = d.seqPrev := rfl
@[simp] theorem Dev.onRaised_asleep (f) : (d.onRaised f).asleep = d.asleep := rfl
@[simp] theorem Dev.onRaised_revertDue (f) : (d.onRaised f).revertDue = d.revertDue := rfl
@[simp] theorem Dev.onRaised_held (f) : (d.onRaised f).held = d.held := rfl
@[simp] theorem Dev.onRaised_engC (f) : (d.onRaised f).engC = d.engC := rfl
@[simp] theorem Dev.onRaised_engL (f) : (d.onRaised f).engL = d.engL := rfl
@[simp] theorem Dev.onRaised_engR (f) : (d.onRaised f).engR = d.engR := rfl
@[simp] theorem Dev.onRaised_collarRun (f) : (d.onRaised f).collarRun = d.collarRun := rfl
@[simp] theorem Dev.onRaised_traceHeld (f) : (d.onRaised f).traceHeld = d.traceHeld := rfl
@[simp] theorem Dev.onRaised_traceN (f) : (d.onRaised f).traceN = d.traceN := rfl
@[simp] theorem Dev.onRaised_sleepTick (f) : (d.onRaised f).sleepTick = d.sleepTick := rfl
@[simp] theorem Dev.onRaised_tdcA (f) : (d.onRaised f).tdcA = d.tdcA := rfl
@[simp] theorem Dev.onRaised_tdcB (f) : (d.onRaised f).tdcB = d.tdcB := rfl
@[simp] theorem Dev.onRaised_usf (f) : (d.onRaised f).usf = d.usf := rfl
@[simp] theorem Dev.onRaised_adc (f) : (d.onRaised f).adc = d.adc := rfl
@[simp] theorem Dev.onRaised_nextId (f) : (d.onRaised f).nextId = d.nextId := rfl
@[simp] theorem Dev.onRaised_detect (f) : (d.onRaised f).detect = d.detect := rfl
@[simp] theorem Dev.onRaised_swapAcc (f) : (d.onRaised f).swapAcc = d.swapAcc := rfl
@[simp] theorem Dev.onRaised_met (f) : (d.onRaised f).met = d.met := rfl
@[simp] theorem Dev.onRaised_loop (f) : (d.onRaised f).loop = d.loop := rfl
@[simp] theorem Dev.onRaised_heldOrders (f) : (d.onRaised f).heldOrders = d.heldOrders := rfl
@[simp] theorem Dev.onRaised_pocket (f) : (d.onRaised f).pocket = d.pocket := rfl
@[simp] theorem Dev.onRaised_radio (f) : (d.onRaised f).radio = d.radio := rfl
@[simp] theorem Dev.onRaised_freeN (f) : (d.onRaised f).freeN = d.freeN := rfl
@[simp] theorem Dev.onRaised_col (f) : (d.onRaised f).col = d.col := rfl
@[simp] theorem Dev.onRaised_label (f) : (d.onRaised f).label = d.label := rfl
@[simp] theorem Dev.onRaised_bist (f) : (d.onRaised f).bist = d.bist := rfl
@[simp] theorem Dev.onRaised_pads (f) : (d.onRaised f).pads = d.pads := rfl
@[simp] theorem Dev.onRaised_port (f) : (d.onRaised f).port = d.port := rfl
@[simp] theorem Dev.onRaised_dport (f) : (d.onRaised f).dport = d.dport := rfl
@[simp] theorem Dev.onRaised_quiesce (f) : (d.onRaised f).quiesce = d.quiesce := rfl
@[simp] theorem Dev.onRaised_stepDue (f) : (d.onRaised f).stepDue = d.stepDue := rfl
@[simp] theorem Dev.onRaised_busHeld (f) : (d.onRaised f).busHeld = d.busHeld := rfl
@[simp] theorem Dev.onRaised_raised (f) : (d.onRaised f).raised = f d.raised := rfl

end Sys2Proof.Machine
end

