-- ==== Sys2Proof/Laws/Store.lean ====
section
/-!
SUPPORT. The laws of the sparse store: read after write, and the canonical form that every operation keeps.
-/
namespace Sys2Proof.Machine

variable {α : Type} {dflt : Nat → α} {s : List (Nat × α)} {k j : Nat} {v : α}

@[simp] theorem Store.get_nil : Store.get dflt ([] : List (Nat × α)) k = dflt k := rfl

theorem Store.get_insert_self (h : ∀ e ∈ s, e.1 ≠ k) : Store.get dflt (Store.insert s k v) k = v := by
  induction s with
  | nil => simp [Store.insert, Store.get]
  | cons e t ih =>
    obtain ⟨a, w⟩ := e
    have ha : a ≠ k := h (a, w) (by simp)
    have ht : ∀ e ∈ t, e.1 ≠ k := fun e he => h e (by simp [he])
    simp only [Store.insert]
    split
    · simp [Store.get]
    · simp [Store.get, ha, ih ht]

theorem Store.get_insert_ne (h : j ≠ k) : Store.get dflt (Store.insert s k v) j = Store.get dflt s j := by
  induction s with
  | nil => simp [Store.insert, Store.get, Ne.symm h]
  | cons e t ih =>
    obtain ⟨a, w⟩ := e
    simp only [Store.insert]
    split
    · simp [Store.get, Ne.symm h]
    · simp only [Store.get, ih]

theorem Store.get_erase_self : Store.get dflt (Store.erase s k) k = dflt k := by
  induction s with
  | nil => rfl
  | cons e t ih =>
    obtain ⟨a, w⟩ := e
    by_cases ha : a = k
    · subst ha; simpa [Store.erase] using ih
    · simpa [Store.erase, ha, Store.get] using ih

theorem Store.get_erase_ne (h : j ≠ k) : Store.get dflt (Store.erase s k) j = Store.get dflt s j := by
  induction s with
  | nil => rfl
  | cons e t ih =>
    obtain ⟨a, w⟩ := e
    by_cases ha : a = k
    · subst ha; simpa [Store.erase, Store.get, Ne.symm h] using ih
    · by_cases hj : a = j
      · subst hj; simp [Store.erase, ha, Store.get]
      · simpa [Store.erase, ha, Store.get, hj] using ih

theorem Store.mem_erase {e : Nat × α} (h : e ∈ Store.erase s k) : e.1 ≠ k := by
  simpa using (List.mem_filter.1 h).2

/-- A write is read back. -/
@[simp] theorem Store.get_set_self [DecidableEq α] : Store.get dflt (Store.set dflt s k v) k = v := by
  unfold Store.set
  split
  · next h => rw [Store.get_erase_self, h]
  · exact Store.get_insert_self (fun e he => Store.mem_erase he)

/-- A write leaves every other key alone. -/
theorem Store.get_set_ne [DecidableEq α] (h : j ≠ k) : Store.get dflt (Store.set dflt s k v) j = Store.get dflt s j := by
  unfold Store.set
  split
  · exact Store.get_erase_ne h
  · rw [Store.get_insert_ne h, Store.get_erase_ne h]

theorem Store.get_set [DecidableEq α] : Store.get dflt (Store.set dflt s k v) j = if j = k then v else Store.get dflt s j := by
  split
  · next h => subst h; simp
  · next h => exact Store.get_set_ne h

/-! ## The canonical form -/

theorem Store.wf_filter [DecidableEq α] (p : Nat × α → Bool) (h : Store.wf dflt s = true) : Store.wf dflt (s.filter p) = true := by
  induction s with
  | nil => rfl
  | cons e t ih =>
    obtain ⟨a, w⟩ := e
    simp only [Store.wf, Bool.and_eq_true] at h
    obtain ⟨⟨h1, h2⟩, h3⟩ := h
    by_cases hp : p (a, w) = true
    · simp only [List.filter_cons, hp, if_true, Store.wf, Bool.and_eq_true]
      refine ⟨⟨h1, ?_⟩, ih h3⟩
      rw [List.all_eq_true] at h2 ⊢
      exact fun e he => h2 e (List.mem_filter.1 he).1
    · simpa [List.filter_cons, hp] using ih h3

theorem Store.wf_erase [DecidableEq α] (h : Store.wf dflt s = true) : Store.wf dflt (Store.erase s k) = true :=
  Store.wf_filter _ h

theorem Store.mem_insert {e : Nat × α} (h : e ∈ Store.insert s k v) : e = (k, v) ∨ e ∈ s := by
  induction s with
  | nil => simpa [Store.insert] using h
  | cons x t ih =>
    obtain ⟨a, w⟩ := x
    simp only [Store.insert] at h
    split at h
    · simpa using h
    · rcases List.mem_cons.1 h with h | h
      · exact .inr (by simp [h])
      · rcases ih h with h | h
        · exact .inl h
        · exact .inr (by simp [h])

theorem Store.wf_insert [DecidableEq α] (hv : v ≠ dflt k) (hk : ∀ e ∈ s, e.1 ≠ k) (h : Store.wf dflt s = true) :
    Store.wf dflt (Store.insert s k v) = true := by
  induction s with
  | nil => simp [Store.insert, Store.wf, hv]
  | cons x t ih =>
    obtain ⟨a, w⟩ := x
    have ha : a ≠ k := hk (a, w) (by simp)
    have ht : ∀ e ∈ t, e.1 ≠ k := fun e he => hk e (by simp [he])
    have h' := h
    simp only [Store.wf, Bool.and_eq_true] at h'
    obtain ⟨⟨h1, h2⟩, h3⟩ := h'
    simp only [Store.insert]
    split
    · next hlt =>
      simp only [Store.wf, Bool.and_eq_true] at h ⊢
      refine ⟨⟨by simpa using hv, ?_⟩, h⟩
      rw [List.all_eq_true] at h2 ⊢
      intro e he
      rcases List.mem_cons.1 he with he | he
      · simp [he, hlt]
      · have := h2 e he; simp only [decide_eq_true_eq] at this ⊢; omega
    · next hlt =>
      simp only [Store.wf, Bool.and_eq_true]
      refine ⟨⟨h1, ?_⟩, ih ht h3⟩
      rw [List.all_eq_true] at h2 ⊢
      intro e he
      rcases Store.mem_insert he with he | he
      · simp only [he, decide_eq_true_eq]; omega
      · exact h2 e he

/-- A write keeps the canonical form. -/
theorem Store.wf_set [DecidableEq α] (h : Store.wf dflt s = true) : Store.wf dflt (Store.set dflt s k v) = true := by
  unfold Store.set
  split
  · exact Store.wf_erase h
  · next hv => exact Store.wf_insert hv (fun e he => Store.mem_erase he) (Store.wf_erase h)

/-! ## A store in its canonical form is told by what its keys read as -/

theorem Store.get_of_lt [DecidableEq α] (h : Store.wf dflt s = true) (hk : ∀ e ∈ s, k < e.1) : Store.get dflt s k = dflt k := by
  induction s with
  | nil => rfl
  | cons x t ih =>
    obtain ⟨a, w⟩ := x
    have ha : k < a := hk (a, w) (by simp)
    simp only [Store.wf, Bool.and_eq_true] at h
    have : a ≠ k := by omega
    simp only [Store.get, this, if_false]
    exact ih h.2 (fun e he => hk e (by simp [he]))

theorem Store.ext_wf [DecidableEq α] {t : List (Nat × α)} (hs : Store.wf dflt s = true) (ht : Store.wf dflt t = true)
    (h : ∀ k, Store.get dflt s k = Store.get dflt t k) : s = t := by
  induction s generalizing t with
  | nil =>
    cases t with
    | nil => rfl
    | cons y t =>
      obtain ⟨b, w⟩ := y
      simp only [Store.wf, Bool.and_eq_true, decide_eq_true_eq] at ht
      have := h b
      simp only [Store.get, if_true] at this
      exact absurd this.symm ht.1.1
  | cons x s ih =>
    obtain ⟨a, v⟩ := x
    have hs' := hs
    simp only [Store.wf, Bool.and_eq_true, decide_eq_true_eq, List.all_eq_true] at hs'
    cases t with
    | nil =>
      have := h a
      simp only [Store.get, if_true] at this
      exact absurd this hs'.1.1
    | cons y t =>
      obtain ⟨b, w⟩ := y
      have ht' := ht
      simp only [Store.wf, Bool.and_eq_true, decide_eq_true_eq, List.all_eq_true] at ht'
      have hab : a = b := by
        rcases Nat.lt_trichotomy a b with hlt | heq | hgt
        · have := h a
          have e : Store.get dflt ((b, w) :: t) a = dflt a := Store.get_of_lt ht (by
            intro e he
            rcases List.mem_cons.1 he with he | he
            · simp [he, hlt]
            · have := ht'.1.2 e he; omega)
          rw [e] at this
          simp only [Store.get, if_true] at this
          exact absurd this hs'.1.1
        · exact heq
        · have := h b
          have e : Store.get dflt ((a, v) :: s) b = dflt b := Store.get_of_lt hs (by
            intro e he
            rcases List.mem_cons.1 he with he | he
            · simp [he, hgt]
            · have := hs'.1.2 e he; omega)
          rw [e] at this
          simp only [Store.get, if_true] at this
          exact absurd this.symm ht'.1.1
      subst hab
      have hv : v = w := by simpa [Store.get] using h a
      subst hv
      congr 1
      refine ih hs'.2 ht'.2 (fun k => ?_)
      by_cases hk : a = k
      · subst hk
        rw [Store.get_of_lt hs'.2 hs'.1.2, Store.get_of_lt ht'.2 ht'.1.2]
      · simpa [Store.get, hk] using h k

/-- Writing what a key reads as changes nothing. -/
theorem Store.set_get [DecidableEq α] (h : Store.wf dflt s = true) : Store.set dflt s k (Store.get dflt s k) = s := by
  refine Store.ext_wf (Store.wf_set h) h (fun j => ?_)
  rw [Store.get_set]
  split
  · next hj => rw [hj]
  · rfl

end Sys2Proof.Machine
end

