-- ==== Sys2Proof/Laws/Reg.lean ====
section
/-!
SUPPORT. The register file: read after write, by register and by field. Every field of Machine/Fields.lean has its top bit below 72, so
the side goals of these laws close by `decide` or `omega`.
-/
namespace Sys2Proof.Machine

variable (d : Dev)

@[simp] theorem Dev.reg_setReg_self (a : Nat) (w : Word) : (d.setReg a w).reg a = w := by
  simp [Dev.reg, Dev.setReg]

theorem Dev.reg_setReg_ne {a b : Nat} (w : Word) (h : b ≠ a) : (d.setReg a w).reg b = d.reg b := by
  simp [Dev.reg, Dev.setReg, Store.get_set_ne h]

theorem Dev.reg_setReg (a b : Nat) (w : Word) : (d.setReg a w).reg b = if b = a then w else d.reg b := by
  split
  · next h => subst h; simp
  · next h => exact d.reg_setReg_ne w h

theorem Dev.reg_put (f : Fld) (v b : Nat) :
    (d.put f v).reg b = if b = f.addr then withBits (d.reg f.addr) f.hi f.lo v else d.reg b := d.reg_setReg _ _ _

theorem Dev.reg_put_ne {f : Fld} (v : Nat) {b : Nat} (h : b ≠ f.addr) : (d.put f v).reg b = d.reg b := d.reg_setReg_ne _ h

/-- A stored field reads back. -/
theorem Dev.get_put_self (f : Fld) (v : Nat) (h : f.hi < 72) : (d.put f v).get f = v % 2 ^ (f.hi + 1 - f.lo) := by
  simp [Dev.get, Dev.put, bitsOf_withBits_self _ _ _ _ h]

/-- A store to one field leaves a field elsewhere, or beside it, as it was. -/
theorem Dev.get_put_ne (f g : Fld) (v : Nat) (h : f.hi < 72) (hd : g.addr ≠ f.addr ∨ g.hi < f.lo ∨ f.hi < g.lo) :
    (d.put f v).get g = d.get g := by
  unfold Dev.get
  by_cases ha : g.addr = f.addr
  · rw [ha, Dev.reg_put, if_pos rfl]
    exact bitsOf_withBits_ne _ _ _ _ _ _ h (hd.resolve_left (fun h => h ha))
  · rw [d.reg_put_ne v ha]

theorem Dev.get_setReg_ne (g : Fld) {a : Nat} (w : Word) (h : g.addr ≠ a) : (d.setReg a w).get g = d.get g := by
  simp only [Dev.get, d.reg_setReg_ne w h]

theorem Dev.flag_put_ne (f g : Fld) (v : Nat) (h : f.hi < 72) (hd : g.addr ≠ f.addr ∨ g.hi < f.lo ∨ f.hi < g.lo) :
    (d.put f v).flag g = d.flag g := by simp only [Dev.flag, d.get_put_ne f g v h hd]

theorem Dev.get_of_reg {d e : Dev} {f : Fld} (h : d.reg f.addr = e.reg f.addr) : d.get f = e.get f := by simp only [Dev.get, h]

/-! ## An unchanged write -/

/-- Writing a register's own value changes nothing, where the register file is in its canonical form. -/
theorem Dev.setReg_reg (h : Store.wf resetWord d.regs = true) (a : Nat) : d.setReg a (d.reg a) = d := by
  have e : Store.set resetWord d.regs a (Store.get resetWord d.regs a) = d.regs := Store.set_get h
  show { d with regs := Store.set resetWord d.regs a (Store.get resetWord d.regs a) } = d
  rw [e]

/-- Putting a field's own value changes nothing. -/
theorem Dev.put_get (h : Store.wf resetWord d.regs = true) (f : Fld) (hf : f.hi < 72) : d.put f (d.get f) = d := by
  rw [Dev.put, Dev.get, withBits_bitsOf _ _ _ hf]
  exact d.setReg_reg h _

theorem Dev.wf_setReg (h : Store.wf resetWord d.regs = true) (a : Nat) (w : Word) : Store.wf resetWord (d.setReg a w).regs = true :=
  Store.wf_set h

end Sys2Proof.Machine
end

