-- ==== Sys2Proof/Laws/Frames.lean ====
section
/-!
SUPPORT. The operations that change registers alone: what each leaves as it was, one lemma per part of the state.
-/
namespace Sys2Proof.Machine

variable (d : Dev)

/-- The device without its register file and the sources that wait for a capture. -/
def Dev.bare : Dev := { d with regs := [], raised := [] }

theorem Dev.setReg_bare (a : Nat) (w : Word) : (d.setReg a w).bare = d.bare := rfl
theorem Dev.put_bare (f : Fld) (v : Nat) : (d.put f v).bare = d.bare := rfl
theorem Dev.putS_bare (f : Fld) (v : Int) : (d.putS f v).bare = d.bare := rfl
theorem Dev.putB_bare (f : Fld) (b : Bool) : (d.putB f b).bare = d.bare := rfl
theorem Dev.bump_bare (f : Fld) : (d.bump f).bare = d.bare := rfl
theorem Dev.putBit_bare (f : Fld) (i : Nat) (b : Bool) : (d.putBit f i b).bare = d.bare := rfl
theorem Dev.tap_bare (s : Nat) : (d.tap s).bare = d.bare := by
  unfold Dev.tap
  split <;> rfl
theorem Dev.raiseN_bare (s n : Nat) : (d.raiseN s n).bare = d.bare := by
  unfold Dev.raiseN
  split
  · exact d.tap_bare s
  · rfl
theorem Dev.raise_bare (s : Nat) : (d.raise s).bare = d.bare := d.raiseN_bare s 1
theorem Dev.event_bare (f : Fld) (s : Nat) : (d.event f s).bare = d.bare := by
  unfold Dev.event
  split
  · rfl
  · rw [Dev.raise_bare, Dev.put_bare]
theorem Dev.irq_bare (c : Nat) : (d.irq c).bare = d.bare := d.event_bare _ _

/-- Two devices that differ in registers alone agree on every other part. -/
theorem Dev.of_bare {d e : Dev} {α : Type} (p : Dev → α) (hp : ∀ x : Dev, p x = p x.bare) (h : d.bare = e.bare) : p d = p e := by
  rw [hp d, hp e, h]

@[simp] theorem Dev.setReg_shadow (a : Nat) (w : Word) : (d.setReg a w).shadow = d.shadow := Dev.of_bare Dev.shadow (fun _ => rfl) (d.setReg_bare a w)
@[simp] theorem Dev.setReg_mem (a : Nat) (w : Word) : (d.setReg a w).mem = d.mem := Dev.of_bare Dev.mem (fun _ => rfl) (d.setReg_bare a w)
@[simp] theorem Dev.setReg_ecc (a : Nat) (w : Word) : (d.setReg a w).ecc = d.ecc := Dev.of_bare Dev.ecc (fun _ => rfl) (d.setReg_bare a w)
@[simp] theorem Dev.setReg_orders (a : Nat) (w : Word) : (d.setReg a w).orders = d.orders := Dev.of_bare Dev.orders (fun _ => rfl) (d.setReg_bare a w)
@[simp] theorem Dev.setReg_sup (a : Nat) (w : Word) : (d.setReg a w).sup = d.sup := Dev.of_bare Dev.sup (fun _ => rfl) (d.setReg_bare a w)
@[simp] theorem Dev.setReg_slack (a : Nat) (w : Word) : (d.setReg a w).slack = d.slack := Dev.of_bare Dev.slack (fun _ => rfl) (d.setReg_bare a w)
@[simp] theorem Dev.setReg_clk (a : Nat) (w : Word) : (d.setReg a w).clk = d.clk := Dev.of_bare Dev.clk (fun _ => rfl) (d.setReg_bare a w)
@[simp] theorem Dev.setReg_tide (a : Nat) (w : Word) : (d.setReg a w).tide = d.tide := Dev.of_bare Dev.tide (fun _ => rfl) (d.setReg_bare a w)
@[simp] theorem Dev.setReg_tmr (a : Nat) (w : Word) : (d.setReg a w).tmr = d.tmr := Dev.of_bare Dev.tmr (fun _ => rfl) (d.setReg_bare a w)
@[simp] theorem Dev.setReg_links (a : Nat) (w : Word) : (d.setReg a w).links = d.links := Dev.of_bare Dev.links (fun _ => rfl) (d.setReg_bare a w)
@[simp] theorem Dev.setReg_seqPrev (a : Nat) (w : Word) : (d.setReg a w).seqPrev = d.seqPrev := Dev.of_bare Dev.seqPrev (fun _ => rfl) (d.setReg_bare a w)
@[simp] theorem Dev.setReg_asleep (a : Nat) (w : Word) : (d.setReg a w).asleep = d.asleep := Dev.of_bare Dev.asleep (fun _ => rfl) (d.setReg_bare a w)
@[simp] theorem Dev.setReg_revertDue (a : Nat) (w : Word) : (d.setReg a w).revertDue = d.revertDue := Dev.of_bare Dev.revertDue (fun _ => rfl) (d.setReg_bare a w)
@[simp] theorem Dev.setReg_held (a : Nat) (w : Word) : (d.setReg a w).held = d.held := Dev.of_bare Dev.held (fun _ => rfl) (d.setReg_bare a w)
@[simp] theorem Dev.setReg_engC (a : Nat) (w : Word) : (d.setReg a w).engC = d.engC := Dev.of_bare Dev.engC (fun _ => rfl) (d.setReg_bare a w)
@[simp] theorem Dev.setReg_engL (a : Nat) (w : Word) : (d.setReg a w).engL = d.engL := Dev.of_bare Dev.engL (fun _ => rfl) (d.setReg_bare a w)
@[simp] theorem Dev.setReg_engR (a : Nat) (w : Word) : (d.setReg a w).engR = d.engR := Dev.of_bare Dev.engR (fun _ => rfl) (d.setReg_bare a w)
@[simp] theorem Dev.setReg_collarRun (a : Nat) (w : Word) : (d.setReg a w).collarRun = d.collarRun := Dev.of_bare Dev.collarRun (fun _ => rfl) (d.setReg_bare a w)
@[simp] theorem Dev.setReg_traceHeld (a : Nat) (w : Word) : (d.setReg a w).traceHeld = d.traceHeld := Dev.of_bare Dev.traceHeld (fun _ => rfl) (d.setReg_bare a w)
@[simp] theorem Dev.setReg_traceN (a : Nat) (w : Word) : (d.setReg a w).traceN = d.traceN := Dev.of_bare Dev.traceN (fun _ => rfl) (d.setReg_bare a w)
@[simp] theorem Dev.setReg_sleepTick (a : Nat) (w : Word) : (d.setReg a w).sleepTick = d.sleepTick := Dev.of_bare Dev.sleepTick (fun _ => rfl) (d.setReg_bare a w)
@[simp] theorem Dev.setReg_tdcA (a : Nat) (w : Word) : (d.setReg a w).tdcA = d.tdcA := Dev.of_bare Dev.tdcA (fun _ => rfl) (d.setReg_bare a w)
@[simp] theorem Dev.setReg_tdcB (a : Nat) (w : Word) : (d.setReg a w).tdcB = d.tdcB := Dev.of_bare Dev.tdcB (fun _ => rfl) (d.setReg_bare a w)
@[simp] theorem Dev.setReg_usf (a : Nat) (w : Word) : (d.setReg a w).usf = d.usf := Dev.of_bare Dev.usf (fun _ => rfl) (d.setReg_bare a w)
@[simp] theorem Dev.setReg_adc (a : Nat) (w : Word) : (d.setReg a w).adc = d.adc := Dev.of_bare Dev.adc (fun _ => rfl) (d.setReg_bare a w)
@[simp] theorem Dev.setReg_nextId (a : Nat) (w : Word) : (d.setReg a w).nextId = d.nextId := Dev.of_bare Dev.nextId (fun _ => rfl) (d.setReg_bare a w)
@[simp] theorem Dev.setReg_detect (a : Nat) (w : Word) : (d.setReg a w).detect = d.detect := Dev.of_bare Dev.detect (fun _ => rfl) (d.setReg_bare a w)
@[simp] theorem Dev.setReg_swapAcc (a : Nat) (w : Word) : (d.setReg a w).swapAcc = d.swapAcc := Dev.of_bare Dev.swapAcc (fun _ => rfl) (d.setReg_bare a w)
@[simp] theorem Dev.setReg_met (a : Nat) (w : Word) : (d.setReg a w).met = d.met := Dev.of_bare Dev.met (fun _ => rfl) (d.setReg_bare a w)
@[simp] theorem Dev.setReg_loop (a : Nat) (w : Word) : (d.setReg a w).loop = d.loop := Dev.of_bare Dev.loop (fun _ => rfl) (d.setReg_bare a w)
@[simp] theorem Dev.setReg_heldOrders (a : Nat) (w : Word) : (d.setReg a w).heldOrders = d.heldOrders := Dev.of_bare Dev.heldOrders (fun _ => rfl) (d.setReg_bare a w)
@[simp] theorem Dev.setReg_pocket (a : Nat) (w : Word) : (d.setReg a w).pocket = d.pocket := Dev.of_bare Dev.pocket (fun _ => rfl) (d.setReg_bare a w)
@[simp] theorem Dev.setReg_radio (a : Nat) (w : Word) : (d.setReg a w).radio = d.radio := Dev.of_bare Dev.radio (fun _ => rfl) (d.setReg_bare a w)
@[simp] theorem Dev.setReg_freeN (a : Nat) (w : Word) : (d.setReg a w).freeN = d.freeN := Dev.of_bare Dev.freeN (fun _ => rfl) (d.setReg_bare a w)
@[simp] theorem Dev.setReg_col (a : Nat) (w : Word) : (d.setReg a w).col = d.col := Dev.of_bare Dev.col (fun _ => rfl) (d.setReg_bare a w)
@[simp] theorem Dev.setReg_label (a : Nat) (w : Word) : (d.setReg a w).label = d.label := Dev.of_bare Dev.label (fun _ => rfl) (d.setReg_bare a w)
@[simp] theorem Dev.setReg_bist (a : Nat) (w : Word) : (d.setReg a w).bist = d.bist := Dev.of_bare Dev.bist (fun _ => rfl) (d.setReg_bare a w)
@[simp] theorem Dev.setReg_pads (a : Nat) (w : Word) : (d.setReg a w).pads = d.pads := Dev.of_bare Dev.pads (fun _ => rfl) (d.setReg_bare a w)
@[simp] theorem Dev.setReg_port (a : Nat) (w : Word) : (d.setReg a w).port = d.port := Dev.of_bare Dev.port (fun _ => rfl) (d.setReg_bare a w)
@[simp] theorem Dev.setReg_dport (a : Nat) (w : Word) : (d.setReg a w).dport = d.dport := Dev.of_bare Dev.dport (fun _ => rfl) (d.setReg_bare a w)
@[simp] theorem Dev.setReg_quiesce (a : Nat) (w : Word) : (d.setReg a w).quiesce = d.quiesce := Dev.of_bare Dev.quiesce (fun _ => rfl) (d.setReg_bare a w)
@[simp] theorem Dev.setReg_stepDue (a : Nat) (w : Word) : (d.setReg a w).stepDue = d.stepDue := Dev.of_bare Dev.stepDue (fun _ => rfl) (d.setReg_bare a w)
@[simp] theorem Dev.setReg_busHeld (a : Nat) (w : Word) : (d.setReg a w).busHeld = d.busHeld := Dev.of_bare Dev.busHeld (fun _ => rfl) (d.setReg_bare a w)
@[simp] theorem Dev.put_shadow (f : Fld) (v : Nat) : (d.put f v).shadow = d.shadow := Dev.of_bare Dev.shadow (fun _ => rfl) (d.put_bare f v)
@[simp] theorem Dev.put_mem (f : Fld) (v : Nat) : (d.put f v).mem = d.mem := Dev.of_bare Dev.mem (fun _ => rfl) (d.put_bare f v)
@[simp] theorem Dev.put_ecc (f : Fld) (v : Nat) : (d.put f v).ecc = d.ecc := Dev.of_bare Dev.ecc (fun _ => rfl) (d.put_bare f v)
@[simp] theorem Dev.put_orders (f : Fld) (v : Nat) : (d.put f v).orders = d.orders := Dev.of_bare Dev.orders (fun _ => rfl) (d.put_bare f v)
@[simp] theorem Dev.put_sup (f : Fld) (v : Nat) : (d.put f v).sup = d.sup := Dev.of_bare Dev.sup (fun _ => rfl) (d.put_bare f v)
@[simp] theorem Dev.put_slack (f : Fld) (v : Nat) : (d.put f v).slack = d.slack := Dev.of_bare Dev.slack (fun _ => rfl) (d.put_bare f v)
@[simp] theorem Dev.put_clk (f : Fld) (v : Nat) : (d.put f v).clk = d.clk := Dev.of_bare Dev.clk (fun _ => rfl) (d.put_bare f v)
@[simp] theorem Dev.put_tide (f : Fld) (v : Nat) : (d.put f v).tide = d.tide := Dev.of_bare Dev.tide (fun _ => rfl) (d.put_bare f v)
@[simp] theorem Dev.put_tmr (f : Fld) (v : Nat) : (d.put f v).tmr = d.tmr := Dev.of_bare Dev.tmr (fun _ => rfl) (d.put_bare f v)
@[simp] theorem Dev.put_links (f : Fld) (v : Nat) : (d.put f v).links = d.links := Dev.of_bare Dev.links (fun _ => rfl) (d.put_bare f v)
@[simp] theorem Dev.put_seqPrev (f : Fld) (v : Nat) : (d.put f v).seqPrev = d.seqPrev := Dev.of_bare Dev.seqPrev (fun _ => rfl) (d.put_bare f v)
@[simp] theorem Dev.put_asleep (f : Fld) (v : Nat) : (d.put f v).asleep = d.asleep := Dev.of_bare Dev.asleep (fun _ => rfl) (d.put_bare f v)
@[simp] theorem Dev.put_revertDue (f : Fld) (v : Nat) : (d.put f v).revertDue = d.revertDue := Dev.of_bare Dev.revertDue (fun _ => rfl) (d.put_bare f v)
@[simp] theorem Dev.put_held (f : Fld) (v : Nat) : (d.put f v).held = d.held := Dev.of_bare Dev.held (fun _ => rfl) (d.put_bare f v)
@[simp] theorem Dev.put_engC (f : Fld) (v : Nat) : (d.put f v).engC = d.engC := Dev.of_bare Dev.engC (fun _ => rfl) (d.put_bare f v)
@[simp] theorem Dev.put_engL (f : Fld) (v : Nat) : (d.put f v).engL = d.engL := Dev.of_bare Dev.engL (fun _ => rfl) (d.put_bare f v)
@[simp] theorem Dev.put_engR (f : Fld) (v : Nat) : (d.put f v).engR = d.engR := Dev.of_bare Dev.engR (fun _ => rfl) (d.put_bare f v)
@[simp] theorem Dev.put_collarRun (f : Fld) (v : Nat) : (d.put f v).collarRun = d.collarRun := Dev.of_bare Dev.collarRun (fun _ => rfl) (d.put_bare f v)
@[simp] theorem Dev.put_traceHeld (f : Fld) (v : Nat) : (d.put f v).traceHeld = d.traceHeld := Dev.of_bare Dev.traceHeld (fun _ => rfl) (d.put_bare f v)
@[simp] theorem Dev.put_traceN (f : Fld) (v : Nat) : (d.put f v).traceN = d.traceN := Dev.of_bare Dev.traceN (fun _ => rfl) (d.put_bare f v)
@[simp] theorem Dev.put_sleepTick (f : Fld) (v : Nat) : (d.put f v).sleepTick = d.sleepTick := Dev.of_bare Dev.sleepTick (fun _ => rfl) (d.put_bare f v)
@[simp] theorem Dev.put_tdcA (f : Fld) (v : Nat) : (d.put f v).tdcA = d.tdcA := Dev.of_bare Dev.tdcA (fun _ => rfl) (d.put_bare f v)
@[simp] theorem Dev.put_tdcB (f : Fld) (v : Nat) : (d.put f v).tdcB = d.tdcB := Dev.of_bare Dev.tdcB (fun _ => rfl) (d.put_bare f v)
@[simp] theorem Dev.put_usf (f : Fld) (v : Nat) : (d.put f v).usf = d.usf := Dev.of_bare Dev.usf (fun _ => rfl) (d.put_bare f v)
@[simp] theorem Dev.put_adc (f : Fld) (v : Nat) : (d.put f v).adc = d.adc := Dev.of_bare Dev.adc (fun _ => rfl) (d.put_bare f v)
@[simp] theorem Dev.put_nextId (f : Fld) (v : Nat) : (d.put f v).nextId = d.nextId := Dev.of_bare Dev.nextId (fun _ => rfl) (d.put_bare f v)
@[simp] theorem Dev.put_detect (f : Fld) (v : Nat) : (d.put f v).detect = d.detect := Dev.of_bare Dev.detect (fun _ => rfl) (d.put_bare f v)
@[simp] theorem Dev.put_swapAcc (f : Fld) (v : Nat) : (d.put f v).swapAcc = d.swapAcc := Dev.of_bare Dev.swapAcc (fun _ => rfl) (d.put_bare f v)
@[simp] theorem Dev.put_met (f : Fld) (v : Nat) : (d.put f v).met = d.met := Dev.of_bare Dev.met (fun _ => rfl) (d.put_bare f v)
@[simp] theorem Dev.put_loop (f : Fld) (v : Nat) : (d.put f v).loop = d.loop := Dev.of_bare Dev.loop (fun _ => rfl) (d.put_bare f v)
@[simp] theorem Dev.put_heldOrders (f : Fld) (v : Nat) : (d.put f v).heldOrders = d.heldOrders := Dev.of_bare Dev.heldOrders (fun _ => rfl) (d.put_bare f v)
@[simp] theorem Dev.put_pocket (f : Fld) (v : Nat) : (d.put f v).pocket = d.pocket := Dev.of_bare Dev.pocket (fun _ => rfl) (d.put_bare f v)
@[simp] theorem Dev.put_radio (f : Fld) (v : Nat) : (d.put f v).radio = d.radio := Dev.of_bare Dev.radio (fun _ => rfl) (d.put_bare f v)
@[simp] theorem Dev.put_freeN (f : Fld) (v : Nat) : (d.put f v).freeN = d.freeN := Dev.of_bare Dev.freeN (fun _ => rfl) (d.put_bare f v)
@[simp] theorem Dev.put_col (f : Fld) (v : Nat) : (d.put f v).col = d.col := Dev.of_bare Dev.col (fun _ => rfl) (d.put_bare f v)
@[simp] theorem Dev.put_label (f : Fld) (v : Nat) : (d.put f v).label = d.label := Dev.of_bare Dev.label (fun _ => rfl) (d.put_bare f v)
@[simp] theorem Dev.put_bist (f : Fld) (v : Nat) : (d.put f v).bist = d.bist := Dev.of_bare Dev.bist (fun _ => rfl) (d.put_bare f v)
@[simp] theorem Dev.put_pads (f : Fld) (v : Nat) : (d.put f v).pads = d.pads := Dev.of_bare Dev.pads (fun _ => rfl) (d.put_bare f v)
@[simp] theorem Dev.put_port (f : Fld) (v : Nat) : (d.put f v).port = d.port := Dev.of_bare Dev.port (fun _ => rfl) (d.put_bare f v)
@[simp] theorem Dev.put_dport (f : Fld) (v : Nat) : (d.put f v).dport = d.dport := Dev.of_bare Dev.dport (fun _ => rfl) (d.put_bare f v)
@[simp] theorem Dev.put_quiesce (f : Fld) (v : Nat) : (d.put f v).quiesce = d.quiesce := Dev.of_bare Dev.quiesce (fun _ => rfl) (d.put_bare f v)
@[simp] theorem Dev.put_stepDue (f : Fld) (v : Nat) : (d.put f v).stepDue = d.stepDue := Dev.of_bare Dev.stepDue (fun _ => rfl) (d.put_bare f v)
@[simp] theorem Dev.put_busHeld (f : Fld) (v : Nat) : (d.put f v).busHeld = d.busHeld := Dev.of_bare Dev.busHeld (fun _ => rfl) (d.put_bare f v)
@[simp] theorem Dev.putS_shadow (f : Fld) (v : Int) : (d.putS f v).shadow = d.shadow := Dev.of_bare Dev.shadow (fun _ => rfl) (d.putS_bare f v)
@[simp] theorem Dev.putS_mem (f : Fld) (v : Int) : (d.putS f v).mem = d.mem := Dev.of_bare Dev.mem (fun _ => rfl) (d.putS_bare f v)
@[simp] theorem Dev.putS_ecc (f : Fld) (v : Int) : (d.putS f v).ecc = d.ecc := Dev.of_bare Dev.ecc (fun _ => rfl) (d.putS_bare f v)
@[simp] theorem Dev.putS_orders (f : Fld) (v : Int) : (d.putS f v).orders = d.orders := Dev.of_bare Dev.orders (fun _ => rfl) (d.putS_bare f v)
@[simp] theorem Dev.putS_sup (f : Fld) (v : Int) : (d.putS f v).sup = d.sup := Dev.of_bare Dev.sup (fun _ => rfl) (d.putS_bare f v)
@[simp] theorem Dev.putS_slack (f : Fld) (v : Int) : (d.putS f v).slack = d.slack := Dev.of_bare Dev.slack (fun _ => rfl) (d.putS_bare f v)
@[simp] theorem Dev.putS_clk (f : Fld) (v : Int) : (d.putS f v).clk = d.clk := Dev.of_bare Dev.clk (fun _ => rfl) (d.putS_bare f v)
@[simp] theorem Dev.putS_tide (f : Fld) (v : Int) : (d.putS f v).tide = d.tide := Dev.of_bare Dev.tide (fun _ => rfl) (d.putS_bare f v)
@[simp] theorem Dev.putS_tmr (f : Fld) (v : Int) : (d.putS f v).tmr = d.tmr := Dev.of_bare Dev.tmr (fun _ => rfl) (d.putS_bare f v)
@[simp] theorem Dev.putS_links (f : Fld) (v : Int) : (d.putS f v).links = d.links := Dev.of_bare Dev.links (fun _ => rfl) (d.putS_bare f v)
@[simp] theorem Dev.putS_seqPrev (f : Fld) (v : Int) : (d.putS f v).seqPrev = d.seqPrev := Dev.of_bare Dev.seqPrev (fun _ => rfl) (d.putS_bare f v)
@[simp] theorem Dev.putS_asleep (f : Fld) (v : Int) : (d.putS f v).asleep = d.asleep := Dev.of_bare Dev.asleep (fun _ => rfl) (d.putS_bare f v)
@[simp] theorem Dev.putS_revertDue (f : Fld) (v : Int) : (d.putS f v).revertDue = d.revertDue := Dev.of_bare Dev.revertDue (fun _ => rfl) (d.putS_bare f v)
@[simp] theorem Dev.putS_held (f : Fld) (v : Int) : (d.putS f v).held = d.held := Dev.of_bare Dev.held (fun _ => rfl) (d.putS_bare f v)
@[simp] theorem Dev.putS_engC (f : Fld) (v : Int) : (d.putS f v).engC = d.engC := Dev.of_bare Dev.engC (fun _ => rfl) (d.putS_bare f v)
@[simp] theorem Dev.putS_engL (f : Fld) (v : Int) : (d.putS f v).engL = d.engL := Dev.of_bare Dev.engL (fun _ => rfl) (d.putS_bare f v)
@[simp] theorem Dev.putS_engR (f : Fld) (v : Int) : (d.putS f v).engR = d.engR := Dev.of_bare Dev.engR (fun _ => rfl) (d.putS_bare f v)
@[simp] theorem Dev.putS_collarRun (f : Fld) (v : Int) : (d.putS f v).collarRun = d.collarRun := Dev.of_bare Dev.collarRun (fun _ => rfl) (d.putS_bare f v)
@[simp] theorem Dev.putS_traceHeld (f : Fld) (v : Int) : (d.putS f v).traceHeld = d.traceHeld := Dev.of_bare Dev.traceHeld (fun _ => rfl) (d.putS_bare f v)
@[simp] theorem Dev.putS_traceN (f : Fld) (v : Int) : (d.putS f v).traceN = d.traceN := Dev.of_bare Dev.traceN (fun _ => rfl) (d.putS_bare f v)
@[simp] theorem Dev.putS_sleepTick (f : Fld) (v : Int) : (d.putS f v).sleepTick = d.sleepTick := Dev.of_bare Dev.sleepTick (fun _ => rfl) (d.putS_bare f v)
@[simp] theorem Dev.putS_tdcA (f : Fld) (v : Int) : (d.putS f v).tdcA = d.tdcA := Dev.of_bare Dev.tdcA (fun _ => rfl) (d.putS_bare f v)
@[simp] theorem Dev.putS_tdcB (f : Fld) (v : Int) : (d.putS f v).tdcB = d.tdcB := Dev.of_bare Dev.tdcB (fun _ => rfl) (d.putS_bare f v)
@[simp] theorem Dev.putS_usf (f : Fld) (v : Int) : (d.putS f v).usf = d.usf := Dev.of_bare Dev.usf (fun _ => rfl) (d.putS_bare f v)
@[simp] theorem Dev.putS_adc (f : Fld) (v : Int) : (d.putS f v).adc = d.adc := Dev.of_bare Dev.adc (fun _ => rfl) (d.putS_bare f v)
@[simp] theorem Dev.putS_nextId (f : Fld) (v : Int) : (d.putS f v).nextId = d.nextId := Dev.of_bare Dev.nextId (fun _ => rfl) (d.putS_bare f v)
@[simp] theorem Dev.putS_detect (f : Fld) (v : Int) : (d.putS f v).detect = d.detect := Dev.of_bare Dev.detect (fun _ => rfl) (d.putS_bare f v)
@[simp] theorem Dev.putS_swapAcc (f : Fld) (v : Int) : (d.putS f v).swapAcc = d.swapAcc := Dev.of_bare Dev.swapAcc (fun _ => rfl) (d.putS_bare f v)
@[simp] theorem Dev.putS_met (f : Fld) (v : Int) : (d.putS f v).met = d.met := Dev.of_bare Dev.met (fun _ => rfl) (d.putS_bare f v)
@[simp] theorem Dev.putS_loop (f : Fld) (v : Int) : (d.putS f v).loop = d.loop := Dev.of_bare Dev.loop (fun _ => rfl) (d.putS_bare f v)
@[simp] theorem Dev.putS_heldOrders (f : Fld) (v : Int) : (d.putS f v).heldOrders = d.heldOrders := Dev.of_bare Dev.heldOrders (fun _ => rfl) (d.putS_bare f v)
@[simp] theorem Dev.putS_pocket (f : Fld) (v : Int) : (d.putS f v).pocket = d.pocket := Dev.of_bare Dev.pocket (fun _ => rfl) (d.putS_bare f v)
@[simp] theorem Dev.putS_radio (f : Fld) (v : Int) : (d.putS f v).radio = d.radio := Dev.of_bare Dev.radio (fun _ => rfl) (d.putS_bare f v)
@[simp] theorem Dev.putS_freeN (f : Fld) (v : Int) : (d.putS f v).freeN = d.freeN := Dev.of_bare Dev.freeN (fun _ => rfl) (d.putS_bare f v)
@[simp] theorem Dev.putS_col (f : Fld) (v : Int) : (d.putS f v).col = d.col := Dev.of_bare Dev.col (fun _ => rfl) (d.putS_bare f v)
@[simp] theorem Dev.putS_label (f : Fld) (v : Int) : (d.putS f v).label = d.label := Dev.of_bare Dev.label (fun _ => rfl) (d.putS_bare f v)
@[simp] theorem Dev.putS_bist (f : Fld) (v : Int) : (d.putS f v).bist = d.bist := Dev.of_bare Dev.bist (fun _ => rfl) (d.putS_bare f v)
@[simp] theorem Dev.putS_pads (f : Fld) (v : Int) : (d.putS f v).pads = d.pads := Dev.of_bare Dev.pads (fun _ => rfl) (d.putS_bare f v)
@[simp] theorem Dev.putS_port (f : Fld) (v : Int) : (d.putS f v).port = d.port := Dev.of_bare Dev.port (fun _ => rfl) (d.putS_bare f v)
@[simp] theorem Dev.putS_dport (f : Fld) (v : Int) : (d.putS f v).dport = d.dport := Dev.of_bare Dev.dport (fun _ => rfl) (d.putS_bare f v)
@[simp] theorem Dev.putS_quiesce (f : Fld) (v : Int) : (d.putS f v).quiesce = d.quiesce := Dev.of_bare Dev.quiesce (fun _ => rfl) (d.putS_bare f v)
@[simp] theorem Dev.putS_stepDue (f : Fld) (v : Int) : (d.putS f v).stepDue = d.stepDue := Dev.of_bare Dev.stepDue (fun _ => rfl) (d.putS_bare f v)
@[simp] theorem Dev.putS_busHeld (f : Fld) (v : Int) : (d.putS f v).busHeld = d.busHeld := Dev.of_bare Dev.busHeld (fun _ => rfl) (d.putS_bare f v)
@[simp] theorem Dev.putB_shadow (f : Fld) (b : Bool) : (d.putB f b).shadow = d.shadow := Dev.of_bare Dev.shadow (fun _ => rfl) (d.putB_bare f b)
@[simp] theorem Dev.putB_mem (f : Fld) (b : Bool) : (d.putB f b).mem = d.mem := Dev.of_bare Dev.mem (fun _ => rfl) (d.putB_bare f b)
@[simp] theorem Dev.putB_ecc (f : Fld) (b : Bool) : (d.putB f b).ecc = d.ecc := Dev.of_bare Dev.ecc (fun _ => rfl) (d.putB_bare f b)
@[simp] theorem Dev.putB_orders (f : Fld) (b : Bool) : (d.putB f b).orders = d.orders := Dev.of_bare Dev.orders (fun _ => rfl) (d.putB_bare f b)
@[simp] theorem Dev.putB_sup (f : Fld) (b : Bool) : (d.putB f b).sup = d.sup := Dev.of_bare Dev.sup (fun _ => rfl) (d.putB_bare f b)
@[simp] theorem Dev.putB_slack (f : Fld) (b : Bool) : (d.putB f b).slack = d.slack := Dev.of_bare Dev.slack (fun _ => rfl) (d.putB_bare f b)
@[simp] theorem Dev.putB_clk (f : Fld) (b : Bool) : (d.putB f b).clk = d.clk := Dev.of_bare Dev.clk (fun _ => rfl) (d.putB_bare f b)
@[simp] theorem Dev.putB_tide (f : Fld) (b : Bool) : (d.putB f b).tide = d.tide := Dev.of_bare Dev.tide (fun _ => rfl) (d.putB_bare f b)
@[simp] theorem Dev.putB_tmr (f : Fld) (b : Bool) : (d.putB f b).tmr = d.tmr := Dev.of_bare Dev.tmr (fun _ => rfl) (d.putB_bare f b)
@[simp] theorem Dev.putB_links (f : Fld) (b : Bool) : (d.putB f b).links = d.links := Dev.of_bare Dev.links (fun _ => rfl) (d.putB_bare f b)
@[simp] theorem Dev.putB_seqPrev (f : Fld) (b : Bool) : (d.putB f b).seqPrev = d.seqPrev := Dev.of_bare Dev.seqPrev (fun _ => rfl) (d.putB_bare f b)
@[simp] theorem Dev.putB_asleep (f : Fld) (b : Bool) : (d.putB f b).asleep = d.asleep := Dev.of_bare Dev.asleep (fun _ => rfl) (d.putB_bare f b)
@[simp] theorem Dev.putB_revertDue (f : Fld) (b : Bool) : (d.putB f b).revertDue = d.revertDue := Dev.of_bare Dev.revertDue (fun _ => rfl) (d.putB_bare f b)
@[simp] theorem Dev.putB_held (f : Fld) (b : Bool) : (d.putB f b).held = d.held := Dev.of_bare Dev.held (fun _ => rfl) (d.putB_bare f b)
@[simp] theorem Dev.putB_engC (f : Fld) (b : Bool) : (d.putB f b).engC = d.engC := Dev.of_bare Dev.engC (fun _ => rfl) (d.putB_bare f b)
@[simp] theorem Dev.putB_engL (f : Fld) (b : Bool) : (d.putB f b).engL = d.engL := Dev.of_bare Dev.engL (fun _ => rfl) (d.putB_bare f b)
@[simp] theorem Dev.putB_engR (f : Fld) (b : Bool) : (d.putB f b).engR = d.engR := Dev.of_bare Dev.engR (fun _ => rfl) (d.putB_bare f b)
@[simp] theorem Dev.putB_collarRun (f : Fld) (b : Bool) : (d.putB f b).collarRun = d.collarRun := Dev.of_bare Dev.collarRun (fun _ => rfl) (d.putB_bare f b)
@[simp] theorem Dev.putB_traceHeld (f : Fld) (b : Bool) : (d.putB f b).traceHeld = d.traceHeld := Dev.of_bare Dev.traceHeld (fun _ => rfl) (d.putB_bare f b)
@[simp] theorem Dev.putB_traceN (f : Fld) (b : Bool) : (d.putB f b).traceN = d.traceN := Dev.of_bare Dev.traceN (fun _ => rfl) (d.putB_bare f b)
@[simp] theorem Dev.putB_sleepTick (f : Fld) (b : Bool) : (d.putB f b).sleepTick = d.sleepTick := Dev.of_bare Dev.sleepTick (fun _ => rfl) (d.putB_bare f b)
@[simp] theorem Dev.putB_tdcA (f : Fld) (b : Bool) : (d.putB f b).tdcA = d.tdcA := Dev.of_bare Dev.tdcA (fun _ => rfl) (d.putB_bare f b)
@[simp] theorem Dev.putB_tdcB (f : Fld) (b : Bool) : (d.putB f b).tdcB = d.tdcB := Dev.of_bare Dev.tdcB (fun _ => rfl) (d.putB_bare f b)
@[simp] theorem Dev.putB_usf (f : Fld) (b : Bool) : (d.putB f b).usf = d.usf := Dev.of_bare Dev.usf (fun _ => rfl) (d.putB_bare f b)
@[simp] theorem Dev.putB_adc (f : Fld) (b : Bool) : (d.putB f b).adc = d.adc := Dev.of_bare Dev.adc (fun _ => rfl) (d.putB_bare f b)
@[simp] theorem Dev.putB_nextId (f : Fld) (b : Bool) : (d.putB f b).nextId = d.nextId := Dev.of_bare Dev.nextId (fun _ => rfl) (d.putB_bare f b)
@[simp] theorem Dev.putB_detect (f : Fld) (b : Bool) : (d.putB f b).detect = d.detect := Dev.of_bare Dev.detect (fun _ => rfl) (d.putB_bare f b)
@[simp] theorem Dev.putB_swapAcc (f : Fld) (b : Bool) : (d.putB f b).swapAcc = d.swapAcc := Dev.of_bare Dev.swapAcc (fun _ => rfl) (d.putB_bare f b)
@[simp] theorem Dev.putB_met (f : Fld) (b : Bool) : (d.putB f b).met = d.met := Dev.of_bare Dev.met (fun _ => rfl) (d.putB_bare f b)
@[simp] theorem Dev.putB_loop (f : Fld) (b : Bool) : (d.putB f b).loop = d.loop := Dev.of_bare Dev.loop (fun _ => rfl) (d.putB_bare f b)
@[simp] theorem Dev.putB_heldOrders (f : Fld) (b : Bool) : (d.putB f b).heldOrders = d.heldOrders := Dev.of_bare Dev.heldOrders (fun _ => rfl) (d.putB_bare f b)
@[simp] theorem Dev.putB_pocket (f : Fld) (b : Bool) : (d.putB f b).pocket = d.pocket := Dev.of_bare Dev.pocket (fun _ => rfl) (d.putB_bare f b)
@[simp] theorem Dev.putB_radio (f : Fld) (b : Bool) : (d.putB f b).radio = d.radio := Dev.of_bare Dev.radio (fun _ => rfl) (d.putB_bare f b)
@[simp] theorem Dev.putB_freeN (f : Fld) (b : Bool) : (d.putB f b).freeN = d.freeN := Dev.of_bare Dev.freeN (fun _ => rfl) (d.putB_bare f b)
@[simp] theorem Dev.putB_col (f : Fld) (b : Bool) : (d.putB f b).col = d.col := Dev.of_bare Dev.col (fun _ => rfl) (d.putB_bare f b)
@[simp] theorem Dev.putB_label (f : Fld) (b : Bool) : (d.putB f b).label = d.label := Dev.of_bare Dev.label (fun _ => rfl) (d.putB_bare f b)
@[simp] theorem Dev.putB_bist (f : Fld) (b : Bool) : (d.putB f b).bist = d.bist := Dev.of_bare Dev.bist (fun _ => rfl) (d.putB_bare f b)
@[simp] theorem Dev.putB_pads (f : Fld) (b : Bool) : (d.putB f b).pads = d.pads := Dev.of_bare Dev.pads (fun _ => rfl) (d.putB_bare f b)
@[simp] theorem Dev.putB_port (f : Fld) (b : Bool) : (d.putB f b).port = d.port := Dev.of_bare Dev.port (fun _ => rfl) (d.putB_bare f b)
@[simp] theorem Dev.putB_dport (f : Fld) (b : Bool) : (d.putB f b).dport = d.dport := Dev.of_bare Dev.dport (fun _ => rfl) (d.putB_bare f b)
@[simp] theorem Dev.putB_quiesce (f : Fld) (b : Bool) : (d.putB f b).quiesce = d.quiesce := Dev.of_bare Dev.quiesce (fun _ => rfl) (d.putB_bare f b)
@[simp] theorem Dev.putB_stepDue (f : Fld) (b : Bool) : (d.putB f b).stepDue = d.stepDue := Dev.of_bare Dev.stepDue (fun _ => rfl) (d.putB_bare f b)
@[simp] theorem Dev.putB_busHeld (f : Fld) (b : Bool) : (d.putB f b).busHeld = d.busHeld := Dev.of_bare Dev.busHeld (fun _ => rfl) (d.putB_bare f b)
@[simp] theorem Dev.bump_shadow (f : Fld) : (d.bump f).shadow = d.shadow := Dev.of_bare Dev.shadow (fun _ => rfl) (d.bump_bare f)
@[simp] theorem Dev.bump_mem (f : Fld) : (d.bump f).mem = d.mem := Dev.of_bare Dev.mem (fun _ => rfl) (d.bump_bare f)
@[simp] theorem Dev.bump_ecc (f : Fld) : (d.bump f).ecc = d.ecc := Dev.of_bare Dev.ecc (fun _ => rfl) (d.bump_bare f)
@[simp] theorem Dev.bump_orders (f : Fld) : (d.bump f).orders = d.orders := Dev.of_bare Dev.orders (fun _ => rfl) (d.bump_bare f)
@[simp] theorem Dev.bump_sup (f : Fld) : (d.bump f).sup = d.sup := Dev.of_bare Dev.sup (fun _ => rfl) (d.bump_bare f)
@[simp] theorem Dev.bump_slack (f : Fld) : (d.bump f).slack = d.slack := Dev.of_bare Dev.slack (fun _ => rfl) (d.bump_bare f)
@[simp] theorem Dev.bump_clk (f : Fld) : (d.bump f).clk = d.clk := Dev.of_bare Dev.clk (fun _ => rfl) (d.bump_bare f)
@[simp] theorem Dev.bump_tide (f : Fld) : (d.bump f).tide = d.tide := Dev.of_bare Dev.tide (fun _ => rfl) (d.bump_bare f)
@[simp] theorem Dev.bump_tmr (f : Fld) : (d.bump f).tmr = d.tmr := Dev.of_bare Dev.tmr (fun _ => rfl) (d.bump_bare f)
@[simp] theorem Dev.bump_links (f : Fld) : (d.bump f).links = d.links := Dev.of_bare Dev.links (fun _ => rfl) (d.bump_bare f)
@[simp] theorem Dev.bump_seqPrev (f : Fld) : (d.bump f).seqPrev = d.seqPrev := Dev.of_bare Dev.seqPrev (fun _ => rfl) (d.bump_bare f)
@[simp] theorem Dev.bump_asleep (f : Fld) : (d.bump f).asleep = d.asleep := Dev.of_bare Dev.asleep (fun _ => rfl) (d.bump_bare f)
@[simp] theorem Dev.bump_revertDue (f : Fld) : (d.bump f).revertDue = d.revertDue := Dev.of_bare Dev.revertDue (fun _ => rfl) (d.bump_bare f)
@[simp] theorem Dev.bump_held (f : Fld) : (d.bump f).held = d.held := Dev.of_bare Dev.held (fun _ => rfl) (d.bump_bare f)
@[simp] theorem Dev.bump_engC (f : Fld) : (d.bump f).engC = d.engC := Dev.of_bare Dev.engC (fun _ => rfl) (d.bump_bare f)
@[simp] theorem Dev.bump_engL (f : Fld) : (d.bump f).engL = d.engL := Dev.of_bare Dev.engL (fun _ => rfl) (d.bump_bare f)
@[simp] theorem Dev.bump_engR (f : Fld) : (d.bump f).engR = d.engR := Dev.of_bare Dev.engR (fun _ => rfl) (d.bump_bare f)
@[simp] theorem Dev.bump_collarRun (f : Fld) : (d.bump f).collarRun = d.collarRun := Dev.of_bare Dev.collarRun (fun _ => rfl) (d.bump_bare f)
@[simp] theorem Dev.bump_traceHeld (f : Fld) : (d.bump f).traceHeld = d.traceHeld := Dev.of_bare Dev.traceHeld (fun _ => rfl) (d.bump_bare f)
@[simp] theorem Dev.bump_traceN (f : Fld) : (d.bump f).traceN = d.traceN := Dev.of_bare Dev.traceN (fun _ => rfl) (d.bump_bare f)
@[simp] theorem Dev.bump_sleepTick (f : Fld) : (d.bump f).sleepTick = d.sleepTick := Dev.of_bare Dev.sleepTick (fun _ => rfl) (d.bump_bare f)
@[simp] theorem Dev.bump_tdcA (f : Fld) : (d.bump f).tdcA = d.tdcA := Dev.of_bare Dev.tdcA (fun _ => rfl) (d.bump_bare f)
@[simp] theorem Dev.bump_tdcB (f : Fld) : (d.bump f).tdcB = d.tdcB := Dev.of_bare Dev.tdcB (fun _ => rfl) (d.bump_bare f)
@[simp] theorem Dev.bump_usf (f : Fld) : (d.bump f).usf = d.usf := Dev.of_bare Dev.usf (fun _ => rfl) (d.bump_bare f)
@[simp] theorem Dev.bump_adc (f : Fld) : (d.bump f).adc = d.adc := Dev.of_bare Dev.adc (fun _ => rfl) (d.bump_bare f)
@[simp] theorem Dev.bump_nextId (f : Fld) : (d.bump f).nextId = d.nextId := Dev.of_bare Dev.nextId (fun _ => rfl) (d.bump_bare f)
@[simp] theorem Dev.bump_detect (f : Fld) : (d.bump f).detect = d.detect := Dev.of_bare Dev.detect (fun _ => rfl) (d.bump_bare f)
@[simp] theorem Dev.bump_swapAcc (f : Fld) : (d.bump f).swapAcc = d.swapAcc := Dev.of_bare Dev.swapAcc (fun _ => rfl) (d.bump_bare f)
@[simp] theorem Dev.bump_met (f : Fld) : (d.bump f).met = d.met := Dev.of_bare Dev.met (fun _ => rfl) (d.bump_bare f)
@[simp] theorem Dev.bump_loop (f : Fld) : (d.bump f).loop = d.loop := Dev.of_bare Dev.loop (fun _ => rfl) (d.bump_bare f)
@[simp] theorem Dev.bump_heldOrders (f : Fld) : (d.bump f).heldOrders = d.heldOrders := Dev.of_bare Dev.heldOrders (fun _ => rfl) (d.bump_bare f)
@[simp] theorem Dev.bump_pocket (f : Fld) : (d.bump f).pocket = d.pocket := Dev.of_bare Dev.pocket (fun _ => rfl) (d.bump_bare f)
@[simp] theorem Dev.bump_radio (f : Fld) : (d.bump f).radio = d.radio := Dev.of_bare Dev.radio (fun _ => rfl) (d.bump_bare f)
@[simp] theorem Dev.bump_freeN (f : Fld) : (d.bump f).freeN = d.freeN := Dev.of_bare Dev.freeN (fun _ => rfl) (d.bump_bare f)
@[simp] theorem Dev.bump_col (f : Fld) : (d.bump f).col = d.col := Dev.of_bare Dev.col (fun _ => rfl) (d.bump_bare f)
@[simp] theorem Dev.bump_label (f : Fld) : (d.bump f).label = d.label := Dev.of_bare Dev.label (fun _ => rfl) (d.bump_bare f)
@[simp] theorem Dev.bump_bist (f : Fld) : (d.bump f).bist = d.bist := Dev.of_bare Dev.bist (fun _ => rfl) (d.bump_bare f)
@[simp] theorem Dev.bump_pads (f : Fld) : (d.bump f).pads = d.pads := Dev.of_bare Dev.pads (fun _ => rfl) (d.bump_bare f)
@[simp] theorem Dev.bump_port (f : Fld) : (d.bump f).port = d.port := Dev.of_bare Dev.port (fun _ => rfl) (d.bump_bare f)
@[simp] theorem Dev.bump_dport (f : Fld) : (d.bump f).dport = d.dport := Dev.of_bare Dev.dport (fun _ => rfl) (d.bump_bare f)
@[simp] theorem Dev.bump_quiesce (f : Fld) : (d.bump f).quiesce = d.quiesce := Dev.of_bare Dev.quiesce (fun _ => rfl) (d.bump_bare f)
@[simp] theorem Dev.bump_stepDue (f : Fld) : (d.bump f).stepDue = d.stepDue := Dev.of_bare Dev.stepDue (fun _ => rfl) (d.bump_bare f)
@[simp] theorem Dev.bump_busHeld (f : Fld) : (d.bump f).busHeld = d.busHeld := Dev.of_bare Dev.busHeld (fun _ => rfl) (d.bump_bare f)
@[simp] theorem Dev.putBit_shadow (f : Fld) (i : Nat) (b : Bool) : (d.putBit f i b).shadow = d.shadow := Dev.of_bare Dev.shadow (fun _ => rfl) (d.putBit_bare f i b)
@[simp] theorem Dev.putBit_mem (f : Fld) (i : Nat) (b : Bool) : (d.putBit f i b).mem = d.mem := Dev.of_bare Dev.mem (fun _ => rfl) (d.putBit_bare f i b)
@[simp] theorem Dev.putBit_ecc (f : Fld) (i : Nat) (b : Bool) : (d.putBit f i b).ecc = d.ecc := Dev.of_bare Dev.ecc (fun _ => rfl) (d.putBit_bare f i b)
@[simp] theorem Dev.putBit_orders (f : Fld) (i : Nat) (b : Bool) : (d.putBit f i b).orders = d.orders := Dev.of_bare Dev.orders (fun _ => rfl) (d.putBit_bare f i b)
@[simp] theorem Dev.putBit_sup (f : Fld) (i : Nat) (b : Bool) : (d.putBit f i b).sup = d.sup := Dev.of_bare Dev.sup (fun _ => rfl) (d.putBit_bare f i b)
@[simp] theorem Dev.putBit_slack (f : Fld) (i : Nat) (b : Bool) : (d.putBit f i b).slack = d.slack := Dev.of_bare Dev.slack (fun _ => rfl) (d.putBit_bare f i b)
@[simp] theorem Dev.putBit_clk (f : Fld) (i : Nat) (b : Bool) : (d.putBit f i b).clk = d.clk := Dev.of_bare Dev.clk (fun _ => rfl) (d.putBit_bare f i b)
@[simp] theorem Dev.putBit_tide (f : Fld) (i : Nat) (b : Bool) : (d.putBit f i b).tide = d.tide := Dev.of_bare Dev.tide (fun _ => rfl) (d.putBit_bare f i b)
@[simp] theorem Dev.putBit_tmr (f : Fld) (i : Nat) (b : Bool) : (d.putBit f i b).tmr = d.tmr := Dev.of_bare Dev.tmr (fun _ => rfl) (d.putBit_bare f i b)
@[simp] theorem Dev.putBit_links (f : Fld) (i : Nat) (b : Bool) : (d.putBit f i b).links = d.links := Dev.of_bare Dev.links (fun _ => rfl) (d.putBit_bare f i b)
@[simp] theorem Dev.putBit_seqPrev (f : Fld) (i : Nat) (b : Bool) : (d.putBit f i b).seqPrev = d.seqPrev := Dev.of_bare Dev.seqPrev (fun _ => rfl) (d.putBit_bare f i b)
@[simp] theorem Dev.putBit_asleep (f : Fld) (i : Nat) (b : Bool) : (d.putBit f i b).asleep = d.asleep := Dev.of_bare Dev.asleep (fun _ => rfl) (d.putBit_bare f i b)
@[simp] theorem Dev.putBit_revertDue (f : Fld) (i : Nat) (b : Bool) : (d.putBit f i b).revertDue = d.revertDue := Dev.of_bare Dev.revertDue (fun _ => rfl) (d.putBit_bare f i b)
@[simp] theorem Dev.putBit_held (f : Fld) (i : Nat) (b : Bool) : (d.putBit f i b).held = d.held := Dev.of_bare Dev.held (fun _ => rfl) (d.putBit_bare f i b)
@[simp] theorem Dev.putBit_engC (f : Fld) (i : Nat) (b : Bool) : (d.putBit f i b).engC = d.engC := Dev.of_bare Dev.engC (fun _ => rfl) (d.putBit_bare f i b)
@[simp] theorem Dev.putBit_engL (f : Fld) (i : Nat) (b : Bool) : (d.putBit f i b).engL = d.engL := Dev.of_bare Dev.engL (fun _ => rfl) (d.putBit_bare f i b)
@[simp] theorem Dev.putBit_engR (f : Fld) (i : Nat) (b : Bool) : (d.putBit f i b).engR = d.engR := Dev.of_bare Dev.engR (fun _ => rfl) (d.putBit_bare f i b)
@[simp] theorem Dev.putBit_collarRun (f : Fld) (i : Nat) (b : Bool) : (d.putBit f i b).collarRun = d.collarRun := Dev.of_bare Dev.collarRun (fun _ => rfl) (d.putBit_bare f i b)
@[simp] theorem Dev.putBit_traceHeld (f : Fld) (i : Nat) (b : Bool) : (d.putBit f i b).traceHeld = d.traceHeld := Dev.of_bare Dev.traceHeld (fun _ => rfl) (d.putBit_bare f i b)
@[simp] theorem Dev.putBit_traceN (f : Fld) (i : Nat) (b : Bool) : (d.putBit f i b).traceN = d.traceN := Dev.of_bare Dev.traceN (fun _ => rfl) (d.putBit_bare f i b)
@[simp] theorem Dev.putBit_sleepTick (f : Fld) (i : Nat) (b : Bool) : (d.putBit f i b).sleepTick = d.sleepTick := Dev.of_bare Dev.sleepTick (fun _ => rfl) (d.putBit_bare f i b)
@[simp] theorem Dev.putBit_tdcA (f : Fld) (i : Nat) (b : Bool) : (d.putBit f i b).tdcA = d.tdcA := Dev.of_bare Dev.tdcA (fun _ => rfl) (d.putBit_bare f i b)
@[simp] theorem Dev.putBit_tdcB (f : Fld) (i : Nat) (b : Bool) : (d.putBit f i b).tdcB = d.tdcB := Dev.of_bare Dev.tdcB (fun _ => rfl) (d.putBit_bare f i b)
@[simp] theorem Dev.putBit_usf (f : Fld) (i : Nat) (b : Bool) : (d.putBit f i b).usf = d.usf := Dev.of_bare Dev.usf (fun _ => rfl) (d.putBit_bare f i b)
@[simp] theorem Dev.putBit_adc (f : Fld) (i : Nat) (b : Bool) : (d.putBit f i b).adc = d.adc := Dev.of_bare Dev.adc (fun _ => rfl) (d.putBit_bare f i b)
@[simp] theorem Dev.putBit_nextId (f : Fld) (i : Nat) (b : Bool) : (d.putBit f i b).nextId = d.nextId := Dev.of_bare Dev.nextId (fun _ => rfl) (d.putBit_bare f i b)
@[simp] theorem Dev.putBit_detect (f : Fld) (i : Nat) (b : Bool) : (d.putBit f i b).detect = d.detect := Dev.of_bare Dev.detect (fun _ => rfl) (d.putBit_bare f i b)
@[simp] theorem Dev.putBit_swapAcc (f : Fld) (i : Nat) (b : Bool) : (d.putBit f i b).swapAcc = d.swapAcc := Dev.of_bare Dev.swapAcc (fun _ => rfl) (d.putBit_bare f i b)
@[simp] theorem Dev.putBit_met (f : Fld) (i : Nat) (b : Bool) : (d.putBit f i b).met = d.met := Dev.of_bare Dev.met (fun _ => rfl) (d.putBit_bare f i b)
@[simp] theorem Dev.putBit_loop (f : Fld) (i : Nat) (b : Bool) : (d.putBit f i b).loop = d.loop := Dev.of_bare Dev.loop (fun _ => rfl) (d.putBit_bare f i b)
@[simp] theorem Dev.putBit_heldOrders (f : Fld) (i : Nat) (b : Bool) : (d.putBit f i b).heldOrders = d.heldOrders := Dev.of_bare Dev.heldOrders (fun _ => rfl) (d.putBit_bare f i b)
@[simp] theorem Dev.putBit_pocket (f : Fld) (i : Nat) (b : Bool) : (d.putBit f i b).pocket = d.pocket := Dev.of_bare Dev.pocket (fun _ => rfl) (d.putBit_bare f i b)
@[simp] theorem Dev.putBit_radio (f : Fld) (i : Nat) (b : Bool) : (d.putBit f i b).radio = d.radio := Dev.of_bare Dev.radio (fun _ => rfl) (d.putBit_bare f i b)
@[simp] theorem Dev.putBit_freeN (f : Fld) (i : Nat) (b : Bool) : (d.putBit f i b).freeN = d.freeN := Dev.of_bare Dev.freeN (fun _ => rfl) (d.putBit_bare f i b)
@[simp] theorem Dev.putBit_col (f : Fld) (i : Nat) (b : Bool) : (d.putBit f i b).col = d.col := Dev.of_bare Dev.col (fun _ => rfl) (d.putBit_bare f i b)
@[simp] theorem Dev.putBit_label (f : Fld) (i : Nat) (b : Bool) : (d.putBit f i b).label = d.label := Dev.of_bare Dev.label (fun _ => rfl) (d.putBit_bare f i b)
@[simp] theorem Dev.putBit_bist (f : Fld) (i : Nat) (b : Bool) : (d.putBit f i b).bist = d.bist := Dev.of_bare Dev.bist (fun _ => rfl) (d.putBit_bare f i b)
@[simp] theorem Dev.putBit_pads (f : Fld) (i : Nat) (b : Bool) : (d.putBit f i b).pads = d.pads := Dev.of_bare Dev.pads (fun _ => rfl) (d.putBit_bare f i b)
@[simp] theorem Dev.putBit_port (f : Fld) (i : Nat) (b : Bool) : (d.putBit f i b).port = d.port := Dev.of_bare Dev.port (fun _ => rfl) (d.putBit_bare f i b)
@[simp] theorem Dev.putBit_dport (f : Fld) (i : Nat) (b : Bool) : (d.putBit f i b).dport = d.dport := Dev.of_bare Dev.dport (fun _ => rfl) (d.putBit_bare f i b)
@[simp] theorem Dev.putBit_quiesce (f : Fld) (i : Nat) (b : Bool) : (d.putBit f i b).quiesce = d.quiesce := Dev.of_bare Dev.quiesce (fun _ => rfl) (d.putBit_bare f i b)
@[simp] theorem Dev.putBit_stepDue (f : Fld) (i : Nat) (b : Bool) : (d.putBit f i b).stepDue = d.stepDue := Dev.of_bare Dev.stepDue (fun _ => rfl) (d.putBit_bare f i b)
@[simp] theorem Dev.putBit_busHeld (f : Fld) (i : Nat) (b : Bool) : (d.putBit f i b).busHeld = d.busHeld := Dev.of_bare Dev.busHeld (fun _ => rfl) (d.putBit_bare f i b)
@[simp] theorem Dev.raiseN_shadow (s n : Nat) : (d.raiseN s n).shadow = d.shadow := Dev.of_bare Dev.shadow (fun _ => rfl) (d.raiseN_bare s n)
@[simp] theorem Dev.raiseN_mem (s n : Nat) : (d.raiseN s n).mem = d.mem := Dev.of_bare Dev.mem (fun _ => rfl) (d.raiseN_bare s n)
@[simp] theorem Dev.raiseN_ecc (s n : Nat) : (d.raiseN s n).ecc = d.ecc := Dev.of_bare Dev.ecc (fun _ => rfl) (d.raiseN_bare s n)
@[simp] theorem Dev.raiseN_orders (s n : Nat) : (d.raiseN s n).orders = d.orders := Dev.of_bare Dev.orders (fun _ => rfl) (d.raiseN_bare s n)
@[simp] theorem Dev.raiseN_sup (s n : Nat) : (d.raiseN s n).sup = d.sup := Dev.of_bare Dev.sup (fun _ => rfl) (d.raiseN_bare s n)
@[simp] theorem Dev.raiseN_slack (s n : Nat) : (d.raiseN s n).slack = d.slack := Dev.of_bare Dev.slack (fun _ => rfl) (d.raiseN_bare s n)
@[simp] theorem Dev.raiseN_clk (s n : Nat) : (d.raiseN s n).clk = d.clk := Dev.of_bare Dev.clk (fun _ => rfl) (d.raiseN_bare s n)
@[simp] theorem Dev.raiseN_tide (s n : Nat) : (d.raiseN s n).tide = d.tide := Dev.of_bare Dev.tide (fun _ => rfl) (d.raiseN_bare s n)
@[simp] theorem Dev.raiseN_tmr (s n : Nat) : (d.raiseN s n).tmr = d.tmr := Dev.of_bare Dev.tmr (fun _ => rfl) (d.raiseN_bare s n)
@[simp] theorem Dev.raiseN_links (s n : Nat) : (d.raiseN s n).links = d.links := Dev.of_bare Dev.links (fun _ => rfl) (d.raiseN_bare s n)
@[simp] theorem Dev.raiseN_seqPrev (s n : Nat) : (d.raiseN s n).seqPrev = d.seqPrev := Dev.of_bare Dev.seqPrev (fun _ => rfl) (d.raiseN_bare s n)
@[simp] theorem Dev.raiseN_asleep (s n : Nat) : (d.raiseN s n).asleep = d.asleep := Dev.of_bare Dev.asleep (fun _ => rfl) (d.raiseN_bare s n)
@[simp] theorem Dev.raiseN_revertDue (s n : Nat) : (d.raiseN s n).revertDue = d.revertDue := Dev.of_bare Dev.revertDue (fun _ => rfl) (d.raiseN_bare s n)
@[simp] theorem Dev.raiseN_held (s n : Nat) : (d.raiseN s n).held = d.held := Dev.of_bare Dev.held (fun _ => rfl) (d.raiseN_bare s n)
@[simp] theorem Dev.raiseN_engC (s n : Nat) : (d.raiseN s n).engC = d.engC := Dev.of_bare Dev.engC (fun _ => rfl) (d.raiseN_bare s n)
@[simp] theorem Dev.raiseN_engL (s n : Nat) : (d.raiseN s n).engL = d.engL := Dev.of_bare Dev.engL (fun _ => rfl) (d.raiseN_bare s n)
@[simp] theorem Dev.raiseN_engR (s n : Nat) : (d.raiseN s n).engR = d.engR := Dev.of_bare Dev.engR (fun _ => rfl) (d.raiseN_bare s n)
@[simp] theorem Dev.raiseN_collarRun (s n : Nat) : (d.raiseN s n).collarRun = d.collarRun := Dev.of_bare Dev.collarRun (fun _ => rfl) (d.raiseN_bare s n)
@[simp] theorem Dev.raiseN_traceHeld (s n : Nat) : (d.raiseN s n).traceHeld = d.traceHeld := Dev.of_bare Dev.traceHeld (fun _ => rfl) (d.raiseN_bare s n)
@[simp] theorem Dev.raiseN_traceN (s n : Nat) : (d.raiseN s n).traceN = d.traceN := Dev.of_bare Dev.traceN (fun _ => rfl) (d.raiseN_bare s n)
@[simp] theorem Dev.raiseN_sleepTick (s n : Nat) : (d.raiseN s n).sleepTick = d.sleepTick := Dev.of_bare Dev.sleepTick (fun _ => rfl) (d.raiseN_bare s n)
@[simp] theorem Dev.raiseN_tdcA (s n : Nat) : (d.raiseN s n).tdcA = d.tdcA := Dev.of_bare Dev.tdcA (fun _ => rfl) (d.raiseN_bare s n)
@[simp] theorem Dev.raiseN_tdcB (s n : Nat) : (d.raiseN s n).tdcB = d.tdcB := Dev.of_bare Dev.tdcB (fun _ => rfl) (d.raiseN_bare s n)
@[simp] theorem Dev.raiseN_usf (s n : Nat) : (d.raiseN s n).usf = d.usf := Dev.of_bare Dev.usf (fun _ => rfl) (d.raiseN_bare s n)
@[simp] theorem Dev.raiseN_adc (s n : Nat) : (d.raiseN s n).adc = d.adc := Dev.of_bare Dev.adc (fun _ => rfl) (d.raiseN_bare s n)
@[simp] theorem Dev.raiseN_nextId (s n : Nat) : (d.raiseN s n).nextId = d.nextId := Dev.of_bare Dev.nextId (fun _ => rfl) (d.raiseN_bare s n)
@[simp] theorem Dev.raiseN_detect (s n : Nat) : (d.raiseN s n).detect = d.detect := Dev.of_bare Dev.detect (fun _ => rfl) (d.raiseN_bare s n)
@[simp] theorem Dev.raiseN_swapAcc (s n : Nat) : (d.raiseN s n).swapAcc = d.swapAcc := Dev.of_bare Dev.swapAcc (fun _ => rfl) (d.raiseN_bare s n)
@[simp] theorem Dev.raiseN_met (s n : Nat) : (d.raiseN s n).met = d.met := Dev.of_bare Dev.met (fun _ => rfl) (d.raiseN_bare s n)
@[simp] theorem Dev.raiseN_loop (s n : Nat) : (d.raiseN s n).loop = d.loop := Dev.of_bare Dev.loop (fun _ => rfl) (d.raiseN_bare s n)
@[simp] theorem Dev.raiseN_heldOrders (s n : Nat) : (d.raiseN s n).heldOrders = d.heldOrders := Dev.of_bare Dev.heldOrders (fun _ => rfl) (d.raiseN_bare s n)
@[simp] theorem Dev.raiseN_pocket (s n : Nat) : (d.raiseN s n).pocket = d.pocket := Dev.of_bare Dev.pocket (fun _ => rfl) (d.raiseN_bare s n)
@[simp] theorem Dev.raiseN_radio (s n : Nat) : (d.raiseN s n).radio = d.radio := Dev.of_bare Dev.radio (fun _ => rfl) (d.raiseN_bare s n)
@[simp] theorem Dev.raiseN_freeN (s n : Nat) : (d.raiseN s n).freeN = d.freeN := Dev.of_bare Dev.freeN (fun _ => rfl) (d.raiseN_bare s n)
@[simp] theorem Dev.raiseN_col (s n : Nat) : (d.raiseN s n).col = d.col := Dev.of_bare Dev.col (fun _ => rfl) (d.raiseN_bare s n)
@[simp] theorem Dev.raiseN_label (s n : Nat) : (d.raiseN s n).label = d.label := Dev.of_bare Dev.label (fun _ => rfl) (d.raiseN_bare s n)
@[simp] theorem Dev.raiseN_bist (s n : Nat) : (d.raiseN s n).bist = d.bist := Dev.of_bare Dev.bist (fun _ => rfl) (d.raiseN_bare s n)
@[simp] theorem Dev.raiseN_pads (s n : Nat) : (d.raiseN s n).pads = d.pads := Dev.of_bare Dev.pads (fun _ => rfl) (d.raiseN_bare s n)
@[simp] theorem Dev.raiseN_port (s n : Nat) : (d.raiseN s n).port = d.port := Dev.of_bare Dev.port (fun _ => rfl) (d.raiseN_bare s n)
@[simp] theorem Dev.raiseN_dport (s n : Nat) : (d.raiseN s n).dport = d.dport := Dev.of_bare Dev.dport (fun _ => rfl) (d.raiseN_bare s n)
@[simp] theorem Dev.raiseN_quiesce (s n : Nat) : (d.raiseN s n).quiesce = d.quiesce := Dev.of_bare Dev.quiesce (fun _ => rfl) (d.raiseN_bare s n)
@[simp] theorem Dev.raiseN_stepDue (s n : Nat) : (d.raiseN s n).stepDue = d.stepDue := Dev.of_bare Dev.stepDue (fun _ => rfl) (d.raiseN_bare s n)
@[simp] theorem Dev.raiseN_busHeld (s n : Nat) : (d.raiseN s n).busHeld = d.busHeld := Dev.of_bare Dev.busHeld (fun _ => rfl) (d.raiseN_bare s n)
@[simp] theorem Dev.raise_shadow (s : Nat) : (d.raise s).shadow = d.shadow := Dev.of_bare Dev.shadow (fun _ => rfl) (d.raise_bare s)
@[simp] theorem Dev.raise_mem (s : Nat) : (d.raise s).mem = d.mem := Dev.of_bare Dev.mem (fun _ => rfl) (d.raise_bare s)
@[simp] theorem Dev.raise_ecc (s : Nat) : (d.raise s).ecc = d.ecc := Dev.of_bare Dev.ecc (fun _ => rfl) (d.raise_bare s)
@[simp] theorem Dev.raise_orders (s : Nat) : (d.raise s).orders = d.orders := Dev.of_bare Dev.orders (fun _ => rfl) (d.raise_bare s)
@[simp] theorem Dev.raise_sup (s : Nat) : (d.raise s).sup = d.sup := Dev.of_bare Dev.sup (fun _ => rfl) (d.raise_bare s)
@[simp] theorem Dev.raise_slack (s : Nat) : (d.raise s).slack = d.slack := Dev.of_bare Dev.slack (fun _ => rfl) (d.raise_bare s)
@[simp] theorem Dev.raise_clk (s : Nat) : (d.raise s).clk = d.clk := Dev.of_bare Dev.clk (fun _ => rfl) (d.raise_bare s)
@[simp] theorem Dev.raise_tide (s : Nat) : (d.raise s).tide = d.tide := Dev.of_bare Dev.tide (fun _ => rfl) (d.raise_bare s)
@[simp] theorem Dev.raise_tmr (s : Nat) : (d.raise s).tmr = d.tmr := Dev.of_bare Dev.tmr (fun _ => rfl) (d.raise_bare s)
@[simp] theorem Dev.raise_links (s : Nat) : (d.raise s).links = d.links := Dev.of_bare Dev.links (fun _ => rfl) (d.raise_bare s)
@[simp] theorem Dev.raise_seqPrev (s : Nat) : (d.raise s).seqPrev = d.seqPrev := Dev.of_bare Dev.seqPrev (fun _ => rfl) (d.raise_bare s)
@[simp] theorem Dev.raise_asleep (s : Nat) : (d.raise s).asleep = d.asleep := Dev.of_bare Dev.asleep (fun _ => rfl) (d.raise_bare s)
@[simp] theorem Dev.raise_revertDue (s : Nat) : (d.raise s).revertDue = d.revertDue := Dev.of_bare Dev.revertDue (fun _ => rfl) (d.raise_bare s)
@[simp] theorem Dev.raise_held (s : Nat) : (d.raise s).held = d.held := Dev.of_bare Dev.held (fun _ => rfl) (d.raise_bare s)
@[simp] theorem Dev.raise_engC (s : Nat) : (d.raise s).engC = d.engC := Dev.of_bare Dev.engC (fun _ => rfl) (d.raise_bare s)
@[simp] theorem Dev.raise_engL (s : Nat) : (d.raise s).engL = d.engL := Dev.of_bare Dev.engL (fun _ => rfl) (d.raise_bare s)
@[simp] theorem Dev.raise_engR (s : Nat) : (d.raise s).engR = d.engR := Dev.of_bare Dev.engR (fun _ => rfl) (d.raise_bare s)
@[simp] theorem Dev.raise_collarRun (s : Nat) : (d.raise s).collarRun = d.collarRun := Dev.of_bare Dev.collarRun (fun _ => rfl) (d.raise_bare s)
@[simp] theorem Dev.raise_traceHeld (s : Nat) : (d.raise s).traceHeld = d.traceHeld := Dev.of_bare Dev.traceHeld (fun _ => rfl) (d.raise_bare s)
@[simp] theorem Dev.raise_traceN (s : Nat) : (d.raise s).traceN = d.traceN := Dev.of_bare Dev.traceN (fun _ => rfl) (d.raise_bare s)
@[simp] theorem Dev.raise_sleepTick (s : Nat) : (d.raise s).sleepTick = d.sleepTick := Dev.of_bare Dev.sleepTick (fun _ => rfl) (d.raise_bare s)
@[simp] theorem Dev.raise_tdcA (s : Nat) : (d.raise s).tdcA = d.tdcA := Dev.of_bare Dev.tdcA (fun _ => rfl) (d.raise_bare s)
@[simp] theorem Dev.raise_tdcB (s : Nat) : (d.raise s).tdcB = d.tdcB := Dev.of_bare Dev.tdcB (fun _ => rfl) (d.raise_bare s)
@[simp] theorem Dev.raise_usf (s : Nat) : (d.raise s).usf = d.usf := Dev.of_bare Dev.usf (fun _ => rfl) (d.raise_bare s)
@[simp] theorem Dev.raise_adc (s : Nat) : (d.raise s).adc = d.adc := Dev.of_bare Dev.adc (fun _ => rfl) (d.raise_bare s)
@[simp] theorem Dev.raise_nextId (s : Nat) : (d.raise s).nextId = d.nextId := Dev.of_bare Dev.nextId (fun _ => rfl) (d.raise_bare s)
@[simp] theorem Dev.raise_detect (s : Nat) : (d.raise s).detect = d.detect := Dev.of_bare Dev.detect (fun _ => rfl) (d.raise_bare s)
@[simp] theorem Dev.raise_swapAcc (s : Nat) : (d.raise s).swapAcc = d.swapAcc := Dev.of_bare Dev.swapAcc (fun _ => rfl) (d.raise_bare s)
@[simp] theorem Dev.raise_met (s : Nat) : (d.raise s).met = d.met := Dev.of_bare Dev.met (fun _ => rfl) (d.raise_bare s)
@[simp] theorem Dev.raise_loop (s : Nat) : (d.raise s).loop = d.loop := Dev.of_bare Dev.loop (fun _ => rfl) (d.raise_bare s)
@[simp] theorem Dev.raise_heldOrders (s : Nat) : (d.raise s).heldOrders = d.heldOrders := Dev.of_bare Dev.heldOrders (fun _ => rfl) (d.raise_bare s)
@[simp] theorem Dev.raise_pocket (s : Nat) : (d.raise s).pocket = d.pocket := Dev.of_bare Dev.pocket (fun _ => rfl) (d.raise_bare s)
@[simp] theorem Dev.raise_radio (s : Nat) : (d.raise s).radio = d.radio := Dev.of_bare Dev.radio (fun _ => rfl) (d.raise_bare s)
@[simp] theorem Dev.raise_freeN (s : Nat) : (d.raise s).freeN = d.freeN := Dev.of_bare Dev.freeN (fun _ => rfl) (d.raise_bare s)
@[simp] theorem Dev.raise_col (s : Nat) : (d.raise s).col = d.col := Dev.of_bare Dev.col (fun _ => rfl) (d.raise_bare s)
@[simp] theorem Dev.raise_label (s : Nat) : (d.raise s).label = d.label := Dev.of_bare Dev.label (fun _ => rfl) (d.raise_bare s)
@[simp] theorem Dev.raise_bist (s : Nat) : (d.raise s).bist = d.bist := Dev.of_bare Dev.bist (fun _ => rfl) (d.raise_bare s)
@[simp] theorem Dev.raise_pads (s : Nat) : (d.raise s).pads = d.pads := Dev.of_bare Dev.pads (fun _ => rfl) (d.raise_bare s)
@[simp] theorem Dev.raise_port (s : Nat) : (d.raise s).port = d.port := Dev.of_bare Dev.port (fun _ => rfl) (d.raise_bare s)
@[simp] theorem Dev.raise_dport (s : Nat) : (d.raise s).dport = d.dport := Dev.of_bare Dev.dport (fun _ => rfl) (d.raise_bare s)
@[simp] theorem Dev.raise_quiesce (s : Nat) : (d.raise s).quiesce = d.quiesce := Dev.of_bare Dev.quiesce (fun _ => rfl) (d.raise_bare s)
@[simp] theorem Dev.raise_stepDue (s : Nat) : (d.raise s).stepDue = d.stepDue := Dev.of_bare Dev.stepDue (fun _ => rfl) (d.raise_bare s)
@[simp] theorem Dev.raise_busHeld (s : Nat) : (d.raise s).busHeld = d.busHeld := Dev.of_bare Dev.busHeld (fun _ => rfl) (d.raise_bare s)
@[simp] theorem Dev.event_shadow (f : Fld) (s : Nat) : (d.event f s).shadow = d.shadow := Dev.of_bare Dev.shadow (fun _ => rfl) (d.event_bare f s)
@[simp] theorem Dev.event_mem (f : Fld) (s : Nat) : (d.event f s).mem = d.mem := Dev.of_bare Dev.mem (fun _ => rfl) (d.event_bare f s)
@[simp] theorem Dev.event_ecc (f : Fld) (s : Nat) : (d.event f s).ecc = d.ecc := Dev.of_bare Dev.ecc (fun _ => rfl) (d.event_bare f s)
@[simp] theorem Dev.event_orders (f : Fld) (s : Nat) : (d.event f s).orders = d.orders := Dev.of_bare Dev.orders (fun _ => rfl) (d.event_bare f s)
@[simp] theorem Dev.event_sup (f : Fld) (s : Nat) : (d.event f s).sup = d.sup := Dev.of_bare Dev.sup (fun _ => rfl) (d.event_bare f s)
@[simp] theorem Dev.event_slack (f : Fld) (s : Nat) : (d.event f s).slack = d.slack := Dev.of_bare Dev.slack (fun _ => rfl) (d.event_bare f s)
@[simp] theorem Dev.event_clk (f : Fld) (s : Nat) : (d.event f s).clk = d.clk := Dev.of_bare Dev.clk (fun _ => rfl) (d.event_bare f s)
@[simp] theorem Dev.event_tide (f : Fld) (s : Nat) : (d.event f s).tide = d.tide := Dev.of_bare Dev.tide (fun _ => rfl) (d.event_bare f s)
@[simp] theorem Dev.event_tmr (f : Fld) (s : Nat) : (d.event f s).tmr = d.tmr := Dev.of_bare Dev.tmr (fun _ => rfl) (d.event_bare f s)
@[simp] theorem Dev.event_links (f : Fld) (s : Nat) : (d.event f s).links = d.links := Dev.of_bare Dev.links (fun _ => rfl) (d.event_bare f s)
@[simp] theorem Dev.event_seqPrev (f : Fld) (s : Nat) : (d.event f s).seqPrev = d.seqPrev := Dev.of_bare Dev.seqPrev (fun _ => rfl) (d.event_bare f s)
@[simp] theorem Dev.event_asleep (f : Fld) (s : Nat) : (d.event f s).asleep = d.asleep := Dev.of_bare Dev.asleep (fun _ => rfl) (d.event_bare f s)
@[simp] theorem Dev.event_revertDue (f : Fld) (s : Nat) : (d.event f s).revertDue = d.revertDue := Dev.of_bare Dev.revertDue (fun _ => rfl) (d.event_bare f s)
@[simp] theorem Dev.event_held (f : Fld) (s : Nat) : (d.event f s).held = d.held := Dev.of_bare Dev.held (fun _ => rfl) (d.event_bare f s)
@[simp] theorem Dev.event_engC (f : Fld) (s : Nat) : (d.event f s).engC = d.engC := Dev.of_bare Dev.engC (fun _ => rfl) (d.event_bare f s)
@[simp] theorem Dev.event_engL (f : Fld) (s : Nat) : (d.event f s).engL = d.engL := Dev.of_bare Dev.engL (fun _ => rfl) (d.event_bare f s)
@[simp] theorem Dev.event_engR (f : Fld) (s : Nat) : (d.event f s).engR = d.engR := Dev.of_bare Dev.engR (fun _ => rfl) (d.event_bare f s)
@[simp] theorem Dev.event_collarRun (f : Fld) (s : Nat) : (d.event f s).collarRun = d.collarRun := Dev.of_bare Dev.collarRun (fun _ => rfl) (d.event_bare f s)
@[simp] theorem Dev.event_traceHeld (f : Fld) (s : Nat) : (d.event f s).traceHeld = d.traceHeld := Dev.of_bare Dev.traceHeld (fun _ => rfl) (d.event_bare f s)
@[simp] theorem Dev.event_traceN (f : Fld) (s : Nat) : (d.event f s).traceN = d.traceN := Dev.of_bare Dev.traceN (fun _ => rfl) (d.event_bare f s)
@[simp] theorem Dev.event_sleepTick (f : Fld) (s : Nat) : (d.event f s).sleepTick = d.sleepTick := Dev.of_bare Dev.sleepTick (fun _ => rfl) (d.event_bare f s)
@[simp] theorem Dev.event_tdcA (f : Fld) (s : Nat) : (d.event f s).tdcA = d.tdcA := Dev.of_bare Dev.tdcA (fun _ => rfl) (d.event_bare f s)
@[simp] theorem Dev.event_tdcB (f : Fld) (s : Nat) : (d.event f s).tdcB = d.tdcB := Dev.of_bare Dev.tdcB (fun _ => rfl) (d.event_bare f s)
@[simp] theorem Dev.event_usf (f : Fld) (s : Nat) : (d.event f s).usf = d.usf := Dev.of_bare Dev.usf (fun _ => rfl) (d.event_bare f s)
@[simp] theorem Dev.event_adc (f : Fld) (s : Nat) : (d.event f s).adc = d.adc := Dev.of_bare Dev.adc (fun _ => rfl) (d.event_bare f s)
@[simp] theorem Dev.event_nextId (f : Fld) (s : Nat) : (d.event f s).nextId = d.nextId := Dev.of_bare Dev.nextId (fun _ => rfl) (d.event_bare f s)
@[simp] theorem Dev.event_detect (f : Fld) (s : Nat) : (d.event f s).detect = d.detect := Dev.of_bare Dev.detect (fun _ => rfl) (d.event_bare f s)
@[simp] theorem Dev.event_swapAcc (f : Fld) (s : Nat) : (d.event f s).swapAcc = d.swapAcc := Dev.of_bare Dev.swapAcc (fun _ => rfl) (d.event_bare f s)
@[simp] theorem Dev.event_met (f : Fld) (s : Nat) : (d.event f s).met = d.met := Dev.of_bare Dev.met (fun _ => rfl) (d.event_bare f s)
@[simp] theorem Dev.event_loop (f : Fld) (s : Nat) : (d.event f s).loop = d.loop := Dev.of_bare Dev.loop (fun _ => rfl) (d.event_bare f s)
@[simp] theorem Dev.event_heldOrders (f : Fld) (s : Nat) : (d.event f s).heldOrders = d.heldOrders := Dev.of_bare Dev.heldOrders (fun _ => rfl) (d.event_bare f s)
@[simp] theorem Dev.event_pocket (f : Fld) (s : Nat) : (d.event f s).pocket = d.pocket := Dev.of_bare Dev.pocket (fun _ => rfl) (d.event_bare f s)
@[simp] theorem Dev.event_radio (f : Fld) (s : Nat) : (d.event f s).radio = d.radio := Dev.of_bare Dev.radio (fun _ => rfl) (d.event_bare f s)
@[simp] theorem Dev.event_freeN (f : Fld) (s : Nat) : (d.event f s).freeN = d.freeN := Dev.of_bare Dev.freeN (fun _ => rfl) (d.event_bare f s)
@[simp] theorem Dev.event_col (f : Fld) (s : Nat) : (d.event f s).col = d.col := Dev.of_bare Dev.col (fun _ => rfl) (d.event_bare f s)
@[simp] theorem Dev.event_label (f : Fld) (s : Nat) : (d.event f s).label = d.label := Dev.of_bare Dev.label (fun _ => rfl) (d.event_bare f s)
@[simp] theorem Dev.event_bist (f : Fld) (s : Nat) : (d.event f s).bist = d.bist := Dev.of_bare Dev.bist (fun _ => rfl) (d.event_bare f s)
@[simp] theorem Dev.event_pads (f : Fld) (s : Nat) : (d.event f s).pads = d.pads := Dev.of_bare Dev.pads (fun _ => rfl) (d.event_bare f s)
@[simp] theorem Dev.event_port (f : Fld) (s : Nat) : (d.event f s).port = d.port := Dev.of_bare Dev.port (fun _ => rfl) (d.event_bare f s)
@[simp] theorem Dev.event_dport (f : Fld) (s : Nat) : (d.event f s).dport = d.dport := Dev.of_bare Dev.dport (fun _ => rfl) (d.event_bare f s)
@[simp] theorem Dev.event_quiesce (f : Fld) (s : Nat) : (d.event f s).quiesce = d.quiesce := Dev.of_bare Dev.quiesce (fun _ => rfl) (d.event_bare f s)
@[simp] theorem Dev.event_stepDue (f : Fld) (s : Nat) : (d.event f s).stepDue = d.stepDue := Dev.of_bare Dev.stepDue (fun _ => rfl) (d.event_bare f s)
@[simp] theorem Dev.event_busHeld (f : Fld) (s : Nat) : (d.event f s).busHeld = d.busHeld := Dev.of_bare Dev.busHeld (fun _ => rfl) (d.event_bare f s)
@[simp] theorem Dev.irq_shadow (c : Nat) : (d.irq c).shadow = d.shadow := Dev.of_bare Dev.shadow (fun _ => rfl) (d.irq_bare c)
@[simp] theorem Dev.irq_mem (c : Nat) : (d.irq c).mem = d.mem := Dev.of_bare Dev.mem (fun _ => rfl) (d.irq_bare c)
@[simp] theorem Dev.irq_ecc (c : Nat) : (d.irq c).ecc = d.ecc := Dev.of_bare Dev.ecc (fun _ => rfl) (d.irq_bare c)
@[simp] theorem Dev.irq_orders (c : Nat) : (d.irq c).orders = d.orders := Dev.of_bare Dev.orders (fun _ => rfl) (d.irq_bare c)
@[simp] theorem Dev.irq_sup (c : Nat) : (d.irq c).sup = d.sup := Dev.of_bare Dev.sup (fun _ => rfl) (d.irq_bare c)
@[simp] theorem Dev.irq_slack (c : Nat) : (d.irq c).slack = d.slack := Dev.of_bare Dev.slack (fun _ => rfl) (d.irq_bare c)
@[simp] theorem Dev.irq_clk (c : Nat) : (d.irq c).clk = d.clk := Dev.of_bare Dev.clk (fun _ => rfl) (d.irq_bare c)
@[simp] theorem Dev.irq_tide (c : Nat) : (d.irq c).tide = d.tide := Dev.of_bare Dev.tide (fun _ => rfl) (d.irq_bare c)
@[simp] theorem Dev.irq_tmr (c : Nat) : (d.irq c).tmr = d.tmr := Dev.of_bare Dev.tmr (fun _ => rfl) (d.irq_bare c)
@[simp] theorem Dev.irq_links (c : Nat) : (d.irq c).links = d.links := Dev.of_bare Dev.links (fun _ => rfl) (d.irq_bare c)
@[simp] theorem Dev.irq_seqPrev (c : Nat) : (d.irq c).seqPrev = d.seqPrev := Dev.of_bare Dev.seqPrev (fun _ => rfl) (d.irq_bare c)
@[simp] theorem Dev.irq_asleep (c : Nat) : (d.irq c).asleep = d.asleep := Dev.of_bare Dev.asleep (fun _ => rfl) (d.irq_bare c)
@[simp] theorem Dev.irq_revertDue (c : Nat) : (d.irq c).revertDue = d.revertDue := Dev.of_bare Dev.revertDue (fun _ => rfl) (d.irq_bare c)
@[simp] theorem Dev.irq_held (c : Nat) : (d.irq c).held = d.held := Dev.of_bare Dev.held (fun _ => rfl) (d.irq_bare c)
@[simp] theorem Dev.irq_engC (c : Nat) : (d.irq c).engC = d.engC := Dev.of_bare Dev.engC (fun _ => rfl) (d.irq_bare c)
@[simp] theorem Dev.irq_engL (c : Nat) : (d.irq c).engL = d.engL := Dev.of_bare Dev.engL (fun _ => rfl) (d.irq_bare c)
@[simp] theorem Dev.irq_engR (c : Nat) : (d.irq c).engR = d.engR := Dev.of_bare Dev.engR (fun _ => rfl) (d.irq_bare c)
@[simp] theorem Dev.irq_collarRun (c : Nat) : (d.irq c).collarRun = d.collarRun := Dev.of_bare Dev.collarRun (fun _ => rfl) (d.irq_bare c)
@[simp] theorem Dev.irq_traceHeld (c : Nat) : (d.irq c).traceHeld = d.traceHeld := Dev.of_bare Dev.traceHeld (fun _ => rfl) (d.irq_bare c)
@[simp] theorem Dev.irq_traceN (c : Nat) : (d.irq c).traceN = d.traceN := Dev.of_bare Dev.traceN (fun _ => rfl) (d.irq_bare c)
@[simp] theorem Dev.irq_sleepTick (c : Nat) : (d.irq c).sleepTick = d.sleepTick := Dev.of_bare Dev.sleepTick (fun _ => rfl) (d.irq_bare c)
@[simp] theorem Dev.irq_tdcA (c : Nat) : (d.irq c).tdcA = d.tdcA := Dev.of_bare Dev.tdcA (fun _ => rfl) (d.irq_bare c)
@[simp] theorem Dev.irq_tdcB (c : Nat) : (d.irq c).tdcB = d.tdcB := Dev.of_bare Dev.tdcB (fun _ => rfl) (d.irq_bare c)
@[simp] theorem Dev.irq_usf (c : Nat) : (d.irq c).usf = d.usf := Dev.of_bare Dev.usf (fun _ => rfl) (d.irq_bare c)
@[simp] theorem Dev.irq_adc (c : Nat) : (d.irq c).adc = d.adc := Dev.of_bare Dev.adc (fun _ => rfl) (d.irq_bare c)
@[simp] theorem Dev.irq_nextId (c : Nat) : (d.irq c).nextId = d.nextId := Dev.of_bare Dev.nextId (fun _ => rfl) (d.irq_bare c)
@[simp] theorem Dev.irq_detect (c : Nat) : (d.irq c).detect = d.detect := Dev.of_bare Dev.detect (fun _ => rfl) (d.irq_bare c)
@[simp] theorem Dev.irq_swapAcc (c : Nat) : (d.irq c).swapAcc = d.swapAcc := Dev.of_bare Dev.swapAcc (fun _ => rfl) (d.irq_bare c)
@[simp] theorem Dev.irq_met (c : Nat) : (d.irq c).met = d.met := Dev.of_bare Dev.met (fun _ => rfl) (d.irq_bare c)
@[simp] theorem Dev.irq_loop (c : Nat) : (d.irq c).loop = d.loop := Dev.of_bare Dev.loop (fun _ => rfl) (d.irq_bare c)
@[simp] theorem Dev.irq_heldOrders (c : Nat) : (d.irq c).heldOrders = d.heldOrders := Dev.of_bare Dev.heldOrders (fun _ => rfl) (d.irq_bare c)
@[simp] theorem Dev.irq_pocket (c : Nat) : (d.irq c).pocket = d.pocket := Dev.of_bare Dev.pocket (fun _ => rfl) (d.irq_bare c)
@[simp] theorem Dev.irq_radio (c : Nat) : (d.irq c).radio = d.radio := Dev.of_bare Dev.radio (fun _ => rfl) (d.irq_bare c)
@[simp] theorem Dev.irq_freeN (c : Nat) : (d.irq c).freeN = d.freeN := Dev.of_bare Dev.freeN (fun _ => rfl) (d.irq_bare c)
@[simp] theorem Dev.irq_col (c : Nat) : (d.irq c).col = d.col := Dev.of_bare Dev.col (fun _ => rfl) (d.irq_bare c)
@[simp] theorem Dev.irq_label (c : Nat) : (d.irq c).label = d.label := Dev.of_bare Dev.label (fun _ => rfl) (d.irq_bare c)
@[simp] theorem Dev.irq_bist (c : Nat) : (d.irq c).bist = d.bist := Dev.of_bare Dev.bist (fun _ => rfl) (d.irq_bare c)
@[simp] theorem Dev.irq_pads (c : Nat) : (d.irq c).pads = d.pads := Dev.of_bare Dev.pads (fun _ => rfl) (d.irq_bare c)
@[simp] theorem Dev.irq_port (c : Nat) : (d.irq c).port = d.port := Dev.of_bare Dev.port (fun _ => rfl) (d.irq_bare c)
@[simp] theorem Dev.irq_dport (c : Nat) : (d.irq c).dport = d.dport := Dev.of_bare Dev.dport (fun _ => rfl) (d.irq_bare c)
@[simp] theorem Dev.irq_quiesce (c : Nat) : (d.irq c).quiesce = d.quiesce := Dev.of_bare Dev.quiesce (fun _ => rfl) (d.irq_bare c)
@[simp] theorem Dev.irq_stepDue (c : Nat) : (d.irq c).stepDue = d.stepDue := Dev.of_bare Dev.stepDue (fun _ => rfl) (d.irq_bare c)
@[simp] theorem Dev.irq_busHeld (c : Nat) : (d.irq c).busHeld = d.busHeld := Dev.of_bare Dev.busHeld (fun _ => rfl) (d.irq_bare c)

/-! ## The registers that an event reaches -/

/-- The counts and overflow flags of the router's inputs. -/
def evtAddrs : List Nat := [F.EVT_PENDL, F.EVT_OVFL, F.EVT_PENDR, F.EVT_OVFR, F.EVT_PENDC, F.EVT_OVFC]

@[simp] theorem Dev.tap_regs (s : Nat) : (d.tap s).regs = d.regs := by
  unfold Dev.tap
  split <;> rfl
@[simp] theorem Dev.reg_tap (s a : Nat) : (d.tap s).reg a = d.reg a := by simp only [Dev.reg, Dev.tap_regs]

theorem Dev.reg_raiseN {a : Nat} (s n : Nat) (h : a ∉ evtAddrs) : (d.raiseN s n).reg a = d.reg a := by
  simp only [evtAddrs, List.mem_cons, not_or, List.not_mem_nil, not_false_eq_true, and_true] at h
  obtain ⟨h1, h2, h3, h4, h5, h6⟩ := h
  unfold Dev.raiseN
  split
  · simp only [Dev.reg_setReg_ne _ _ h1, Dev.reg_setReg_ne _ _ h2, Dev.reg_setReg_ne _ _ h3, Dev.reg_setReg_ne _ _ h4,
      Dev.reg_setReg_ne _ _ h5, Dev.reg_setReg_ne _ _ h6, Dev.reg_tap]
  · rfl

theorem Dev.reg_raise {a : Nat} (s : Nat) (h : a ∉ evtAddrs) : (d.raise s).reg a = d.reg a := d.reg_raiseN s 1 h

theorem Dev.get_raise (f : Fld) (s : Nat) (h : f.addr ∉ evtAddrs) : (d.raise s).get f = d.get f := Dev.get_of_reg (d.reg_raise s h)

theorem Dev.reg_event {a : Nat} (f : Fld) (s : Nat) (h : a ∉ evtAddrs) (hf : a ≠ f.addr) : (d.event f s).reg a = d.reg a := by
  unfold Dev.event
  split
  · rfl
  · rw [Dev.reg_raise _ _ h, Dev.reg_put_ne _ _ hf]

/-- After an event its flag stands. -/
theorem Dev.flag_event_self (f : Fld) (s : Nat) (h : f.addr ∉ evtAddrs) (hw : f.hi = f.lo) (hf : f.hi < 72) : (d.event f s).flag f = true := by
  unfold Dev.event
  split
  · assumption
  · simp only [Dev.flag, Dev.get_raise _ _ _ h, Dev.get_put_self _ _ _ hf, hw]
    simp

/-- An event leaves a field beside its flag as it was. -/
theorem Dev.get_event_ne (f g : Fld) (s : Nat) (h : g.addr ∉ evtAddrs) (hf : f.hi < 72) (hd : g.addr ≠ f.addr ∨ g.hi < f.lo ∨ f.hi < g.lo) :
    (d.event f s).get g = d.get g := by
  unfold Dev.event
  split
  · rfl
  · rw [Dev.get_raise _ _ _ h, Dev.get_put_ne _ _ _ _ hf hd]

end Sys2Proof.Machine
end

