-- ==== Sys2Proof/Safety.lean ====
section
/-!
DEFINITION. The terms in which statements about this block are made: what it is to complete, when nothing is left to follow by itself,
which status always shows what stands, and what one part of the block leaves alone of the others.
-/
namespace Sys2Proof.Machine

/-- The command completes: it answers a next state in which the queue stands as it stood, and `P` holds of the device. -/
def Completes (c : Instr) (s : State) (P : Dev → Prop) : Prop := ∃ t, exec c s = .next t ∧ t.pending = s.pending ∧ P t.dev

/-- The settings that SYSCLK runs under are those kept last for an open pair of TDC unit `u` (R300). -/
def Dev.tdcNoted (d : Dev) (u : Nat) : Bool := (d.tdc u).pair.isNone || (d.tdc u).hist.getLast? == some d.clkSet

/-- Trace records wait to be sent, and may be (R197). -/
def Dev.streamDue (d : Dev) : Bool :=
  d.flag F.DBG_TRCFG_STREAM && !d.asleep && !d.dport.open_ && d.traceN != 0 && !d.pads.lost && !d.held.contains (19, 0)

/-- As `calm`, but the bus channels may stand still for sleep. -/
def Dev.noWork (d : Dev) : Bool :=
  d.stepDue.isEmpty && !d.col.bndDue && d.slack.waiting.isEmpty && d.loop.sending.isNone && d.tdcNoted 0 && d.tdcNoted 1
    && d.label.blocks.isEmpty && d.raised.isEmpty && !d.streamDue

/-- Nothing waits to follow a command by itself: no single step and no forced boundary are asked for, the bus channels run, no window
request waits, no loop reply is on its way, LABEL has no block to return, no source waits for a capture, no trace record for the port, and an open pair's clock
settings are kept. -/
def Dev.calm (d : Dev) : Bool := !d.busHeld && d.noWork

/-- No capture input of a timer channel watches an event-router source; they watch TP pins or nothing (R145). -/
def Dev.untapped (d : Dev) : Prop := ∀ n < 16, 64 ≤ d.get (F.TMR_CAPSEL_CAPA n) ∧ 64 ≤ d.get (F.TMR_CAPSEL_CAPB n)

/-- The registers in which the device keeps some field at what stands now, and those an announced loop alarm changes. -/
def settledAddrs : List Nat :=
  [F.PWR_STAT, F.PWR_CELL, F.SEAM_STAT, F.DBG_STAT, F.TDC_STAT 0, F.TDC_STAT 1, F.USF_STAT, F.USF_NOECHO, F.ADC_STAT, F.MET_LOGCAP,
   F.LOOP_STAT, F.LOOP_EVT, F.HOST_IRQ, F.EVT_PENDL, F.EVT_OVFL, F.EVT_PENDR, F.EVT_OVFR, F.EVT_PENDC, F.EVT_OVFC, F.MAC_STAT,
   F.MAC_ADDR, F.MAC_FC, F.RADIO_STAT, F.WUR_STAT, F.BIST_DEGR, F.BIST_ECC, F.LBL_STAT, F.SYS_PADSTAT]

/-- The device rests: calm, its status shown, its register file in the canonical form, and no event makes a timer capture. -/
def Dev.atRest (d : Dev) : Prop := d.calm = true ∧ d.settle = d ∧ Store.wf resetWord d.regs = true ∧ d.untapped

/-! ## The engines -/

/-- The engine of `f` is about to execute: it runs and is not asked to halt, and the word it fetches from is allowed, holds no wrong bit, and
holds no literal in the slot of this instruction (R165, R166, R177). -/
def Dev.fetches (d : Dev) (f : Fetch) : Prop :=
  f.check = .sound ∧ d.runOf f.eng = Run.running ∧ d.haltBit f.eng = false ∧ fetchSource f.eng ((d.eng f.eng).ia.toNat / 2) = true
    ∧ d.eccMark (d.fetchWord f.eng) = none
    ∧ ((d.eng f.eng).ia.getLsbD 0 = true → bitsOf (d.load (d.fetchWord f.eng)) 35 30 ≠ 0x03)

/-- An engine after an instruction of `len` slots that wrote `r` to W[D] and the flags `fl`, its instruction address moved on and the loop
end test made (R166, R219). -/
def EngState.done (e : EngState) (rd : WReg) (r : Word) (fl : Flags) : EngState := { e with w := e.w.set rd r, fl := fl }.complete 1

/-- The command changes the state of engine `x` to `e` and nothing else at all. -/
def OnlyEngine (c : Instr) (s : State) (x : Eng) (e : EngState) : Prop := exec c s = .next ⟨s.pending, s.dev.onEng x (fun _ => e)⟩

/-- No rendezvous is due: the device is not in PAIRED, or the engine is the Collar (R186). -/
def Dev.alone (d : Dev) (x : Eng) : Prop := d.paired = false ∨ x = .collar

/-- Engine `x` reads address `a`: it may load it, and its word of memory holds no wrong bit; in PAIRED the word lies in its own half or image
(R173, R177, R186). -/
def Dev.loads (d : Dev) (x : Eng) (a : Nat) : Prop :=
  d.mayLoad x a = true ∧ (isRegSpace a = false → d.eccMark (d.physical x a) = none) ∧ (d.alone x ∨ outsideHalf a = false)

/-- Beside the registers of `p`, the status registers and engine `x`, nothing of registers, memory, error marks, engines and keys differs
between `d` and `t`. -/
def Dev.SameBut (d t : Dev) (x : Eng) (p : Nat → Prop) : Prop :=
  t.mem = d.mem ∧ t.ecc = d.ecc ∧ t.pocket = d.pocket ∧ (∀ y, y ≠ x → t.eng y = d.eng y)
    ∧ ∀ a, a ∉ settledAddrs → ¬ p a → t.reg a = d.reg a

/-- The same for a command that touches no engine. -/
def Dev.Same (d t : Dev) (p : Nat → Prop) : Prop :=
  t.mem = d.mem ∧ t.ecc = d.ecc ∧ t.pocket = d.pocket ∧ (∀ y, t.eng y = d.eng y) ∧ ∀ a, a ∉ settledAddrs → ¬ p a → t.reg a = d.reg a

/-- The same for a command that writes the log: no word of memory outside the log's ring differs, and of the registers those of `p` and the log's
own counters (R259, R261). -/
def Dev.SameLogged (d t : Dev) (p : Nat → Prop) : Prop :=
  (∀ a, ¬ (0x88000 ≤ a ∧ a < 0x8E000) → t.load a = d.load a ∧ t.eccMark a = d.eccMark a) ∧ t.pocket = d.pocket ∧ (∀ y, t.eng y = d.eng y)
    ∧ ∀ a, a ∉ settledAddrs → a ≠ F.COLLAR_LOGSTAT → ¬ p a → t.reg a = d.reg a

/-! ## Windows and events -/

/-- A window request starts its settling at once: no window is open, opening or just closed, SYSCLK stands, CLK is not held, the pool is at 2.40 V,
and no scheduled transmit slot falls into a window (R23, R113, R114, R115). -/
def Dev.windowFree (d : Dev) : Prop :=
  d.flag F.CLK_SLKSTAT_OPEN = false ∧ d.slack.opening = none ∧ d.slack.gap = false ∧ d.clockMoving = false ∧ 2400 ≤ d.sup.vpool
    ∧ d.held.contains (2, 0) = false ∧ ∀ len, d.txSlotIn len = false

/-- Between `d` and `t` source `src` was raised `n` times and nothing else was: every input routed to it counts so many more, no further
than 3, and every other count stays (R287). -/
def Dev.raisedOnly (d t : Dev) (src n : Nat) : Prop :=
  ∀ (x : Eng) (i : Nat), i < inputsN x →
    t.pendCount x i = if routedTo (d.reg (routeReg x i)) src then min 3 (d.pendCount x i + n) else d.pendCount x i

/-- NOP, MOV, MOVI and the arithmetic, logic and shift instructions: they read and write registers of the engine and nothing else. -/
def plainOp : YOp → Bool
  | .nop | .mov _ _ | .movi _ _ | .alu _ _ _ _ | .shift _ _ _ _ | .immOp _ _ _ _ => true
  | _ => false

/-! ## Requests to the front end -/

/-- TDC unit `v` serves work addressed to unit `u`: itself, or its twin where it is held (R312). -/
def Dev.servesTdc (d : Dev) (u v : Nat) : Prop := (d.tdcUp u = true ∧ v = u) ∨ (d.tdcUp u = false ∧ d.tdcUp (1 - u) = true ∧ v = 1 - u)

/-- The TDC unit that a shot request is addressed to: the one named, else the one of its direction (R318). -/
def UsfWord.want (q : UsfWord) : Nat := if q.unit = 0 then q.ebb.toNat else q.unit - 1

/-- A shot request can be served: its path works, and a TDC unit does for a timing request (R320). -/
def Dev.usfServed (d : Dev) (q : UsfWord) : Prop := d.pathOk q.path = true ∧ (q.wave = true ∨ ∃ v, d.servesTdc q.want v)

/-- No queue has room for it: the USF's, or the queue of the TDC unit that would serve it (R227, R320). -/
def Dev.usfFull (d : Dev) (q : UsfWord) : Prop :=
  8 ≤ d.usf.queue.length ∨ (q.wave = false ∧ ∃ v, d.servesTdc q.want v ∧ 8 ≤ (d.tdc v).queue.length)

/-- No request at the head of a queue waits to be dropped for a block its requester did not own (R278). -/
def Dev.headsSound (d : Dev) : Prop :=
  (∀ r q, d.usf.queue = r :: q → (r.wave && r.orphan) = false) ∧ ∀ u j q, (d.tdc u).queue = j :: q → j.orphan = false

/-- The shot request `q` of owner code `who` joined the queue as it was asked for, a timing request with its job in the queue of the TDC unit that
serves it; its block is the front end's (R277, R318, R320). -/
def Dev.joinedUsf (d t : Dev) (who : Nat) (q : UsfWord) : Prop :=
  ∃ r, t.usf.queue = d.usf.queue ++ [r] ∧ r.block = q.block ∧ r.path = q.path ∧ r.ebb = q.ebb ∧ r.wave = q.wave ∧ r.n = q.n ∧ r.left = q.n ∧
    r.who = who ∧ r.taken = 0 ∧ (q.wave = true → r.srate = q.srate ∧ r.start = q.start ∧ t.owner q.block = Own.usf) ∧
    (q.wave = false → d.servesTdc q.want r.unit ∧ t.owner q.block = Own.tdc ∧
      ∃ j, (t.tdc r.unit).queue = (d.tdc r.unit).queue ++ [j] ∧ j.usf = some r.id ∧ j.block = q.block ∧ j.n = q.n ∧ j.list = q.list ∧ j.win = true ∧
        j.who = who ∧ j.tries = 0)

/-- The ADC unit that a conversion request is addressed to: the one named, else the one its input record prefers (R338). -/
def Dev.adcWant (d : Dev) (q : AdcWord) : Nat := if q.unit = 0 then d.get (F.ADC_IN_UNITPREF q.input) else q.unit - 1

/-- A conversion request can be served: its input has a kind, a unit works, and so does an excitation pair for a kind that needs one (R334, R338). -/
def Dev.adcServed (d : Dev) (q : AdcWord) : Prop :=
  d.get (F.ADC_IN_KIND q.input) ≠ 0 ∧ (d.adcUp 0 = true ∨ d.adcUp 1 = true) ∧
  (needsExc (d.get (F.ADC_IN_KIND q.input)) = true → d.pairUp 0 = true ∨ d.pairUp 1 = true)

/-- The conversion request `q` of owner code `who` joined the queue as it was asked for, with the unit that serves it; a block of the requester's is
the ADC's (R277, R278, R338). -/
def Dev.joinedAdc (d t : Dev) (who : Nat) (q : AdcWord) : Prop :=
  (∃ r, t.adc.queue = d.adc.queue ++ [r] ∧ r.block = q.block ∧ r.input = q.input ∧ r.n = q.n ∧ r.who = who ∧
    r.unit = (if d.adcUp (d.adcWant q) then d.adcWant q else 1 - d.adcWant q) ∧ r.orphan = decide (d.owner q.block ≠ who) ∧ r.convs = []) ∧
  (d.owner q.block = who → t.owner q.block = Own.adc)

/-! ## Register writes and the log -/

/-- A write of register `a` by `m` goes through as it stands: the master can make it, no master has ordered anything in this cycle, the
register's block is not held, and none of its bits is pending (R8, R29, R90, R285, R525). -/
def Dev.admits (d : Dev) (m : Master) (a : Nat) : Prop :=
  d.masterUp m = true ∧ d.orders = [] ∧ d.heldMask a = 0 ∧ d.pend a = ⟨0, 0⟩

/-- The fields that the register map lists at `a`. -/
def fieldsAt (a : Nat) : List FieldDef :=
  match rowAt a with
  | some r => r.fields
  | none => []

/-- Registers whose writes only store: all their fields are RW or RO, take effect at once, and no other rule speaks of the write. -/
def plainRegs : List Nat :=
  [F.SYS_PADCFG, F.PWR_NEED, F.CLK_SLACK, F.TMR_ACT 2, F.TMR_ACT 9, F.TMR_CAPSEL 0, F.TMR_CAPSEL 15, F.TDC_BINSEL 0, F.TDC_BINSEL 1, F.USF_AGC 0,
   F.USF_AGC 3, F.LOOP_PV, F.LOOP_PFSEL, F.HOST_IRQEN, F.HOST_CFG, F.MAC_DRIFT, F.MAC_LINKSEL, F.WUR_GRP, F.BIST_ITEMSEL, F.DBG_WSEL,
   F.DBG_TRCFG]

/-- Registers whose writes wait for the cycle boundary (R8, R345, R379). -/
def waitingRegs : List Nat := [F.ADC_CFG, F.ADC_IN 0, F.ADC_IN 15, F.LOOP_MAP, F.LOOP_LRV, F.LOOP_URV, F.LOOP_OUT]

/-- Event registers: every field is W1C, and clearing one does nothing else (R8). -/
def eventRegs : List Nat := [F.SYS_RGNSTAT, F.PWR_EVT, F.CLK_EVT, F.MAC_EVT, F.BIST_EVT]

/-- Between `d` and `t` a record of type `ty` was written, with the time of `d`, and `n` records in all, its continuations among them
(R259, R261). -/
def Dev.recorded (d t : Dev) (ty n : Nat) : Prop :=
  bitsOf (t.load (logAddr d.logNext)) 71 64 = ty ∧ bitsOf (t.load (logAddr d.logNext)) 47 0 = d.logNext ∧
  t.load (logAddr d.logNext + 1) = d.reg F.TIDE_SEC ∧ t.logNext = (d.logNext + n) % 2 ^ 48

/-! ## Partners -/

/-- The loop link takes the frame `f` with command `cmd`: it is addressed to the device by its own address, not too long, and its check is
right (R391, R393, R394). -/
def Dev.hears (d : Dev) (cmd : Nat) (f : LoopFrame) : Prop :=
  d.loopOpen = true ∧ f.addr = d.get F.LOOP_CFG_ADDR ∧ f.len = f.data.length ∧ f.len ≤ 240 ∧
  f.check = crc16 (natBytes 2 f.addr ++ [cmd, f.len] ++ f.data)

/-- Between `d` and `t` one reply of the loop link was queued: its command, code and data (R392, R395). -/
def Dev.replied (d t : Dev) (cmd code : Nat) (data : List Nat) : Prop := t.loop.queue = d.loop.queue ++ [⟨cmd, code, data, false, 0, none⟩]

/-- The radio accepts the data frame `f` from its parent: it is in the network and listens, and every check of R442 passes (R422, R442, R446,
R464). -/
def Dev.accepts (d : Dev) (f : RxFrame) : Prop :=
  d.radioUp = true ∧ d.inNet = true ∧ d.listening = true ∧ f.bcast = false ∧ f.src = d.get F.MAC_ADDR_PARENT ∧ f.fcs = true ∧ 5 ≤ f.level ∧ f.level ≤ 7 ∧
  d.get F.MAC_CFG_SECLVL ≤ f.level ∧ d.keyKnown false f.key = true ∧ d.micOk false f = true ∧
  (d.senderEui false f).all (fun e => match d.floorOf f.key e with
    | some c => decide (c < f.counter)
    | none => decide ((d.radio.floors.filter (fun x => x.1.1 == f.key)).length < 16)) = true

/-- The frame counter that an acknowledgement of the data frame `f` would take is not near its end (R440, R445). -/
def Dev.counterLeft (d : Dev) (f : RxFrame) : Prop := f.ackReq = true → d.fcOf (d.keyHandle false f.key) < 0xFFFFFF00

/-- Beside the sender's floor and what the receiver shows of the frame, the registers of `p`, and the high-water mark that the counter of an
acknowledgement commits (R443), nothing of registers, memory, engines and keys differs between `d` and `t`; without an acknowledgement memory is
as it was. -/
def Dev.heard (d t : Dev) (f : RxFrame) (p : Nat → Prop) : Prop :=
  (∀ a, ¬ (workHwm 4 ≤ a ∧ a < workHwm 7) → t.load a = d.load a ∧ t.eccMark a = d.eccMark a) ∧
  (f.ackReq = false → t.mem = d.mem ∧ t.ecc = d.ecc) ∧ t.pocket = d.pocket ∧ (∀ y, t.eng y = d.eng y) ∧
  ∀ a, a ∉ settledAddrs → ¬ (p a ∨ a = F.RADIO_CNT) → t.reg a = d.reg a

end Sys2Proof.Machine
end

