-- ==== Sys2Proof/Laws/Settle.lean ====
section
/-!
SUPPORT. What a command's end does: nothing follows in a calm device; settling changes the registers of `settledAddrs`, the loop's current
and announced alarm, and the pins' slew, and nothing else.
-/
namespace Sys2Proof.Machine

variable (d : Dev)

/-- The device without what settling changes. -/
def Dev.core : Dev := { d with regs := [], raised := [], loop := { d.loop with y := (0, 1), shown := false }, pads := { d.pads with lbSlew := 0, ddSlew := 0 } }

theorem Dev.core_of_bare {d e : Dev} (h : d.bare = e.bare) : d.core = e.core := by
  have : ∀ x : Dev, x.core = x.bare.core := fun _ => rfl
  rw [this d, this e, h]

theorem Dev.settleSrc_core : d.settleSrc.core = d.core := by
  unfold Dev.settleSrc
  split <;> rfl
theorem Dev.settlePower_core : d.settlePower.core = d.core := d.settleSrc_core
theorem Dev.settleSeam_core : d.settleSeam.core = d.core := rfl
theorem Dev.settlePaired_core : d.settlePaired.core = d.core := rfl
theorem Dev.settleTdc_core (u : Nat) : (d.settleTdc u).core = d.core := rfl
theorem Dev.settleUsf_core : d.settleUsf.core = d.core := rfl
theorem Dev.settleAdc_core : d.settleAdc.core = d.core := rfl
theorem Dev.settleLogcap_core : d.settleLogcap.core = d.core := rfl
theorem Dev.settleRadio_core : d.settleRadio.core = d.core := rfl
theorem Dev.settleWur_core : d.settleWur.core = d.core := rfl
theorem Dev.settleBist_core : d.settleBist.core = d.core := rfl
theorem Dev.settleLabel_core : d.settleLabel.core = d.core := rfl
theorem Dev.settlePads_core : d.settlePads.core = d.core := rfl
theorem Dev.tellAlarm_core (b : Bool) : (d.tellAlarm b).core = d.core := by
  unfold Dev.tellAlarm
  split
  · rfl
  · rw [Dev.core_of_bare (Dev.irq_bare _ _), Dev.core_of_bare (Dev.event_bare _ _ _)]; rfl
theorem Dev.settleLoop_core : d.settleLoop.core = d.core := by
  unfold Dev.settleLoop
  rw [Dev.tellAlarm_core]; rfl

theorem Dev.settle_core : d.settle.core = d.core := by
  simp only [Dev.settle, Dev.settlePads_core, Dev.settleLabel_core, Dev.settleBist_core, Dev.settleWur_core, Dev.settleRadio_core,
    Dev.settleLoop_core, Dev.settleLogcap_core, Dev.settleAdc_core, Dev.settleUsf_core, Dev.settleTdc_core, Dev.settlePaired_core,
    Dev.settleSeam_core, Dev.settlePower_core]

theorem Dev.of_core {d e : Dev} {α : Type} (p : Dev → α) (hp : ∀ x : Dev, p x = p x.core) (h : d.core = e.core) : p d = p e := by
  rw [hp d, hp e, h]

@[simp] theorem Dev.settle_shadow : d.settle.shadow = d.shadow := Dev.of_core Dev.shadow (fun _ => rfl) d.settle_core
@[simp] theorem Dev.settle_mem : d.settle.mem = d.mem := Dev.of_core Dev.mem (fun _ => rfl) d.settle_core
@[simp] theorem Dev.settle_ecc : d.settle.ecc = d.ecc := Dev.of_core Dev.ecc (fun _ => rfl) d.settle_core
@[simp] theorem Dev.settle_orders : d.settle.orders = d.orders := Dev.of_core Dev.orders (fun _ => rfl) d.settle_core
@[simp] theorem Dev.settle_sup : d.settle.sup = d.sup := Dev.of_core Dev.sup (fun _ => rfl) d.settle_core
@[simp] theorem Dev.settle_slack : d.settle.slack = d.slack := Dev.of_core Dev.slack (fun _ => rfl) d.settle_core
@[simp] theorem Dev.settle_clk : d.settle.clk = d.clk := Dev.of_core Dev.clk (fun _ => rfl) d.settle_core
@[simp] theorem Dev.settle_tide : d.settle.tide = d.tide := Dev.of_core Dev.tide (fun _ => rfl) d.settle_core
@[simp] theorem Dev.settle_tmr : d.settle.tmr = d.tmr := Dev.of_core Dev.tmr (fun _ => rfl) d.settle_core
@[simp] theorem Dev.settle_links : d.settle.links = d.links := Dev.of_core Dev.links (fun _ => rfl) d.settle_core
@[simp] theorem Dev.settle_seqPrev : d.settle.seqPrev = d.seqPrev := Dev.of_core Dev.seqPrev (fun _ => rfl) d.settle_core
@[simp] theorem Dev.settle_asleep : d.settle.asleep = d.asleep := Dev.of_core Dev.asleep (fun _ => rfl) d.settle_core
@[simp] theorem Dev.settle_revertDue : d.settle.revertDue = d.revertDue := Dev.of_core Dev.revertDue (fun _ => rfl) d.settle_core
@[simp] theorem Dev.settle_held : d.settle.held = d.held := Dev.of_core Dev.held (fun _ => rfl) d.settle_core
@[simp] theorem Dev.settle_engC : d.settle.engC = d.engC := Dev.of_core Dev.engC (fun _ => rfl) d.settle_core
@[simp] theorem Dev.settle_engL : d.settle.engL = d.engL := Dev.of_core Dev.engL (fun _ => rfl) d.settle_core
@[simp] theorem Dev.settle_engR : d.settle.engR = d.engR := Dev.of_core Dev.engR (fun _ => rfl) d.settle_core
@[simp] theorem Dev.settle_collarRun : d.settle.collarRun = d.collarRun := Dev.of_core Dev.collarRun (fun _ => rfl) d.settle_core
@[simp] theorem Dev.settle_traceHeld : d.settle.traceHeld = d.traceHeld := Dev.of_core Dev.traceHeld (fun _ => rfl) d.settle_core
@[simp] theorem Dev.settle_traceN : d.settle.traceN = d.traceN := Dev.of_core Dev.traceN (fun _ => rfl) d.settle_core
@[simp] theorem Dev.settle_sleepTick : d.settle.sleepTick = d.sleepTick := Dev.of_core Dev.sleepTick (fun _ => rfl) d.settle_core
@[simp] theorem Dev.settle_tdcA : d.settle.tdcA = d.tdcA := Dev.of_core Dev.tdcA (fun _ => rfl) d.settle_core
@[simp] theorem Dev.settle_tdcB : d.settle.tdcB = d.tdcB := Dev.of_core Dev.tdcB (fun _ => rfl) d.settle_core
@[simp] theorem Dev.settle_usf : d.settle.usf = d.usf := Dev.of_core Dev.usf (fun _ => rfl) d.settle_core
@[simp] theorem Dev.settle_adc : d.settle.adc = d.adc := Dev.of_core Dev.adc (fun _ => rfl) d.settle_core
@[simp] theorem Dev.settle_nextId : d.settle.nextId = d.nextId := Dev.of_core Dev.nextId (fun _ => rfl) d.settle_core
@[simp] theorem Dev.settle_detect : d.settle.detect = d.detect := Dev.of_core Dev.detect (fun _ => rfl) d.settle_core
@[simp] theorem Dev.settle_swapAcc : d.settle.swapAcc = d.swapAcc := Dev.of_core Dev.swapAcc (fun _ => rfl) d.settle_core
@[simp] theorem Dev.settle_met : d.settle.met = d.met := Dev.of_core Dev.met (fun _ => rfl) d.settle_core
@[simp] theorem Dev.settle_heldOrders : d.settle.heldOrders = d.heldOrders := Dev.of_core Dev.heldOrders (fun _ => rfl) d.settle_core
@[simp] theorem Dev.settle_pocket : d.settle.pocket = d.pocket := Dev.of_core Dev.pocket (fun _ => rfl) d.settle_core
@[simp] theorem Dev.settle_radio : d.settle.radio = d.radio := Dev.of_core Dev.radio (fun _ => rfl) d.settle_core
@[simp] theorem Dev.settle_freeN : d.settle.freeN = d.freeN := Dev.of_core Dev.freeN (fun _ => rfl) d.settle_core
@[simp] theorem Dev.settle_col : d.settle.col = d.col := Dev.of_core Dev.col (fun _ => rfl) d.settle_core
@[simp] theorem Dev.settle_label : d.settle.label = d.label := Dev.of_core Dev.label (fun _ => rfl) d.settle_core
@[simp] theorem Dev.settle_bist : d.settle.bist = d.bist := Dev.of_core Dev.bist (fun _ => rfl) d.settle_core
@[simp] theorem Dev.settle_port : d.settle.port = d.port := Dev.of_core Dev.port (fun _ => rfl) d.settle_core
@[simp] theorem Dev.settle_dport : d.settle.dport = d.dport := Dev.of_core Dev.dport (fun _ => rfl) d.settle_core
@[simp] theorem Dev.settle_quiesce : d.settle.quiesce = d.quiesce := Dev.of_core Dev.quiesce (fun _ => rfl) d.settle_core
@[simp] theorem Dev.settle_stepDue : d.settle.stepDue = d.stepDue := Dev.of_core Dev.stepDue (fun _ => rfl) d.settle_core
@[simp] theorem Dev.settle_busHeld : d.settle.busHeld = d.busHeld := Dev.of_core Dev.busHeld (fun _ => rfl) d.settle_core
@[simp] theorem Dev.settle_loop_x : d.settle.loop.x = d.loop.x := Dev.of_core (fun d => d.loop.x) (fun _ => rfl) d.settle_core
@[simp] theorem Dev.settle_loop_cFlow : d.settle.loop.cFlow = d.loop.cFlow := Dev.of_core (fun d => d.loop.cFlow) (fun _ => rfl) d.settle_core
@[simp] theorem Dev.settle_loop_cTemp : d.settle.loop.cTemp = d.loop.cTemp := Dev.of_core (fun d => d.loop.cTemp) (fun _ => rfl) d.settle_core
@[simp] theorem Dev.settle_loop_cFault : d.settle.loop.cFault = d.loop.cFault := Dev.of_core (fun d => d.loop.cFault) (fun _ => rfl) d.settle_core
@[simp] theorem Dev.settle_loop_alarm : d.settle.loop.alarm = d.loop.alarm := Dev.of_core (fun d => d.loop.alarm) (fun _ => rfl) d.settle_core
@[simp] theorem Dev.settle_loop_fixFrom : d.settle.loop.fixFrom = d.loop.fixFrom := Dev.of_core (fun d => d.loop.fixFrom) (fun _ => rfl) d.settle_core
@[simp] theorem Dev.settle_loop_firstFb : d.settle.loop.firstFb = d.loop.firstFb := Dev.of_core (fun d => d.loop.firstFb) (fun _ => rfl) d.settle_core
@[simp] theorem Dev.settle_loop_pfl : d.settle.loop.pfl = d.loop.pfl := Dev.of_core (fun d => d.loop.pfl) (fun _ => rfl) d.settle_core
@[simp] theorem Dev.settle_loop_pfsum : d.settle.loop.pfsum = d.loop.pfsum := Dev.of_core (fun d => d.loop.pfsum) (fun _ => rfl) d.settle_core
@[simp] theorem Dev.settle_loop_pfsumNv : d.settle.loop.pfsumNv = d.loop.pfsumNv := Dev.of_core (fun d => d.loop.pfsumNv) (fun _ => rfl) d.settle_core
@[simp] theorem Dev.settle_loop_queue : d.settle.loop.queue = d.loop.queue := Dev.of_core (fun d => d.loop.queue) (fun _ => rfl) d.settle_core
@[simp] theorem Dev.settle_loop_sending : d.settle.loop.sending = d.loop.sending := Dev.of_core (fun d => d.loop.sending) (fun _ => rfl) d.settle_core
@[simp] theorem Dev.settle_loop_txEnd : d.settle.loop.txEnd = d.loop.txEnd := Dev.of_core (fun d => d.loop.txEnd) (fun _ => rfl) d.settle_core
@[simp] theorem Dev.settle_loop_frame : d.settle.loop.frame = d.loop.frame := Dev.of_core (fun d => d.loop.frame) (fun _ => rfl) d.settle_core
@[simp] theorem Dev.settle_loop_resend : d.settle.loop.resend = d.loop.resend := Dev.of_core (fun d => d.loop.resend) (fun _ => rfl) d.settle_core
@[simp] theorem Dev.settle_loop_app : d.settle.loop.app = d.loop.app := Dev.of_core (fun d => d.loop.app) (fun _ => rfl) d.settle_core
@[simp] theorem Dev.settle_loop_rxtag : d.settle.loop.rxtag = d.loop.rxtag := Dev.of_core (fun d => d.loop.rxtag) (fun _ => rfl) d.settle_core
@[simp] theorem Dev.settle_loop_pool : d.settle.loop.pool = d.loop.pool := Dev.of_core (fun d => d.loop.pool) (fun _ => rfl) d.settle_core
@[simp] theorem Dev.settle_loop_discards : d.settle.loop.discards = d.loop.discards := Dev.of_core (fun d => d.loop.discards) (fun _ => rfl) d.settle_core
@[simp] theorem Dev.settle_pads_lost : d.settle.pads.lost = d.pads.lost := Dev.of_core (fun d => d.pads.lost) (fun _ => rfl) d.settle_core
@[simp] theorem Dev.settle_pads_hotLogged : d.settle.pads.hotLogged = d.pads.hotLogged := Dev.of_core (fun d => d.pads.hotLogged) (fun _ => rfl) d.settle_core

/-! ## Nothing follows in a calm device -/

theorem Dev.follow_of_calm (h : d.calm = true) : d.follow = d := by
  simp only [Dev.calm, Dev.noWork, Bool.and_eq_true, Bool.not_eq_true', List.isEmpty_iff, Option.isNone_iff_eq_none] at h
  obtain ⟨h3, ⟨⟨⟨⟨⟨⟨⟨⟨h1, h2⟩, h4⟩, h5⟩, h6⟩, h7⟩, h8⟩, h9⟩, h10⟩⟩ := h
  have e1 : d.stepAll = d := by
    unfold Dev.stepAll Dev.onStepDue
    rw [h1]
    show { d with stepDue := [] } = d
    rw [← h1]
  have e2 : d.forcedBoundary = d := by simp [Dev.forcedBoundary, h2]
  have e3 : d.busResume = d := by simp [Dev.busResume, h3]
  have e4 : d.serveWaiting = d := by simp [Dev.serveWaiting, h4]
  have e5 : d.loopSent = d := by simp [Dev.loopSent, h5]
  have e6 (u : Nat) (hu : d.tdcNoted u = true) : d.tdcNote u = d := by
    simp only [Dev.tdcNoted, Bool.or_eq_true, beq_iff_eq] at hu
    unfold Dev.tdcNote
    rw [if_pos (by simpa using hu)]
  have e7 : d.labelBlocksBack = d := by
    unfold Dev.labelBlocksBack
    rw [h8]
    show { d with label := { d.label with blocks := [] } } = d
    rw [← h8]
  have e8 : d.capturesDue = d := by
    unfold Dev.capturesDue
    rw [h9]
    show { d with raised := [] } = d
    rw [← h9]
  have e9 : d.stream = d := by
    unfold Dev.stream
    rw [if_neg]
    simpa [Dev.streamDue] using h10
  simp only [Dev.follow, e1, e2, e3, e4, e5, e6 0 h6, e6 1 h7, e7, e8, e9, h4, List.any_nil, Bool.and_false, Bool.false_eq_true, if_false]

theorem Dev.finish_of_calm (h : d.calm = true) : d.finish = d.settle := by rw [Dev.finish, d.follow_of_calm h]

theorem act_of_calm {s : State} {f : Dev → Dev} (h : (f s.dev).calm = true) : act s f = .next ⟨s.pending, (f s.dev).settle⟩ := by
  rw [act, Dev.finish_of_calm _ h]

/-! ## The registers that settling leaves -/


theorem evtAddrs_settled : ∀ x ∈ evtAddrs, x ∈ settledAddrs := by decide

theorem Dev.reg_put_out {a : Nat} (h : a ∉ settledAddrs) (f : Fld) (v : Nat) (hf : f.addr ∈ settledAddrs) : (d.put f v).reg a = d.reg a :=
  d.reg_put_ne v (fun e => h (e ▸ hf))

theorem Dev.reg_putB_out {a : Nat} (h : a ∉ settledAddrs) (f : Fld) (v : Bool) (hf : f.addr ∈ settledAddrs) :
    (d.putB f v).reg a = d.reg a := d.reg_put_out h f _ hf

theorem Dev.reg_tellAlarm {a : Nat} (b : Bool) (h : a ∉ settledAddrs) : (d.tellAlarm b).reg a = d.reg a := by
  have h1 : a ∉ evtAddrs := fun hm => h (evtAddrs_settled a hm)
  have h2 : a ≠ F.HOST_IRQ := fun e => h (by subst e; decide)
  have h3 : a ≠ F.LOOP_EVT := fun e => h (by subst e; decide)
  unfold Dev.tellAlarm
  split
  · rfl
  · rw [Dev.irq, Dev.reg_event _ _ _ h1 h2, Dev.reg_event _ _ _ h1 (by split <;> exact h3)]; rfl

/-- Settling leaves every other register as it is. -/
theorem Dev.reg_settle {a : Nat} (h : a ∉ settledAddrs) : d.settle.reg a = d.reg a := by
  have p := fun e : Dev => e.reg_put_out h
  have q := fun e : Dev => e.reg_putB_out h
  have l0 (e : Dev) : (e.settleSrc).reg a = e.reg a := by unfold Dev.settleSrc; split <;> simp (disch := decide) only [p]
  have l1 (e : Dev) : (e.settlePower).reg a = e.reg a := by unfold Dev.settlePower; simp (disch := decide) only [q, l0]
  have l2 (e : Dev) : (e.settleSeam).reg a = e.reg a := by unfold Dev.settleSeam; simp (disch := decide) only [q]
  have l3 (e : Dev) : (e.settlePaired).reg a = e.reg a := by unfold Dev.settlePaired; simp (disch := decide) only [q]
  have l4 (e : Dev) : (e.settleTdc 0).reg a = e.reg a := by unfold Dev.settleTdc; simp (disch := decide) only [p, q]
  have l5 (e : Dev) : (e.settleTdc 1).reg a = e.reg a := by unfold Dev.settleTdc; simp (disch := decide) only [p, q]
  have l6 (e : Dev) : (e.settleUsf).reg a = e.reg a := by unfold Dev.settleUsf; simp (disch := decide) only [p, q]
  have l7 (e : Dev) : (e.settleAdc).reg a = e.reg a := by unfold Dev.settleAdc; simp (disch := decide) only [p]
  have l8 (e : Dev) : (e.settleLogcap).reg a = e.reg a := by unfold Dev.settleLogcap; simp (disch := decide) only [p]
  have l9 (e : Dev) : (e.settleLoop).reg a = e.reg a := by
    unfold Dev.settleLoop
    rw [Dev.reg_tellAlarm _ _ h]
    unfold Dev.showLoop
    simp (disch := decide) only [p]
    rfl
  have l10 (e : Dev) : (e.settleRadio).reg a = e.reg a := by unfold Dev.settleRadio; simp (disch := decide) only [p]
  have l11 (e : Dev) : (e.settleWur).reg a = e.reg a := by unfold Dev.settleWur; simp (disch := decide) only [q]
  have l12 (e : Dev) : (e.settleBist).reg a = e.reg a := by
    unfold Dev.settleBist Dev.putBit; simp (disch := decide) only [p, q]
  have l13 (e : Dev) : (e.settleLabel).reg a = e.reg a := by unfold Dev.settleLabel; simp (disch := decide) only [q]
  have l14 (e : Dev) : (e.settlePads).reg a = e.reg a := by
    unfold Dev.settlePads
    show (e.putB F.SYS_PADSTAT_VDDIO_OK _).reg a = _
    simp (disch := decide) only [q]
  simp only [Dev.settle, l14, l13, l12, l11, l10, l9, l8, l7, l6, l5, l4, l3, l2, l1]

theorem Dev.get_settle (f : Fld) (h : f.addr ∉ settledAddrs) : d.settle.get f = d.get f := Dev.get_of_reg (d.reg_settle h)
theorem Dev.flag_settle (f : Fld) (h : f.addr ∉ settledAddrs) : d.settle.flag f = d.flag f := by simp only [Dev.flag, d.get_settle f h]

end Sys2Proof.Machine
end

