-- ==== Sys2Proof/Laws/Engine.lean ====
section
/-!
SUPPORT. What an instruction of an engine does, said once: an instruction that acts on its engine alone changes that engine's state and
nothing else.
-/
namespace Sys2Proof.Machine

/-! ## An engine's state and the rest of the device do not touch -/

section
variable (d : Dev) (e : Eng) (g : EngState → EngState)

theorem Dev.onEng_put (f : Fld) (v : Nat) : (d.onEng e g).put f v = (d.put f v).onEng e g := by cases e <;> rfl
theorem Dev.onEng_setReg (a : Nat) (w : Word) : (d.onEng e g).setReg a w = (d.setReg a w).onEng e g := by cases e <;> rfl
@[simp] theorem Dev.onEng_reg (a : Nat) : (d.onEng e g).reg a = d.reg a := by cases e <;> rfl
@[simp] theorem Dev.onEng_get (f : Fld) : (d.onEng e g).get f = d.get f := by cases e <;> rfl
@[simp] theorem Dev.onEng_flag (f : Fld) : (d.onEng e g).flag f = d.flag f := by cases e <;> rfl
@[simp] theorem Dev.onEng_load (a : Nat) : (d.onEng e g).load a = d.load a := by cases e <;> rfl
@[simp] theorem Dev.onEng_haltBit (x : Eng) : (d.onEng e g).haltBit x = d.haltBit x := by cases e <;> cases x <;> rfl
@[simp] theorem Dev.onEng_runOf (x : Eng) : (d.onEng e g).runOf x = d.runOf x := by cases e <;> cases x <;> rfl
@[simp] theorem Dev.onEng_calm : (d.onEng e g).calm = d.calm := by cases e <;> rfl
theorem Dev.onEng_eng : (d.onEng e g).eng e = g (d.eng e) := by cases e <;> rfl
theorem Dev.onEng_eng_ne {x : Eng} (h : x ≠ e) : (d.onEng e g).eng x = d.eng x := by cases e <;> cases x <;> first | rfl | exact absurd rfl h
theorem Dev.onEng_const : d.onEng e g = d.onEng e (fun _ => g (d.eng e)) := by cases e <;> rfl

theorem Dev.onEng_raise (s : Nat) : (d.onEng e g).raise s = (d.raise s).onEng e g := by
  unfold Dev.raise Dev.raiseN
  rw [show (d.onEng e g).silent s = d.silent s by cases e <;> rfl]
  split
  · have h : (d.onEng e g).tap s = (d.tap s).onEng e g := by
      unfold Dev.tap
      rw [show (d.onEng e g).tapped s = d.tapped s by cases e <;> rfl]
      split
      · cases e <;> rfl
      · rfl
    simp only [h, Dev.onEng_reg, Dev.onEng_flag, Dev.onEng_setReg]
  · rfl
theorem Dev.onEng_event (f : Fld) (s : Nat) : (d.onEng e g).event f s = (d.event f s).onEng e g := by
  unfold Dev.event
  rw [Dev.onEng_flag]
  split
  · rfl
  · rw [Dev.onEng_put, Dev.onEng_raise]

@[simp] theorem Dev.onEng_shadow : (d.onEng e g).shadow = d.shadow := by cases e <;> rfl
@[simp] theorem Dev.onEng_mem : (d.onEng e g).mem = d.mem := by cases e <;> rfl
@[simp] theorem Dev.onEng_ecc : (d.onEng e g).ecc = d.ecc := by cases e <;> rfl
@[simp] theorem Dev.onEng_orders : (d.onEng e g).orders = d.orders := by cases e <;> rfl
@[simp] theorem Dev.onEng_sup : (d.onEng e g).sup = d.sup := by cases e <;> rfl
@[simp] theorem Dev.onEng_slack : (d.onEng e g).slack = d.slack := by cases e <;> rfl
@[simp] theorem Dev.onEng_clk : (d.onEng e g).clk = d.clk := by cases e <;> rfl
@[simp] theorem Dev.onEng_tide : (d.onEng e g).tide = d.tide := by cases e <;> rfl
@[simp] theorem Dev.onEng_tmr : (d.onEng e g).tmr = d.tmr := by cases e <;> rfl
@[simp] theorem Dev.onEng_links : (d.onEng e g).links = d.links := by cases e <;> rfl
@[simp] theorem Dev.onEng_seqPrev : (d.onEng e g).seqPrev = d.seqPrev := by cases e <;> rfl
@[simp] theorem Dev.onEng_asleep : (d.onEng e g).asleep = d.asleep := by cases e <;> rfl
@[simp] theorem Dev.onEng_revertDue : (d.onEng e g).revertDue = d.revertDue := by cases e <;> rfl
@[simp] theorem Dev.onEng_held : (d.onEng e g).held = d.held := by cases e <;> rfl
@[simp] theorem Dev.onEng_traceHeld : (d.onEng e g).traceHeld = d.traceHeld := by cases e <;> rfl
@[simp] theorem Dev.onEng_traceN : (d.onEng e g).traceN = d.traceN := by cases e <;> rfl
@[simp] theorem Dev.onEng_sleepTick : (d.onEng e g).sleepTick = d.sleepTick := by cases e <;> rfl
@[simp] theorem Dev.onEng_tdcA : (d.onEng e g).tdcA = d.tdcA := by cases e <;> rfl
@[simp] theorem Dev.onEng_tdcB : (d.onEng e g).tdcB = d.tdcB := by cases e <;> rfl
@[simp] theorem Dev.onEng_usf : (d.onEng e g).usf = d.usf := by cases e <;> rfl
@[simp] theorem Dev.onEng_adc : (d.onEng e g).adc = d.adc := by cases e <;> rfl
@[simp] theorem Dev.onEng_nextId : (d.onEng e g).nextId = d.nextId := by cases e <;> rfl
@[simp] theorem Dev.onEng_detect : (d.onEng e g).detect = d.detect := by cases e <;> rfl
@[simp] theorem Dev.onEng_swapAcc : (d.onEng e g).swapAcc = d.swapAcc := by cases e <;> rfl
@[simp] theorem Dev.onEng_met : (d.onEng e g).met = d.met := by cases e <;> rfl
@[simp] theorem Dev.onEng_loop : (d.onEng e g).loop = d.loop := by cases e <;> rfl
@[simp] theorem Dev.onEng_heldOrders : (d.onEng e g).heldOrders = d.heldOrders := by cases e <;> rfl
@[simp] theorem Dev.onEng_pocket : (d.onEng e g).pocket = d.pocket := by cases e <;> rfl
@[simp] theorem Dev.onEng_radio : (d.onEng e g).radio = d.radio := by cases e <;> rfl
@[simp] theorem Dev.onEng_freeN : (d.onEng e g).freeN = d.freeN := by cases e <;> rfl
@[simp] theorem Dev.onEng_col : (d.onEng e g).col = d.col := by cases e <;> rfl
@[simp] theorem Dev.onEng_label : (d.onEng e g).label = d.label := by cases e <;> rfl
@[simp] theorem Dev.onEng_bist : (d.onEng e g).bist = d.bist := by cases e <;> rfl
@[simp] theorem Dev.onEng_pads : (d.onEng e g).pads = d.pads := by cases e <;> rfl
@[simp] theorem Dev.onEng_port : (d.onEng e g).port = d.port := by cases e <;> rfl
@[simp] theorem Dev.onEng_dport : (d.onEng e g).dport = d.dport := by cases e <;> rfl
@[simp] theorem Dev.onEng_quiesce : (d.onEng e g).quiesce = d.quiesce := by cases e <;> rfl
@[simp] theorem Dev.onEng_stepDue : (d.onEng e g).stepDue = d.stepDue := by cases e <;> rfl
@[simp] theorem Dev.onEng_busHeld : (d.onEng e g).busHeld = d.busHeld := by cases e <;> rfl
@[simp] theorem Dev.onEng_collarRun : (d.onEng e g).collarRun = d.collarRun := by cases e <;> rfl
theorem Dev.onEng_putB (f : Fld) (b : Bool) : (d.onEng e g).putB f b = (d.putB f b).onEng e g := d.onEng_put e g f _

@[simp] theorem Dev.onEng_regs : (d.onEng e g).regs = d.regs := by cases e <;> rfl

theorem Dev.onEng_settleSrc : (d.onEng e g).settleSrc = d.settleSrc.onEng e g := by
  unfold Dev.settleSrc Dev.standbySrc Dev.cellFitted Dev.battery
  simp only [Dev.onEng_get, Dev.onEng_flag, Dev.onEng_sup, Dev.onEng_put]
  split <;> rfl
theorem Dev.onEng_settlePower : (d.onEng e g).settlePower = d.settlePower.onEng e g := by
  have h (x : Dev) : (x.onEng e g).charging = x.charging := by
    unfold Dev.charging Dev.vend
    simp only [Dev.onEng_get, Dev.onEng_flag, Dev.onEng_sup]
  simp only [Dev.settlePower, Dev.onEng_settleSrc, h, Dev.onEng_putB, Dev.onEng_get, Dev.onEng_flag, Dev.onEng_sup]
theorem Dev.onEng_settleSeam : (d.onEng e g).settleSeam = d.settleSeam.onEng e g := by
  simp only [Dev.settleSeam, Dev.onEng_putB, Dev.onEng_get]
theorem Dev.onEng_settlePaired : (d.onEng e g).settlePaired = d.settlePaired.onEng e g := by
  simp only [Dev.settlePaired, Dev.paired, Dev.onEng_putB, Dev.onEng_flag]
theorem Dev.onEng_settleTdc (u : Nat) : (d.onEng e g).settleTdc u = (d.settleTdc u).onEng e g := by
  have h : (d.onEng e g).tdc u = d.tdc u := by simp only [Dev.tdc, Dev.onEng_tdcA, Dev.onEng_tdcB]
  unfold Dev.settleTdc Dev.tdcUp
  simp only [h, Dev.onEng_putB, Dev.onEng_put, Dev.onEng_get, Dev.onEng_flag, Dev.onEng_held]
theorem Dev.onEng_settleUsf : (d.onEng e g).settleUsf = d.settleUsf.onEng e g := by
  simp only [Dev.settleUsf, Dev.onEng_putB, Dev.onEng_put, Dev.onEng_get, Dev.onEng_usf, Dev.onEng_held]
theorem Dev.onEng_settleAdc : (d.onEng e g).settleAdc = d.settleAdc.onEng e g := by
  have h (u : Nat) : (d.onEng e g).adcRun u = d.adcRun u := by simp only [Dev.adcRun, Dev.onEng_adc]
  have h' (u : Nat) : (d.onEng e g).adcHead u = d.adcHead u := by simp only [Dev.adcHead, Dev.onEng_adc]
  unfold Dev.settleAdc Dev.adcUp
  simp only [h, h', Dev.onEng_put, Dev.onEng_adc, Dev.onEng_held]
theorem Dev.onEng_settleLogcap : (d.onEng e g).settleLogcap = d.settleLogcap.onEng e g := by
  simp only [Dev.settleLogcap, Dev.items, Dev.onEng_put, Dev.onEng_reg]
theorem Dev.onEng_tellAlarm (b : Bool) : (d.onEng e g).tellAlarm b = (d.tellAlarm b).onEng e g := by
  unfold Dev.tellAlarm
  rw [Dev.onEng_loop]
  split
  · rfl
  · rw [show ∀ h, (d.onEng e g).onLoop h = (d.onLoop h).onEng e g by intro h; cases e <;> rfl, Dev.onEng_event, Dev.irq, Dev.onEng_event]
    rfl
theorem Dev.onEng_settleLoop : (d.onEng e g).settleLoop = d.settleLoop.onEng e g := by
  have h1 : (d.onEng e g).loopState = d.loopState := by
    unfold Dev.loopState Dev.frontOff Dev.battery Dev.alarmStands
    simp only [Dev.onEng_get, Dev.onEng_flag, Dev.onEng_col, Dev.onEng_sup, Dev.onEng_loop]
  have h2 : (d.onEng e g).alarmStands = d.alarmStands := by simp only [Dev.alarmStands, Dev.onEng_flag, Dev.onEng_loop]
  have h3 (st : Nat) : (d.onEng e g).loopTarget st = d.loopTarget st := by
    unfold Dev.loopTarget Dev.undamped Dev.fixedPoint Dev.safeCurrent
    simp only [Dev.onEng_get, Dev.onEng_flag, Dev.onEng_reg, Dev.onEng_loop]
  have h4 (a : Nat) (b : Int × Nat) : (d.onEng e g).showLoop a b = (d.showLoop a b).onEng e g := by cases e <;> rfl
  simp only [Dev.settleLoop, h1, h2, h3, h4, Dev.onEng_tellAlarm]
theorem Dev.onEng_settleRadio : (d.onEng e g).settleRadio = d.settleRadio.onEng e g := by
  unfold Dev.settleRadio Dev.inNet Dev.jstate Dev.guardNum Dev.sinceSync Dev.fcOf Dev.hwmOf Dev.seconds
  simp only [Dev.onEng_put, Dev.onEng_get, Dev.onEng_flag, Dev.onEng_radio]
theorem Dev.onEng_settleWur : (d.onEng e g).settleWur = d.settleWur.onEng e g := by
  simp only [Dev.settleWur, Dev.onEng_putB, Dev.onEng_get]
theorem Dev.onEng_settleBist : (d.onEng e g).settleBist = d.settleBist.onEng e g := by
  simp only [Dev.settleBist, Dev.putBit, Dev.onEng_putB, Dev.onEng_put, Dev.onEng_get, Dev.onEng_flag, Dev.onEng_reg]
theorem Dev.onEng_settleLabel : (d.onEng e g).settleLabel = d.settleLabel.onEng e g := by
  simp only [Dev.settleLabel, Dev.onEng_putB, Dev.onEng_label]
theorem Dev.onEng_settlePads : (d.onEng e g).settlePads = d.settlePads.onEng e g := by
  simp only [Dev.settlePads, Dev.onEng_putB, Dev.onEng_get, Dev.onEng_label, Dev.onEng_pads, Dev.onEng_dport]
  cases e <;> rfl

/-- Settling does not read the engines' programming state. -/
theorem Dev.onEng_settle : (d.onEng e g).settle = d.settle.onEng e g := by
  simp only [Dev.settle, Dev.onEng_settlePower, Dev.onEng_settleSeam, Dev.onEng_settlePaired, Dev.onEng_settleTdc,
    Dev.onEng_settleUsf, Dev.onEng_settleAdc, Dev.onEng_settleLogcap, Dev.onEng_settleLoop, Dev.onEng_settleRadio, Dev.onEng_settleWur,
    Dev.onEng_settleBist, Dev.onEng_settleLabel, Dev.onEng_settlePads]

end

/-! ## An instruction that acts on its engine alone -/

/-- It touches neither memory nor a register of the device, and waits for nothing. -/
def innerOp : YOp → Bool
  | .nop | .movfl _ | .movtfl _ | .lpop | .mov _ _ | .movi _ _ | .movl _ _ _ _ | .alu _ _ _ _ | .sel _ _ _ _ | .shift _ _ _ _
  | .immOp _ _ _ _ | .extr _ _ _ _ _ | .ins _ _ _ _ | .clracc _ | .movta _ _ _ | .movtas _ _ | .movfa _ _ _ | .ext _ _ _ _ _
  | .mul _ _ _ _ | .mac _ _ _ _ _ | .div _ _ _ _ _ _ | .recip _ _ _ | .poly _ _ _ _ | .loop _ _ | .loopi _ _ => true
  | _ => false

/-- The checks that an instruction without loads and stores can fail. -/
def Dev.passes (d : Dev) (f : Fetch) (op : YOp) : Prop :=
  illegalOn f.eng ((d.eng f.eng).ia.getLsbD 0) op = false ∧ ((d.eng f.eng).loopCount op = 0 ∨ (d.eng f.eng).loops.length < 4)

theorem Dev.setRun_running {d : Dev} {e : Eng} (hw : Store.wf resetWord d.regs = true) (h : d.runOf e = Run.running) :
    d.setRun e Run.running = d := by
  cases e with
  | collar =>
    show { d with collarRun := Run.running } = d
    rw [← show d.collarRun = Run.running from h]
  | left =>
    have e1 : d.haltMark .left Run.running = d := by simp [Dev.haltMark, h]
    exact (congrArg (fun x => x.put F.DBG_STAT_STATEL Run.running) e1).trans
      ((congrArg (d.put F.DBG_STAT_STATEL) h.symm).trans (d.put_get hw F.DBG_STAT_STATEL (by decide)))
  | right =>
    have e1 : d.haltMark .right Run.running = d := by simp [Dev.haltMark, h]
    exact (congrArg (fun x => x.put F.DBG_STAT_STATER Run.running) e1).trans
      ((congrArg (d.put F.DBG_STAT_STATER) h.symm).trans (d.put_get hw F.DBG_STAT_STATER (by decide)))

theorem Dev.trapCause_inner {d : Dev} {f : Fetch} {op : YOp} (hf : d.fetches f) (hi : innerOp op = true) (hp : d.passes f op) :
    d.trapCause f.eng (some op) = none := by
  obtain ⟨_, _, _, h4, h5, h6⟩ := hf
  obtain ⟨p1, p2⟩ := hp
  have e1 : ((d.eng f.eng).ia.getLsbD 0 && bitsOf (d.load (d.fetchWord f.eng)) 35 30 == 0x03) = false := by
    cases hb : (d.eng f.eng).ia.getLsbD 0
    · rfl
    · simpa using h6 hb
  have e2 : ((d.eng f.eng).loopCount op != 0 && decide (4 ≤ (d.eng f.eng).loops.length)) = false := by
    rcases p2 with p2 | p2
    · simp [p2]
    · have : ¬ 4 ≤ (d.eng f.eng).loops.length := by omega
      simp [this]
  have e3 : d.loadsFault f.eng op = none := by
    cases op <;> first | rfl | exact Bool.noConfusion hi
  have e4 : d.storeFault f.eng op = none := by
    cases op <;> first | rfl | exact Bool.noConfusion hi
  unfold Dev.trapCause
  simp only [h4, h5, e1, p1, e2, e3, e4]
  cases op <;> first | rfl | exact Bool.noConfusion hi

/-- An instruction that acts on its engine alone: nothing else changes. -/
theorem execOp_inner {d : Dev} {f : Fetch} {op : YOp} (hr : d.atRest) (hf : d.fetches f) (hi : innerOp op = true) (hp : d.passes f op) :
    d.execOp f op = d.onEng f.eng (fun _ => (d.eng f.eng).completeOp op .nothing) := by
  have ht := Dev.trapCause_inner hf hi hp
  obtain ⟨h1, h2, h3, h4, h5, h6⟩ := hf
  have hu : d.upset (d.fetchWord f.eng) f.check = d := by rw [h1]; rfl
  have hc : d.correct [d.fetchWord f.eng] = d := by simp [Dev.correct, h5]
  have hz : d.isRendezvous f.eng op = false := by
    cases op <;> first | (simp [Dev.isRendezvous]; done) | exact Bool.noConfusion hi
  have hg : d.perform f.eng op = (d, Got.nothing) := by
    cases op <;> first | (simp [Dev.perform, Dev.loadsOf, Dev.correct, EngState.storeOf]; done) | exact Bool.noConfusion hi
  have hx : ∀ d' : Dev, d'.eng f.eng = d.eng f.eng → True := fun _ _ => trivial
  unfold Dev.execOp
  rw [hu]
  unfold Dev.execBits
  rw [ht]
  simp only [h2, bne_self_eq_false, Bool.false_eq_true, if_false, hc]
  unfold Dev.run
  rw [hz]
  simp only [Bool.false_eq_true, if_false, hg, Dev.conclude]
  unfold Dev.goOn
  rw [Dev.onEng_haltBit, h3]
  simp only [Bool.false_eq_true, if_false]
  rw [Dev.setRun_running (by rw [Dev.onEng_regs]; exact hr.2.2.1) (by rw [Dev.onEng_runOf]; exact h2)]
  exact d.onEng_const f.eng _

/-- A command that leaves a resting device but for one engine's state. -/
theorem act_onEng {s : State} {e : Eng} {x : EngState} {f : Dev → Dev} (hr : s.dev.atRest) (h : f s.dev = s.dev.onEng e (fun _ => x)) :
    act s f = .next ⟨s.pending, s.dev.onEng e (fun _ => x)⟩ := by
  rw [act_of_calm (by rw [h, Dev.onEng_calm]; exact hr.1), h, Dev.onEng_settle, hr.2.1]

/-- The same for a command of an engine. -/
theorem act_inner {s : State} {f : Fetch} {op : YOp} (hr : s.dev.atRest) (hf : s.dev.fetches f) (hi : innerOp op = true)
    (hp : s.dev.passes f op) :
    act s (fun d => d.execOp f op) = .next ⟨s.pending, s.dev.onEng f.eng (fun _ => (s.dev.eng f.eng).completeOp op .nothing)⟩ :=
  act_onEng hr (execOp_inner hr hf hi hp)

end Sys2Proof.Machine
end

