-- ==== Sys2Proof/Certificates/Slice0/Obligations.lean ====
section
/-!
DEFINITION. The statements for the provers. Each docstring names the rules of spec/ that the statement formalises, and what in it is a
choice of the model.
-/
open Sys2Proof Sys2Proof.Machine

/-! ## The queue, reset and the words of the table -/

/-- A step takes the command at the front of the queue and is exactly that command's effect on the device with the queue's rest; on an empty queue the
device idles for one LF tick, or stands still without the always-on domain (the model's choice, log 3). -/
def Obligations.StepRunsTheFrontCommand : Prop :=
  (∀ (c : Instr) (rest : List Instr) (d : Dev), step ⟨c :: rest, d⟩ = exec c ⟨rest, d⟩) ∧
  (∀ d : Dev, step ⟨[], d⟩ = .next ⟨[], d.idle.finish⟩) ∧
  (∀ d : Dev, d.col.aonLost = true → d.idle = d)

/-- Every command, of every kind, answers a next state and leaves the queue to `step`: this block has no fault and refuses nothing (R13, R14, R27: an
error sets flags and the device goes on). -/
def Obligations.EveryCommandAnswersANextState : Prop :=
  ∀ (c : Instr) (s : State), ∃ d : Dev, exec c s = .next ⟨s.pending, d⟩

/-! ## The engines: instructions that act on their engine alone -/

/-- NOP, MOV, MOVI, MOVL, MOVFL, MOVTFL and LPOP: what they write, and that nothing else in the device changes (R202, R203; R166 for the instruction
address, through `EngState.complete`). MOVL stands in slot 0 and takes both slots. -/
def Obligations.MovesAndFlagMoves : Prop :=
  ∀ (s : State) (f : Fetch), s.dev.atRest → s.dev.fetches f →
    let e := s.dev.eng f.eng
    OnlyEngine (.nop f) s f.eng (e.complete 1) ∧
    (∀ rd ra, OnlyEngine (.mov f rd ra) s f.eng (e.done rd (e.reg ra) e.fl)) ∧
    (∀ rd imm, OnlyEngine (.movi f rd imm) s f.eng (e.done rd (BitVec.ofInt 72 imm.toInt) e.fl)) ∧
    (e.ia.getLsbD 0 = false → ∀ rd (lit : BitVec 36),
      OnlyEngine (.movl f rd false false lit) s f.eng ({ e with w := e.w.set rd (BitVec.ofInt 72 lit.toInt) }.complete 2) ∧
      OnlyEngine (.movl f rd false true lit) s f.eng ({ e with w := e.w.set rd (BitVec.ofNat 72 lit.toNat) }.complete 2) ∧
      ∀ zext, OnlyEngine (.movl f rd true zext lit) s f.eng
        ({ e with w := e.w.set rd (BitVec.ofNat 72 ((e.reg rd).toNat % 2 ^ 36 + lit.toNat * 2 ^ 36)) }.complete 2)) ∧
    (∀ rd, OnlyEngine (.movfl f rd) s f.eng
      (e.done rd (BitVec.ofNat 72 (e.fl.z.toNat + 2 * e.fl.n.toNat + 4 * e.fl.c.toNat + 8 * e.fl.v.toNat + 16 * e.fl.s.toNat)) e.fl)) ∧
    (∀ ra, let w := e.reg ra
      OnlyEngine (.movtfl f ra) s f.eng
        ({ e with fl := ⟨w.getLsbD 0, w.getLsbD 1, w.getLsbD 2, w.getLsbD 3, w.getLsbD 4⟩ }.complete 1)) ∧
    (OnlyEngine (.lpop f) s f.eng ({ e with loops := e.loops.drop 1 }.complete 1))

/-- ADD, ADC, SUB, SBC, NEG, ABS and CMP: result and flags, nothing else changes (R162, R204). C is the carry out of bit 71, or for a subtraction 1
while nothing is borrowed; V tells that the exact signed result is no 72-bit number. -/
def Obligations.ArithmeticResults : Prop :=
  ∀ (s : State) (f : Fetch) (rd ra rb : WReg), s.dev.atRest → s.dev.fetches f →
    let e := s.dev.eng f.eng
    let a := e.reg ra
    let b := e.reg rb
    let fl (r : Word) (c : Bool) (exact : Int) : Flags := ⟨decide (r = 0), r.msb, c, decide (exact < -2 ^ 71 ∨ 2 ^ 71 ≤ exact), e.fl.s⟩
    let cin := if e.fl.c then 1 else 0
    OnlyEngine (.add f rd ra rb) s f.eng (e.done rd (a + b) (fl (a + b) (decide (2 ^ 72 ≤ a.toNat + b.toNat)) (a.toInt + b.toInt))) ∧
    (let r := BitVec.ofNat 72 (a.toNat + b.toNat + cin)
     OnlyEngine (.adc f rd ra rb) s f.eng (e.done rd r (fl r (decide (2 ^ 72 ≤ a.toNat + b.toNat + cin)) (a.toInt + b.toInt + cin)))) ∧
    OnlyEngine (.sub f rd ra rb) s f.eng (e.done rd (a - b) (fl (a - b) (decide (b.toNat ≤ a.toNat)) (a.toInt - b.toInt))) ∧
    (let r := BitVec.ofInt 72 (a.toInt - b.toInt - (1 - cin))
     OnlyEngine (.sbc f rd ra rb) s f.eng
       (e.done rd r (fl r (decide (b.toNat + (1 - cin) ≤ a.toNat)) (a.toInt - b.toInt - (1 - cin : Int))))) ∧
    OnlyEngine (.neg f rd ra) s f.eng (e.done rd (-a) (fl (-a) (decide (a = 0)) (-a.toInt))) ∧
    (let r := BitVec.ofInt 72 (a.toInt.natAbs : Int)
     OnlyEngine (.abs f rd ra) s f.eng (e.done rd r ⟨decide (r = 0), r.msb, e.fl.c, decide (a.toInt = -2 ^ 71), e.fl.s⟩)) ∧
    OnlyEngine (.cmp f ra rb) s f.eng
      ({ e with fl := fl (a - b) (decide (b.toNat ≤ a.toNat)) (a.toInt - b.toInt) }.complete 1)

/-- MIN, MAX, MINU, MAXU and SEL: result and flags, nothing else changes (R201, R204). AND, OR, XOR, ANDN, NOT, TST, POPC and CLZ: result and flags,
nothing else changes (R204). -/
def Obligations.SelectionAndLogicResults : Prop :=
  (∀ (s : State) (f : Fetch) (rd ra rb : WReg), s.dev.atRest → s.dev.fetches f →
    let e := s.dev.eng f.eng
    let a := e.reg ra
    let b := e.reg rb
    let zn (r : Word) : Flags := ⟨decide (r = 0), r.msb, e.fl.c, e.fl.v, e.fl.s⟩
    (∀ r : Word, (r = a ∨ r = b) → r.toInt ≤ a.toInt → r.toInt ≤ b.toInt → OnlyEngine (.min f rd ra rb) s f.eng (e.done rd r (zn r))) ∧
    (∀ r : Word, (r = a ∨ r = b) → a.toInt ≤ r.toInt → b.toInt ≤ r.toInt → OnlyEngine (.max f rd ra rb) s f.eng (e.done rd r (zn r))) ∧
    (∀ r : Word, (r = a ∨ r = b) → r.toNat ≤ a.toNat → r.toNat ≤ b.toNat → OnlyEngine (.minu f rd ra rb) s f.eng (e.done rd r (zn r))) ∧
    (∀ r : Word, (r = a ∨ r = b) → a.toNat ≤ r.toNat → b.toNat ≤ r.toNat → OnlyEngine (.maxu f rd ra rb) s f.eng (e.done rd r (zn r))) ∧
    (∀ cond : BitVec 4, OnlyEngine (.sel f rd ra rb cond) s f.eng (e.done rd (if e.fl.holds cond then a else b) e.fl))) ∧
  (∀ (s : State) (f : Fetch) (rd ra rb : WReg), s.dev.atRest → s.dev.fetches f →
    let e := s.dev.eng f.eng
    let a := e.reg ra
    let b := e.reg rb
    let zn (r : Word) : Flags := ⟨decide (r = 0), r.msb, e.fl.c, e.fl.v, e.fl.s⟩
    let bitwise (c : Instr) (g : Bool → Bool → Bool) : Prop :=
      ∀ r : Word, (∀ i < 72, r.getLsbD i = g (a.getLsbD i) (b.getLsbD i)) → OnlyEngine c s f.eng (e.done rd r (zn r))
    bitwise (.and f rd ra rb) (fun x y => x && y) ∧
    bitwise (.or f rd ra rb) (fun x y => x || y) ∧
    bitwise (.xor f rd ra rb) (fun x y => x != y) ∧
    bitwise (.andn f rd ra rb) (fun x y => x && !y) ∧
    bitwise (.not f rd ra) (fun x _ => !x) ∧
    (∀ r : Word, (∀ i < 72, r.getLsbD i = (a.getLsbD i && b.getLsbD i)) →
      OnlyEngine (.tst f ra rb) s f.eng ({ e with fl := zn r }.complete 1)) ∧
    (let n := ((List.range 72).filter (fun i => a.getLsbD i)).length
     OnlyEngine (.popc f rd ra) s f.eng (e.done rd (BitVec.ofNat 72 n) (zn (BitVec.ofNat 72 n)))) ∧
    (∀ n ≤ 72, (∀ i < n, a.getMsbD i = false) → (n < 72 → a.getMsbD n = true) →
      OnlyEngine (.clz f rd ra) s f.eng (e.done rd (BitVec.ofNat 72 n) (zn (BitVec.ofNat 72 n)))))

/-- After CMP of a and b the condition codes say what their names say: EQ, NE, LT, GE, GT and LE of the signed numbers, HS, LO, HI and LS of the
unsigned ones, for any flags before it (R162, R201). -/
def Obligations.ConditionsAfterCompare : Prop :=
  ∀ (e : EngState) (ra rb : WReg),
    let a := e.reg ra
    let b := e.reg rb
    let fl := (e.completeOp (.alu .cmp 0 ra rb) .nothing).fl
    (fl.holds 1 = true ↔ a = b) ∧ (fl.holds 2 = true ↔ a ≠ b) ∧
    (fl.holds 3 = true ↔ a.toInt < b.toInt) ∧ (fl.holds 4 = true ↔ b.toInt ≤ a.toInt) ∧
    (fl.holds 5 = true ↔ b.toInt < a.toInt) ∧ (fl.holds 6 = true ↔ a.toInt ≤ b.toInt) ∧
    (fl.holds 7 = true ↔ a.toNat < b.toNat) ∧ (fl.holds 8 = true ↔ b.toNat ≤ a.toNat) ∧
    (fl.holds 9 = true ↔ b.toNat < a.toNat) ∧ (fl.holds 10 = true ↔ a.toNat ≤ b.toNat)

/-- ADDS, SUBS, NEGS, ABSS, ADDUS, SUBUS and SHLS: the exact result clamped to the signed or unsigned range, Z and N of it, S set by a clamp and never
cleared, C and V unchanged; nothing else changes (R163, R198, R204, R205, R206). -/
def Obligations.SaturatingResults : Prop :=
  ∀ (s : State) (f : Fetch) (rd ra rb : WReg), s.dev.atRest → s.dev.fetches f →
    let e := s.dev.eng f.eng
    let a := e.reg ra
    let b := e.reg rb
    let within (lo hi v : Int) : EngState :=
      let r := BitVec.ofInt 72 (if v < lo then lo else if hi < v then hi else v)
      e.done rd r ⟨decide (r = 0), r.msb, e.fl.c, e.fl.v, e.fl.s || decide (v < lo ∨ hi < v)⟩
    let sat := within (-2 ^ 71) (2 ^ 71 - 1)
    let satu := within 0 (2 ^ 72 - 1)
    OnlyEngine (.adds f rd ra rb) s f.eng (sat (a.toInt + b.toInt)) ∧
    OnlyEngine (.subs f rd ra rb) s f.eng (sat (a.toInt - b.toInt)) ∧
    OnlyEngine (.negs f rd ra) s f.eng (sat (-a.toInt)) ∧
    OnlyEngine (.abss f rd ra) s f.eng (sat (a.toInt.natAbs : Int)) ∧
    OnlyEngine (.addus f rd ra rb) s f.eng (satu ((a.toNat : Int) + b.toNat)) ∧
    OnlyEngine (.subus f rd ra rb) s f.eng (satu ((a.toNat : Int) - b.toNat)) ∧
    (∀ k : BitVec 7, OnlyEngine (.shls f rd ra (.imm k)) s f.eng (sat (a.toInt * 2 ^ k.toNat))) ∧
    (∀ rn : WReg, OnlyEngine (.shls f rd ra (.reg rn)) s f.eng (sat (a.toInt * 2 ^ ((e.reg rn).toNat % 256))))

/-- SHL, SHR, ASR and ROR by an immediate or a register amount from 0 to 255: the result bit by bit, C as the last bit shifted out, Z and N; nothing
else changes (R204, R205). EXTR and INS on a legal field: the field of W[A] as an unsigned or signed number, and the field of W[D] replaced by the low
bits of W[A] with its other bits as they were; nothing else changes (R208). -/
def Obligations.ShiftAndFieldResults : Prop :=
  (∀ (s : State) (f : Fetch) (rd ra : WReg) (amt : ShAmt) (n : Nat), s.dev.atRest → s.dev.fetches f →
    let e := s.dev.eng f.eng
    let a := e.reg ra
    n = (match amt with | .imm k => k.toNat | .reg rn => (e.reg rn).toNat % 256) →
    let fl (r : Word) (c : Bool) : Flags := ⟨decide (r = 0), r.msb, c, e.fl.v, e.fl.s⟩
    (∀ r : Word, (∀ i < 72, r.getLsbD i = (decide (n ≤ i) && a.getLsbD (i - n))) →
      OnlyEngine (.shl f rd ra amt) s f.eng (e.done rd r (fl r (decide (1 ≤ n ∧ n ≤ 72) && a.getLsbD (72 - n))))) ∧
    (∀ r : Word, (∀ i < 72, r.getLsbD i = a.getLsbD (i + n)) →
      OnlyEngine (.shr f rd ra amt) s f.eng (e.done rd r (fl r (decide (1 ≤ n ∧ n ≤ 72) && a.getLsbD (n - 1))))) ∧
    (∀ r : Word, (∀ i < 72, r.getLsbD i = a.getLsbD (min 71 (i + n))) →
      OnlyEngine (.asr f rd ra amt) s f.eng (e.done rd r (fl r (decide (1 ≤ n) && a.getLsbD (min 71 (n - 1)))))) ∧
    (∀ r : Word, (∀ i < 72, r.getLsbD i = a.getLsbD ((i + n) % 72)) →
      OnlyEngine (.ror f rd ra amt) s f.eng (e.done rd r (fl r (decide (n % 72 ≠ 0) && r.msb))))) ∧
  (∀ (s : State) (f : Fetch) (rd ra : WReg) (p l : BitVec 7), s.dev.atRest → s.dev.fetches f →
    1 ≤ l.toNat → p.toNat + l.toNat ≤ 72 →
    let e := s.dev.eng f.eng
    let a := e.reg ra
    let zn (r : Word) : Flags := ⟨decide (r = 0), r.msb, e.fl.c, e.fl.v, e.fl.s⟩
    let v := a.toNat / 2 ^ p.toNat % 2 ^ l.toNat
    (let r := BitVec.ofNat 72 v
     OnlyEngine (.extr f rd ra p l false) s f.eng (e.done rd r (zn r))) ∧
    (let r := BitVec.ofInt 72 (if v < 2 ^ (l.toNat - 1) then v else (v : Int) - 2 ^ l.toNat)
     OnlyEngine (.extr f rd ra p l true) s f.eng (e.done rd r (zn r))) ∧
    (∀ r : Word, (∀ i < 72, r.getLsbD i =
        if p.toNat ≤ i ∧ i < p.toNat + l.toNat then a.getLsbD (i - p.toNat) else (e.reg rd).getLsbD i) →
      OnlyEngine (.ins f rd ra p l) s f.eng (e.done rd r e.fl)))

/-- ADDI, ANDI, ORI, XORI and CMPI with the sign-extended immediate in the place of b, and CMPI without a result; nothing else changes (R162, R207).
-/
def Obligations.ImmediateResults : Prop :=
  ∀ (s : State) (f : Fetch) (rd ra : WReg) (imm : BitVec 22), s.dev.atRest → s.dev.fetches f →
    let e := s.dev.eng f.eng
    let a := e.reg ra
    let b : Word := BitVec.ofInt 72 imm.toInt
    let fl (r : Word) (c : Bool) (exact : Int) : Flags := ⟨decide (r = 0), r.msb, c, decide (exact < -2 ^ 71 ∨ 2 ^ 71 ≤ exact), e.fl.s⟩
    let zn (r : Word) : Flags := ⟨decide (r = 0), r.msb, e.fl.c, e.fl.v, e.fl.s⟩
    OnlyEngine (.addi f rd ra imm) s f.eng
      (e.done rd (a + b) (fl (a + b) (decide (2 ^ 72 ≤ a.toNat + b.toNat)) (a.toInt + imm.toInt))) ∧
    OnlyEngine (.andi f rd ra imm) s f.eng (e.done rd (a &&& b) (zn (a &&& b))) ∧
    OnlyEngine (.ori f rd ra imm) s f.eng (e.done rd (a ||| b) (zn (a ||| b))) ∧
    OnlyEngine (.xori f rd ra imm) s f.eng (e.done rd (a ^^^ b) (zn (a ^^^ b))) ∧
    OnlyEngine (.cmpi f ra imm) s f.eng
      ({ e with fl := fl (a - b) (decide (b.toNat ≤ a.toNat)) (a.toInt - imm.toInt) }.complete 1)

/-- CLRACC, MOVTA, MOVTAS, MOVFA, EXT, MUL and MAC on ACCA, and on a Sleeve's ACCB: the accumulator or register they write, modulo 2^144 and clamped
as R211 says; nothing else changes (R159, R198, R211, R212). -/
def Obligations.AccumulatorResults : Prop :=
  ∀ (s : State) (f : Fetch) (x : Bool) (rd ra rb : WReg), s.dev.atRest → s.dev.fetches f → (x = true → f.eng ≠ .collar) →
    let e := s.dev.eng f.eng
    let a := e.reg ra
    let b := e.reg rb
    let old := if x then e.accb else e.acca
    let put (v : BitVec 144) : EngState := (if x then { e with accb := v } else { e with acca := v }).complete 1
    OnlyEngine (.clracc f x) s f.eng (put 0) ∧
    OnlyEngine (.movta f x ra rb) s f.eng (put (BitVec.ofNat 144 (a.toNat * 2 ^ 72 + b.toNat))) ∧
    OnlyEngine (.movtas f x ra) s f.eng (put (BitVec.ofInt 144 a.toInt)) ∧
    OnlyEngine (.movfa f x rd false) s f.eng (e.done rd (BitVec.ofNat 72 (old.toNat % 2 ^ 72)) e.fl) ∧
    OnlyEngine (.movfa f x rd true) s f.eng (e.done rd (BitVec.ofNat 72 (old.toNat / 2 ^ 72)) e.fl) ∧
    (∀ (sh : BitVec 8) (r u : Bool), sh.toNat ≤ 143 →
      let v : Int := if r = true ∧ sh ≠ 0 then (old.toInt + 2 ^ (sh.toNat - 1)) / 2 ^ sh.toNat else old.toInt / 2 ^ sh.toNat
      let lo : Int := if u then 0 else -2 ^ 71
      let hi : Int := if u then 2 ^ 72 - 1 else 2 ^ 71 - 1
      let w := BitVec.ofInt 72 (if v < lo then lo else if hi < v then hi else v)
      OnlyEngine (.ext f x rd sh r u) s f.eng
        (e.done rd w ⟨decide (w = 0), w.msb, e.fl.c, e.fl.v, e.fl.s || decide (v < lo ∨ hi < v)⟩)) ∧
    (∀ (sg : BitVec 2) (p : Int),
      (sg = 0 ∧ p = a.toInt * b.toInt ∨ sg = 1 ∧ p = (a.toNat : Int) * b.toNat ∨ sg = 2 ∧ p = a.toInt * b.toNat) →
      OnlyEngine (.mul f x ra rb sg) s f.eng (put (BitVec.ofInt 144 p)) ∧
      OnlyEngine (.mac f x ra rb sg false) s f.eng (put (BitVec.ofInt 144 (old.toInt + p))) ∧
      OnlyEngine (.mac f x ra rb sg true) s f.eng (put (BitVec.ofInt 144 (old.toInt - p))))

/-- DIV, RECIP and POLY for every legal shift: quotient or remainder with V and S, the rounded reciprocal, one rounded and clamped Horner step; a zero
divisor saturates; nothing else changes (R198, R213, R214, R215). -/
def Obligations.DivisionAndPolynomialResults : Prop :=
  ∀ (s : State) (f : Fetch) (rd ra rb : WReg), s.dev.atRest → s.dev.fetches f →
    let e := s.dev.eng f.eng
    (∀ (sh : BitVec 7) (u m : Bool), sh.toNat ≤ 71 →
      let a : Int := if u then (e.reg ra).toNat else (e.reg ra).toInt
      let b : Int := if u then (e.reg rb).toNat else (e.reg rb).toInt
      let lo : Int := if u then 0 else -2 ^ 71
      let hi : Int := if u then 2 ^ 72 - 1 else 2 ^ 71 - 1
      let n := a * 2 ^ sh.toNat
      let q := n.tdiv b
      let v := b = 0 ∨ q < lo ∨ hi < q
      let w := BitVec.ofInt 72 (if b = 0 then (if m then 0 else if n < 0 then lo else hi)
        else if m then n - q * b else if q < lo then lo else if hi < q then hi else q)
      OnlyEngine (.div f rd ra rb sh u m) s f.eng (e.done rd w ⟨decide (w = 0), w.msb, e.fl.c, decide v, e.fl.s || decide v⟩)) ∧
    (∀ sh : BitVec 8, sh.toNat ≤ 142 →
      let a := (e.reg ra).toInt
      let q : Int := (2 ^ sh.toNat + (a.natAbs : Int) / 2) / (a.natAbs : Int)
      let v := a = 0 ∨ (0 < a ∧ 2 ^ 71 - 1 < q) ∨ (a < 0 ∧ 2 ^ 71 < q)
      let w := BitVec.ofInt 72 (if a = 0 then 2 ^ 71 - 1 else if 0 < a then min q (2 ^ 71 - 1) else max (-q) (-2 ^ 71))
      OnlyEngine (.recip f rd ra sh) s f.eng (e.done rd w ⟨decide (w = 0), w.msb, e.fl.c, decide v, e.fl.s || decide v⟩)) ∧
    (∀ sh : BitVec 8, sh.toNat ≤ 143 →
      let p := (e.reg rd).toInt * (e.reg ra).toInt
      let v := (if sh = 0 then p else (p + 2 ^ (sh.toNat - 1)) / 2 ^ sh.toNat) + (e.reg rb).toInt
      let w := BitVec.ofInt 72 (if v < -2 ^ 71 then -2 ^ 71 else if 2 ^ 71 - 1 < v then 2 ^ 71 - 1 else v)
      OnlyEngine (.poly f rd ra rb sh) s f.eng
        (e.done rd w ⟨decide (w = 0), w.msb, e.fl.c, e.fl.v, e.fl.s || decide (v < -2 ^ 71 ∨ 2 ^ 71 - 1 < v)⟩))

/-- BR, BRR, LOOP and LOOPI: a branch whose condition holds goes to its target with the return address in W15 where it links, one whose condition
fails goes on; a loop of count 0 skips its body, any other pushes a level while fewer than four stand; an enclosing level that ends at the LOOP is
tested; nothing else changes (R201, R217 to R219). The branch is not traced. An instruction that is not at the end of a hardware loop leaves the loop
stack and goes to the next slot; at the end of the top loop it goes back to the loop's start while the count is above 1, and removes the level when
the count is used up, testing the level below it (R166, R219). -/
def Obligations.BranchesLoopsAndTheLoopEndTest : Prop :=
  (∀ (s : State) (f : Fetch), s.dev.atRest → s.dev.fetches f →
    let e := s.dev.eng f.eng
    let linked (link : Bool) : EngState := if link then { e with w := e.w.set 15 (BitVec.ofNat 72 ((e.ia.toNat + 1) % 2 ^ 21)) } else e
    (∀ (cond : BitVec 4) (link : Bool) (target : BitVec 21) (ra : WReg),
      (e.fl.holds cond = false →
        OnlyEngine (.br f cond link target) s f.eng (e.complete 1) ∧ OnlyEngine (.brr f cond link ra) s f.eng (e.complete 1)) ∧
      (e.fl.holds cond = true → s.dev.flag F.DBG_TRCFG_BR = false →
        OnlyEngine (.br f cond link target) s f.eng { linked link with ia := target, wait := .none } ∧
        OnlyEngine (.brr f cond link ra) s f.eng
          { linked link with ia := BitVec.ofNat 21 ((e.reg ra).toNat % 2 ^ 21), wait := .none })) ∧
    (∀ (count : Nat) (ra : WReg) (imm : BitVec 12) (len : BitVec 10), len ≠ 0 →
      let started : EngState := { e with loops := ⟨e.ia + 1, e.ia + BitVec.ofNat 21 len.toNat, count⟩ :: (e.complete 1).loops,
                                         ia := (e.complete 1).ia, wait := .none }
      let after := loopEnd e.loops e.ia (e.ia + BitVec.ofNat 21 (len.toNat + 1))
      let skipped : EngState := { e with loops := after.1, ia := after.2, wait := .none }
      ((e.reg ra).toNat % 2 ^ 32 = count →
        (count = 0 → OnlyEngine (.loop f ra len) s f.eng skipped) ∧
        (count ≠ 0 → e.loops.length < 4 → OnlyEngine (.loop f ra len) s f.eng started)) ∧
      (imm.toNat = count →
        (count = 0 → OnlyEngine (.loopi f imm len) s f.eng skipped) ∧
        (count ≠ 0 → e.loops.length < 4 → OnlyEngine (.loopi f imm len) s f.eng started)))) ∧
  (∀ (e : EngState) (len : Nat), 1 ≤ len → len ≤ 2 →
    let last := e.ia + BitVec.ofNat 21 (len - 1)
    (e.loops = [] → e.complete len = { e with ia := e.ia + BitVec.ofNat 21 len, wait := .none }) ∧
    (∀ l ls, e.loops = l :: ls →
      (l.stop ≠ last → e.complete len = { e with ia := e.ia + BitVec.ofNat 21 len, wait := .none }) ∧
      (l.stop = last → 1 < l.count → e.complete len = { e with loops := { l with count := l.count - 1 } :: ls, ia := l.start, wait := .none }) ∧
      (l.stop = last → l.count ≤ 1 → e.complete len = { e with loops := ls }.complete len)))

/-! ## The engines: memory, the Seam, events and calls -/

/-- LD and LDH: the word, or the half with its extension, goes to W[D] from the effective address modulo 2^20, from register space as a register read;
no flag and nothing else changes (R209). -/
def Obligations.LoadResults : Prop :=
  ∀ (s : State) (f : Fetch) (rd ra : WReg) (imm : BitVec 22) (off : BitVec 20) (ea : Nat), s.dev.atRest → s.dev.fetches f →
    s.dev.loads f.eng ea →
    let e := s.dev.eng f.eng
    let w : Word := if isRegSpace ea then s.dev.regRead ea else s.dev.load (s.dev.physical f.eng ea)
    ((((e.reg ra).toNat : Int) + imm.toInt) % 2 ^ 20 = ea → OnlyEngine (.ld f rd ra imm .sound) s f.eng (e.done rd w e.fl)) ∧
    ((((e.reg ra).toNat : Int) + off.toInt) % 2 ^ 20 = ea → ∀ h : Bool,
      let v := if h then w.toNat / 2 ^ 36 else w.toNat % 2 ^ 36
      OnlyEngine (.ldh f rd ra off true h .sound) s f.eng (e.done rd (BitVec.ofNat 72 v) e.fl) ∧
      OnlyEngine (.ldh f rd ra off false h .sound) s f.eng
        (e.done rd (BitVec.ofInt 72 (if v < 2 ^ 35 then v else (v : Int) - 2 ^ 36)) e.fl))

/-- INTERP on a Sleeve over a table it may read: an end point, with S beyond it, or the rounded and clamped interpolation; Z and N of the result;
nothing else changes (R216). `y` reads the table as loads do. -/
def Obligations.InterpResults : Prop :=
  ∀ (s : State) (f : Fetch) (rd ra rb : WReg), s.dev.atRest → s.dev.fetches f → f.eng ≠ .collar → s.dev.paired = false →
    let e := s.dev.eng f.eng
    let base := (e.reg rb).toNat % 2 ^ 20
    let word (k : Nat) : Word := s.dev.peek f.eng ((base + k) % 2 ^ 20)
    let y (k : Nat) : Int := (word (2 + k)).toInt
    let n := max 2 ((word 1).toNat % 2 ^ 12)
    let k := (word 1).toNat / 2 ^ 12 % 2 ^ 6
    let d := (e.reg ra).toInt - (word 0).toInt
    let i := (d / 2 ^ k).toNat
    let res (v : Int) (sat : Bool) : EngState :=
      let w := BitVec.ofInt 72 (if v < -2 ^ 71 then -2 ^ 71 else if 2 ^ 71 - 1 < v then 2 ^ 71 - 1 else v)
      e.done rd w ⟨decide (w = 0), w.msb, e.fl.c, e.fl.v, e.fl.s || sat || decide (v < -2 ^ 71 ∨ 2 ^ 71 - 1 < v)⟩
    s.dev.loads f.eng base → s.dev.loads f.eng ((base + 1) % 2 ^ 20) →
    (d < 0 → s.dev.loads f.eng ((base + 2) % 2 ^ 20) → OnlyEngine (.interp f rd ra rb .sound) s f.eng (res (y 0) true)) ∧
    (0 ≤ d → n - 1 ≤ i → s.dev.loads f.eng ((base + (2 + (n - 1))) % 2 ^ 20) →
      OnlyEngine (.interp f rd ra rb .sound) s f.eng (res (y (n - 1)) (decide (((n : Int) - 1) * 2 ^ k < d)))) ∧
    (0 ≤ d → i < n - 1 → s.dev.loads f.eng ((base + (2 + i)) % 2 ^ 20) → s.dev.loads f.eng ((base + (3 + i)) % 2 ^ 20) →
      let p := (y (i + 1) - y i) * (d - i * 2 ^ k)
      OnlyEngine (.interp f rd ra rb .sound) s f.eng (res (y i + (if k = 0 then p else (p + 2 ^ (k - 1)) / 2 ^ k)) false))

/-- ST and STH to a word of memory or of a Seam block that the engine owns, and the drop of a store into a block that it does not own: what every
address reads as afterwards, the engine goes on, nothing else changes (R168, R169, R209, R272). `ea` is the address the instruction computes, `p` the
word of the device behind it. -/
def Obligations.StoreResults : Prop :=
  ∀ (s : State) (f : Fetch) (rd ra : WReg) (imm : BitVec 22) (off : BitVec 20) (h : Bool) (ea : Nat), s.dev.atRest → s.dev.fetches f →
    s.dev.mayStore f.eng ea = true → isRegSpace ea = false → ¬ (0x8FF40 ≤ ea ∧ ea < 0x8FFF0) → (s.dev.alone f.eng ∨ outsideHalf ea = false) →
    s.dev.eccMark (s.dev.physical f.eng ea) = none →
    let e := s.dev.eng f.eng
    let p := s.dev.physical f.eng ea
    let old := s.dev.load p
    let half := (e.reg rd).toNat % 2 ^ 36
    let merged : Word := BitVec.ofNat 72 (if h then half * 2 ^ 36 + old.toNat % 2 ^ 36 else old.toNat / 2 ^ 36 * 2 ^ 36 + half)
    let stores (c : Instr) (w : Word) : Prop :=
      ((isSeam ea = false ∨ s.dev.owner (blockOf ea) = s.dev.me f.eng) → Completes c s (fun t =>
        t.load p = w ∧ (∀ a, a ≠ p → t.load a = s.dev.load a) ∧ t.eng f.eng = e.complete 1 ∧ (∀ y, y ≠ f.eng → t.eng y = s.dev.eng y) ∧
        ∀ a, a ∉ settledAddrs → t.reg a = s.dev.reg a)) ∧
      (isSeam ea = true → s.dev.owner (blockOf ea) ≠ s.dev.me f.eng → Completes c s (fun t =>
        (∀ a, t.load a = s.dev.load a) ∧ t.eng f.eng = e.complete 1 ∧ t.get F.SEAM_STAT_DROPBLK = blockOf ea ∧
        t.get F.SEAM_STAT_DROPBY = s.dev.me f.eng ∧ s.dev.SameBut t f.eng (fun _ => False)))
    ((((e.reg ra).toNat : Int) + imm.toInt) % 2 ^ 20 = ea → stores (.st f rd ra imm) (e.reg rd)) ∧
    ((((e.reg ra).toNat : Int) + off.toInt) % 2 ^ 20 = ea → stores (.sth f rd ra off h) merged)

/-- CLAIM, GIVE and TESTOWN: the record they leave, the image they return and Z; HOME and PRIVATE never change, and nothing but the record, the engine
and status registers does (R220 to R223). In PAIRED a block given to SLEEVE_R goes to SLEEVE_L (R187; log 106); one given to a held owner is noted to revert (R276); one
that the Collar gives to LABEL with FULL = 1 comes back to it at once (R279; log 107). -/
def Obligations.OwnershipInstructions : Prop :=
  ∀ (s : State) (f : Fetch) (rd ra rb : WReg), s.dev.atRest → s.dev.fetches f → s.dev.alone f.eng →
    let e := s.dev.eng f.eng
    let b := (e.reg ra).toNat % 256
    let me := s.dev.me f.eng
    let returns (t : Dev) : Prop :=
      t.eng f.eng = e.done rd (t.reg (F.SEAM_REC b)) { e.fl with z := decide (t.owner b = me) } ∧
      t.home b = s.dev.home b ∧ t.priv b = s.dev.priv b ∧ s.dev.SameBut t f.eng (fun a => a = F.SEAM_REC b)
    let keeps (t : Dev) : Prop := returns t ∧ t.reg (F.SEAM_REC b) = s.dev.reg (F.SEAM_REC b)
    let moves (t : Dev) (n : Nat) (full : Bool) : Prop :=
      returns t ∧ t.owner b = n ∧ t.full b = full ∧ t.flag (F.SEAM_REC_STALE b) = false ∧
      t.get (F.SEAM_REC_SEQ b) = (s.dev.get (F.SEAM_REC_SEQ b) + 1) % 256
    (s.dev.owner b = Own.none → Completes (.claim f rd ra) s (fun t => moves t me false)) ∧
    (s.dev.owner b ≠ Own.none → Completes (.claim f rd ra) s keeps) ∧
    Completes (.testown f rd ra) s keeps ∧
    (∀ (code : BitVec 4) (fromReg full : Bool),
      let n := if fromReg then (e.reg rb).toNat % 16 else code.toNat
      let dest := if s.dev.paired = true ∧ n = Own.sleeveR then Own.sleeveL else n
      (s.dev.owner b = me → (n ≤ 9 ∨ n = 15) → ¬ (me = Own.collar ∧ n = Own.label ∧ full = true) →
        Completes (.give f rd ra rb code fromReg full) s (fun t =>
          moves t dest full ∧ t.revertDue = s.dev.revertDue ++ if s.dev.heldOwner dest then [b] else [])) ∧
      (s.dev.owner b = me → me = Own.collar → n = Own.label → full = true →
        Completes (.give f rd ra rb code fromReg full) s (fun t =>
          t.owner b = Own.collar ∧ t.full b = false ∧ t.get (F.SEAM_REC_SEQ b) = (s.dev.get (F.SEAM_REC_SEQ b) + 2) % 256 ∧
          (∀ a, a ≠ blockAddr b + 63 → t.load a = s.dev.load a) ∧ ∀ y, y ≠ f.eng → t.eng y = s.dev.eng y)) ∧
      ((s.dev.owner b ≠ me ∨ (9 < n ∧ n < 15)) → Completes (.give f rd ra rb code fromReg full) s keeps))

/-- SIGNAL raises its source once: every input of the Sleeves and the Collar that is routed to it counts one more, no further than 3, every other
count stays; the engine goes on (R225, R287). ARM of one of the engine's own inputs above 0 sets its source and its connection and clears its count
and OVF; no other routing register changes (R226, R293). No master has ordered the register in this cycle. -/
def Obligations.SignalRaisesAndArmRoutes : Prop :=
  (∀ (s : State) (f : Fetch) (n : BitVec 3), s.dev.atRest → s.dev.fetches f → s.dev.paired = false →
    Completes (.signal f n) s (fun t =>
      (∀ (x : Eng) (i : Nat), i < inputsN x →
        t.pendCount x i = if routedTo (s.dev.reg (routeReg x i)) (54 + n.toNat) then min 3 (s.dev.pendCount x i + 1) else s.dev.pendCount x i) ∧
      t.eng f.eng = (s.dev.eng f.eng).complete 1 ∧ s.dev.SameBut t f.eng (fun _ => False))) ∧
  (∀ (s : State) (f : Fetch) (i : BitVec 5) (src : BitVec 6) (dis : Bool), s.dev.atRest → s.dev.fetches f → s.dev.alone f.eng →
    0 < i.toNat → i.toNat < inputsN f.eng → s.dev.orders = [] → s.dev.held = [] →
    Completes (.arm f i src dis) s (fun t =>
      t.reg (routeReg f.eng i.toNat) = BitVec.ofNat 72 ((if dis then 2 ^ 13 else 0) + src.toNat) ∧
      t.pendCount f.eng i.toNat = 0 ∧ bitsOf (t.reg (ovfReg f.eng)) i.toNat i.toNat = 0 ∧
      t.eng f.eng = (s.dev.eng f.eng).complete 1 ∧ s.dev.SameBut t f.eng (fun a => a = routeReg f.eng i.toNat)))

/-- WAITEV takes the lowest pending input of its mask and one of its counts, returns all ones for an empty mask, and else waits; DOZE goes on while a
count stands and else waits (R189, R190, R224). Nothing is traced. An engine in DOZE goes on when a count stands, and one in WAITEV when an input of
its mask is pending, with that event; without one the engine still waits (R189, R190). The chip is awake, nothing is traced, and the engine is not
asked to halt. -/
def Obligations.WaitsAndTheirEnds : Prop :=
  (∀ (s : State) (f : Fetch) (rd ra : WReg), s.dev.atRest → s.dev.fetches f → s.dev.alone f.eng → s.dev.flag F.DBG_TRCFG_EN = false →
    let x := f.eng
    let e := s.dev.eng x
    let m := (e.reg ra).toNat % 2 ^ inputsN x
    (m = 0 → OnlyEngine (.waitev f rd ra) s x (e.done rd (BitVec.ofNat 72 (2 ^ 72 - 1)) e.fl)) ∧
    (∀ i, i < inputsN x → m.testBit i = true → 0 < s.dev.pendCount x i → (∀ j < i, m.testBit j = true → s.dev.pendCount x j = 0) →
      Completes (.waitev f rd ra) s (fun t =>
        t.eng x = e.done rd (BitVec.ofNat 72 (i + 256 * bitsOf (s.dev.reg (ovfReg x)) i i)) e.fl ∧
        t.pendCount x i = s.dev.pendCount x i - 1 ∧ (∀ j < inputsN x, j ≠ i → t.pendCount x j = s.dev.pendCount x j) ∧
        s.dev.SameBut t x (fun _ => False))) ∧
    (m ≠ 0 → (∀ i < inputsN x, m.testBit i = true → s.dev.pendCount x i = 0) →
      Completes (.waitev f rd ra) s (fun t =>
        t.eng x = { e with wait := .waitev rd m } ∧ t.runOf x = Run.waiting ∧ s.dev.SameBut t x (fun _ => False))) ∧
    (s.dev.reg (pendReg x) ≠ 0 → OnlyEngine (.doze f) s x (e.complete 1)) ∧
    (s.dev.reg (pendReg x) = 0 → Completes (.doze f) s (fun t =>
        t.eng x = { e with wait := .doze } ∧ t.runOf x = Run.waiting ∧ s.dev.SameBut t x (fun _ => False)))) ∧
  (∀ (s : State) (x : Eng), s.dev.atRest → s.dev.alone x → s.dev.asleep = false → s.dev.flag F.DBG_TRCFG_EN = false →
    s.dev.runOf x = Run.waiting → s.dev.haltBit x = false →
    let e := s.dev.eng x
    (e.wait = .doze → s.dev.reg (pendReg x) ≠ 0 → Completes (.dozeWake x) s (fun t =>
      t.eng x = e.complete 1 ∧ t.runOf x = Run.running ∧ s.dev.SameBut t x (fun _ => False))) ∧
    (e.wait = .doze → s.dev.reg (pendReg x) = 0 → exec (.dozeWake x) s = .next s) ∧
    (∀ rd m i, e.wait = .waitev rd m → i < inputsN x → m.testBit i = true → 0 < s.dev.pendCount x i →
      (∀ j < i, m.testBit j = true → s.dev.pendCount x j = 0) →
      Completes (.waitevResume x) s (fun t =>
        t.eng x = e.done rd (BitVec.ofNat 72 (i + 256 * bitsOf (s.dev.reg (ovfReg x)) i i)) e.fl ∧ t.runOf x = Run.running ∧
        t.pendCount x i = s.dev.pendCount x i - 1 ∧ s.dev.SameBut t x (fun _ => False))))

/-- SHOT and CONV answer QUEUED, FULL or UNAVAILABLE with Z, USF_REQRES or ADC_REQRES shows the answer, and a queued request stands last in the queue
with the fields of W[A]; the engine goes on (R227, R319, R320, R338). SHOT is stated queued for a block that the engine owns. -/
def Obligations.RequestInstructions : Prop :=
  ∀ (s : State) (f : Fetch) (rd ra : WReg), s.dev.atRest → s.dev.fetches f → s.dev.alone f.eng →
    let d := s.dev
    let e := d.eng f.eng
    let who := d.me f.eng
    let answers (t : Dev) (r : Fld) (n : Nat) (p : Nat → Prop) : Prop :=
      t.eng f.eng = e.done rd (BitVec.ofNat 72 n) { e.fl with z := decide (n = 0) } ∧ t.get r = n ∧ d.SameBut t f.eng (fun a => a = r.addr ∨ p a)
    (let q := usfWord (e.reg ra)
     let shot (n : Nat) (p : Nat → Prop) (P : Dev → Prop) : Prop :=
       Completes (.shot f rd ra) s (fun t => answers t F.USF_REQRES_RESULT n p ∧ P t)
     (¬ d.usfServed q → shot 2 (fun _ => False) (fun t => t.usf.queue = d.usf.queue)) ∧
     (d.usfServed q → d.usfFull q → shot 1 (fun _ => False) (fun t => t.usf.queue = d.usf.queue)) ∧
     (d.usfServed q → ¬ d.usfFull q → d.headsSound → d.owner q.block = who →
       shot 0 (fun a => a = F.SEAM_REC q.block) (fun t => d.joinedUsf t who q))) ∧
    (let q := adcWord (e.reg ra)
     let conv (n : Nat) (p : Nat → Prop) (P : Dev → Prop) : Prop :=
       Completes (.conv f rd ra) s (fun t => answers t F.ADC_REQRES_RESULT n p ∧ P t)
     (¬ d.adcServed q → conv 2 (fun _ => False) (fun t => t.adc.queue = d.adc.queue)) ∧
     (d.adcServed q → 8 ≤ d.adc.queue.length → conv 1 (fun _ => False) (fun t => t.adc.queue = d.adc.queue)) ∧
     (d.adcServed q → d.adc.queue.length < 8 → conv 0 (fun a => a = F.SEAM_REC q.block) (fun t => d.joinedAdc t who q)))

/-- SVC of a listed service by a Sleeve: the Sleeve waits, and its call with W1 to W5 stands in the Collar's queue (R192, R228, R235). MARK without
tracing changes nothing but the instruction address; with it, a Sleeve's MARK leaves the record of its tag and the low 48 bits of W[A] at the ring's
write pointer, which moves on, and no other word of memory changes (R195, R230). The ring is not full and is not streamed. -/
def Obligations.ServiceCallsAndMarks : Prop :=
  (∀ (s : State) (f : Fetch) (n : BitVec 8), s.dev.atRest → s.dev.fetches f → s.dev.paired = false → s.dev.flag F.DBG_TRCFG_EN = false →
    f.eng ≠ .collar → (svcCallers n.toNat).isSome = true → s.dev.col.svcQ = [] →
    let e := s.dev.eng f.eng
    Completes (.svc f n) s (fun t =>
      t.eng f.eng = { e with wait := .svc } ∧ t.runOf f.eng = Run.waiting ∧
      t.col.svcQ = [⟨n.toNat, .sleeve (decide (f.eng = .right)), [e.reg 1, e.reg 2, e.reg 3, e.reg 4, e.reg 5]⟩] ∧
      s.dev.SameBut t f.eng (fun _ => False))) ∧
  (∀ (s : State) (f : Fetch) (ra : WReg) (tag : BitVec 16), s.dev.atRest → s.dev.fetches f → s.dev.paired = false →
    let e := s.dev.eng f.eng
    let p := s.dev.get F.DBG_TRSTAT_WPTR
    let payload := tag.toNat * 2 ^ 48 + (e.reg ra).toNat % 2 ^ 48
    ((f.eng = .collar ∨ s.dev.flag F.DBG_TRCFG_EN = false) → OnlyEngine (.mark f ra tag) s f.eng (e.complete 1)) ∧
    (f.eng ≠ .collar → s.dev.flag F.DBG_TRCFG_EN = true → s.dev.flag F.DBG_TRCFG_STREAM = false → s.dev.asleep = false →
      s.dev.traceN < 1024 → Completes (.mark f ra tag) s (fun t =>
        t.load (0x1BC00 + p) = BitVec.ofNat 72 (2 * 2 ^ 68 + Eng.code f.eng * 2 ^ 66 + payload) ∧
        (∀ a, a ≠ 0x1BC00 + p → t.load a = s.dev.load a) ∧ t.get F.DBG_TRSTAT_WPTR = (p + 1) % 1024 ∧ t.traceN = s.dev.traceN + 1 ∧
        t.eng f.eng = e.complete 1 ∧ (∀ y, y ≠ f.eng → t.eng y = s.dev.eng y) ∧
        ∀ a, a ∉ settledAddrs → a ≠ F.DBG_TRSTAT → t.reg a = s.dev.reg a)))

/-- TRAP stops a Sleeve: it is trapped, its record holds cause 0x07, the instruction's address, the code and TIDE_TICKS, its registers and instruction
address stay, and the other engines and memory are untouched (R178, R179, R229). Nothing is traced. What makes an instruction trap: a Sleeve whose
fetch address is outside its image (0x02), whose word has two wrong bits (0x05), whose slot holds a literal or whose encoding is illegal (0x01), whose
loop stack is full (0x08), or whose load or store is refused (0x03, 0x04) is trapped with that cause, completes nothing and keeps its registers (R165,
R177, R178, R208, R211 to R214, R218). Nothing is traced. -/
def Obligations.TrapsStopTheSleeve : Prop :=
  (∀ (s : State) (f : Fetch) (code : BitVec 16), s.dev.atRest → s.dev.fetches f → f.eng ≠ .collar → s.dev.flag F.DBG_TRCFG_EN = false →
    let e := s.dev.eng f.eng
    Completes (.trap f code) s (fun t =>
      t.runOf f.eng = Run.trapped ∧
      t.eng f.eng = { e with wait := .none, trap := some ⟨0x07, e.ia, YOp.encode (.trap code), 0, code.toNat, s.dev.get F.TIDE_TICKS_TICKS⟩ } ∧
      s.dev.SameBut t f.eng (fun _ => False))) ∧
  (∀ (s : State) (f : Fetch), s.dev.atRest → f.eng ≠ .collar → s.dev.flag F.DBG_TRCFG_EN = false → s.dev.runOf f.eng = Run.running →
    let e := s.dev.eng f.eng
    let traps (c : Instr) (cause : Nat) : Prop := Completes c s (fun t =>
      t.runOf f.eng = Run.trapped ∧ (∃ r, (t.eng f.eng).trap = some r ∧ r.cause = cause ∧ r.ia = e.ia) ∧
      (t.eng f.eng).w = e.w ∧ (t.eng f.eng).ia = e.ia ∧ (t.eng f.eng).loops = e.loops ∧ (∀ y, y ≠ f.eng → t.eng y = s.dev.eng y))
    (fetchSource f.eng (e.ia.toNat / 2) = false → f.check = .sound → traps (.nop f) 0x02) ∧
    (fetchSource f.eng (e.ia.toNat / 2) = true → f.check = .double → traps (.nop f) 0x05) ∧
    (s.dev.fetches f →
      (e.ia.getLsbD 0 = true → ∀ rd lit, traps (.movl f rd false false lit) 0x01) ∧
      (∀ rd ra p l x, (l = 0 ∨ 72 < p.toNat + l.toNat) → traps (.extr f rd ra p l x) 0x01 ∧ traps (.ins f rd ra p l) 0x01) ∧
      (∀ rd ra rb x, traps (.mul f x ra rb 3) 0x01 ∧ traps (.mac f x ra rb 3 false) 0x01 ∧
        (∀ sh u m, 71 < sh.toNat → traps (.div f rd ra rb sh u m) 0x01) ∧
        (∀ sh, 142 < sh.toNat → traps (.recip f rd ra sh) 0x01) ∧
        (∀ sh, 143 < sh.toNat → traps (.poly f rd ra rb sh) 0x01 ∧ ∀ r u, traps (.ext f x rd sh r u) 0x01)) ∧
      (∀ count len, 0 < count.toNat → len ≠ 0 → 4 ≤ e.loops.length → traps (.loopi f count len) 0x08) ∧
      (∀ rd ra (imm : BitVec 22) (ea : Nat), (((e.reg ra).toNat : Int) + imm.toInt) % 2 ^ 20 = (ea : Int) →
        (s.dev.mayLoad f.eng ea = false → traps (.ld f rd ra imm .sound) 0x03) ∧
        (s.dev.mayStore f.eng ea = false → traps (.st f rd ra imm) 0x04))))

/-- In PAIRED a Sleeve that comes to WAITEV, SHOT, CONV, SIGNAL, ARM, CLAIM, GIVE, TESTOWN or SVC, or to a load or store that it may make outside its
half and image, waits there with the operation and performs nothing yet (R186). Two Sleeves that meet in PAIRED at the same TESTOWN both get the
record and go on; two that do not agree both trap as PAIR_DIVERGE, cause 0x09 (R186). Neither is asked to halt, nothing is traced. -/
def Obligations.PairedSleevesMeet : Prop :=
  (∀ (s : State) (f : Fetch) (rd ra rb : WReg), s.dev.atRest → s.dev.fetches f → s.dev.paired = true → f.eng ≠ .collar →
    let waits (c : Instr) (op : YOp) : Prop := Completes c s (fun t =>
      t.eng f.eng = { s.dev.eng f.eng with wait := .rendezvous op } ∧ t.runOf f.eng = Run.waiting ∧ s.dev.SameBut t f.eng (fun _ => False))
    waits (.waitev f rd ra) (.waitev rd ra) ∧ waits (.shot f rd ra) (.shot rd ra) ∧ waits (.conv f rd ra) (.conv rd ra) ∧
    waits (.claim f rd ra) (.claim rd ra) ∧ waits (.testown f rd ra) (.testown rd ra) ∧
    (∀ (n : BitVec 3) (i : BitVec 5) (src : BitVec 6) (dis : Bool) (code : BitVec 4) (fromReg full : Bool) (v : BitVec 8),
      waits (.signal f n) (.signal n) ∧ waits (.arm f i src dis) (.arm i src dis) ∧
      waits (.give f rd ra rb code fromReg full) (.give rd ra rb code fromReg full) ∧ waits (.svc f v) (.svc v)) ∧
    (∀ (imm : BitVec 22) (ea : Nat), ((((s.dev.eng f.eng).reg ra).toNat : Int) + imm.toInt) % 2 ^ 20 = ea → outsideHalf ea = true →
      (s.dev.mayLoad f.eng ea = true → (isRegSpace ea = false → s.dev.eccMark (s.dev.physical f.eng ea) = none) →
        waits (.ld f rd ra imm .sound) (.ld rd ra imm)) ∧
      (s.dev.mayStore f.eng ea = true → waits (.st f rd ra imm) (.st rd ra imm)))) ∧
  (∀ (s : State) (l r : YOp), s.dev.atRest → s.dev.paired = true → s.dev.flag F.DBG_TRCFG_EN = false →
    s.dev.runOf .left = Run.waiting → s.dev.runOf .right = Run.waiting → s.dev.haltBit .left = false → s.dev.haltBit .right = false →
    s.dev.engL.wait = .rendezvous l → s.dev.engR.wait = .rendezvous r →
    (∀ (rd ra : WReg), l = .testown rd ra → r = .testown rd ra → s.dev.engL.ia = s.dev.engR.ia →
      let b := (s.dev.engL.reg ra).toNat % 256
      b = (s.dev.engR.reg ra).toNat % 256 →
      Completes .rendezvousMeet s (fun t =>
        t.runOf .left = Run.running ∧ t.runOf .right = Run.running ∧
        t.engL = s.dev.engL.done rd (s.dev.reg (F.SEAM_REC b)) { s.dev.engL.fl with z := decide (s.dev.owner b = Own.sleeveL) } ∧
        t.engR = s.dev.engR.done rd (s.dev.reg (F.SEAM_REC b)) { s.dev.engR.fl with z := decide (s.dev.owner b = Own.sleeveL) })) ∧
    ((l ≠ r ∨ s.dev.engL.ia ≠ s.dev.engR.ia) →
      Completes .rendezvousMeet s (fun t =>
        t.runOf .left = Run.trapped ∧ t.runOf .right = Run.trapped ∧
        (∃ x, t.engL.trap = some x ∧ x.cause = 0x09) ∧ (∃ x, t.engR.trap = some x ∧ x.cause = 0x09))))

/-! ## The instruction words -/

/-- Every operand of a legal instruction, at every value its encoding admits, survives encoding and decoding; the literal of MOVL comes from the other
slot (R164, R199 to R230). -/
def Obligations.EncodingsRoundTrip : Prop :=
  ∀ (op : YOp) (upper : Half),
    (∀ d high zext lit, op = .movl d high zext lit → upper = lit) → YOp.decode (YOp.encode op) upper = some op

/-- Words that the spec writes out decode to the instructions it names (R199, R208, R216). -/
def Obligations.WrittenWordsDecode : Prop :=
  YOp.decode 0x802120080#36 0 = some (.br 0 true 0x120080) ∧ YOp.decode 0x744080018#36 0 = some (.poly 1 0 2 24) ∧
  YOp.decode 0x7440C0018#36 0 = some (.poly 1 0 3 24) ∧ YOp.decode 0x843C00000#36 0 = some (.brr 0 false 15) ∧
  YOp.decode 0#36 0 = some .nop ∧ YOp.decode 0xFFFFFFFFF#36 0 = none

/-! ## Register writes -/

/-- A register write by any master. Of a register that only stores: every RW field it names takes the written value, clamped or replaced as R13 says,
every other field keeps its value, and no other register, engine or word of memory changes. Of a register that waits for the cycle boundary: nothing
changes but its shadow, which shows the value after R13. Of an event register: exactly the bits written with 1 clear. Of fields that do not take it,
RO ones and RWT ones of another master outside SERVICE, and of an address that no register has: nothing at all changes (R8, R9, R12, R13). What R13
makes of a value: within a clamped range, unsigned or signed, it stands, outside it the nearest limit is stored; an illegal code becomes the safe one;
and storing what was stored again changes nothing. -/
def Obligations.RegisterWritesStoreLegalValues : Prop :=
  (∀ (s : State) (m : Master) (a : Nat) (mask w : Word), s.dev.atRest → s.dev.admits m a →
    let named (f : FieldDef) : Prop := mask &&& maskOf f.hi f.lo ≠ 0
    let stored (f : FieldDef) : Nat := legal f.rng (f.hi + 1 - f.lo) (bitsOf (mergeMask (s.dev.reg a) mask w) f.hi f.lo)
    (a ∈ plainRegs → (a = F.DBG_TRCFG → s.dev.traceN = 0) →
      Completes (.registerWrite m a mask w) s (fun t =>
        (∀ f ∈ fieldsAt a, (f.acc = .rw → named f → t.get ⟨a, f.hi, f.lo⟩ = stored f) ∧
          (f.acc ≠ .rw ∨ ¬ named f → t.get ⟨a, f.hi, f.lo⟩ = s.dev.get ⟨a, f.hi, f.lo⟩)) ∧
        s.dev.Same t (fun x => x = a))) ∧
    (a ∈ waitingRegs →
      Completes (.registerWrite m a mask w) s (fun t =>
        (∀ f ∈ fieldsAt a, (named f → bitsOf (t.shadowRead a) f.hi f.lo = stored f) ∧
          (¬ named f → bitsOf (t.shadowRead a) f.hi f.lo = s.dev.get ⟨a, f.hi, f.lo⟩)) ∧
        s.dev.Same t (fun _ => False))) ∧
    (a ∈ eventRegs →
      Completes (.registerWrite m a mask w) s (fun t =>
        (∀ f ∈ fieldsAt a, t.get ⟨a, f.hi, f.lo⟩ = if named f ∧ bitsOf w f.hi f.lo = 1 then 0 else s.dev.get ⟨a, f.hi, f.lo⟩) ∧
        s.dev.Same t (fun x => x = a)))) ∧
  (∀ (s : State) (m : Master) (a : Nat) (mask w : Word), s.dev.atRest → a ≠ F.SEAM_QCTL →
    (∀ f ∈ fieldsAt a, mask &&& maskOf f.hi f.lo = 0 ∨ f.acc = .ro ∨ (f.acc = .rwt ∧ m ≠ .collar ∧ s.dev.mode ≠ 5)) →
    exec (.registerWrite m a mask w) s = .next s) ∧
  (∀ (lo hi width code v : Nat) (x y : Int),
    (lo ≤ hi → lo ≤ legal (.clamp lo hi) width v ∧ legal (.clamp lo hi) width v ≤ hi ∧ (lo ≤ v → v ≤ hi → legal (.clamp lo hi) width v = v) ∧
      (v < lo → legal (.clamp lo hi) width v = lo) ∧ (hi < v → legal (.clamp lo hi) width v = hi)) ∧
    (0 < width → -2 ^ (width - 1) ≤ x → x ≤ y → y < 2 ^ (width - 1) → v < 2 ^ width →
      legal (.clampS x y) width v < 2 ^ width ∧ (x ≤ signed width v → signed width v ≤ y → legal (.clampS x y) width v = v) ∧
      (signed width v < x → signed width (legal (.clampS x y) width v) = x) ∧
      (y < signed width v → signed width (legal (.clampS x y) width v) = y) ∧
      legal (.clampS x y) width (legal (.clampS x y) width v) = legal (.clampS x y) width v) ∧
    (lo ≤ v → v ≤ hi → legal (.safe lo hi code) width v = code) ∧ ((v < lo ∨ hi < v) → legal (.safe lo hi code) width v = v) ∧
    (∀ r : Rng, (∀ a b c, r = .safe a b c → c < a ∨ b < c) → (∀ a b, r ≠ .clampS a b) → legal r width (legal r width v) = legal r width v))

/-- TMRn_CMD, TMRn_CFG.EN, TMRn_CNT and TMRn_CAPCTL: a stop wins over a start, a start needs EN, a reset zeroes the counter and copies the preloads,
EN sets or clears RUN and copies CMP1, a counter write clears the fraction, and a POP removes the head that it names (R139 to R143, R147). Only
registers of that channel, and SUBST of the fine ones with EN, change. T1 takes writes from the Collar, and from others in SERVICE (R9, R155), and its
reset forces a boundary, which the statement of the boundary tells; the bus channels have no capture queue. Writes of TIDE_CTL, TIDE_SEC, TIDE_CIVOFS
and TIDE_WDAY by a master that may change them: the halt holds TIDE_SEC at the value it shows, a write then moves it only forward, the release writes
TIME_SET, with RELSRC = 1 it waits for the pin, a step of the civil offset writes TIME_STEP, and the weekday follows the offset but not the phase;
each write of the weekday or the phase is recorded (R125, R127, R130). -/
def Obligations.TimerAndTidelineWrites : Prop :=
  (∀ (s : State) (m : Master) (n : Fin 16) (w : Word), s.dev.atRest → s.dev.links = [] →
    let d := s.dev
    let mine : Prop := n ≠ 1 ∨ m = .collar ∨ d.mode = 5
    let none_ (t : Dev) : Prop := d.Same t (fun _ => False)
    (¬ mine → Completes (.timerStart m n w) s none_ ∧ Completes (.timerStop m n w) s none_ ∧ Completes (.timerReset m n w) s none_ ∧
      Completes (.timerEnable m n w) s none_ ∧ Completes (.timerCountWrite m n w) s none_ ∧ Completes (.capturePop m n w) s none_) ∧
    (mine → d.admits m (F.TMR_CMD n) →
      let run := if bitsOf w 1 1 = 1 then 0 else if bitsOf w 0 0 = 1 ∧ d.flag (F.TMR_CFG_EN n) = true then 1 else d.get (F.TMR_STAT_RUN n)
      let stays (c : Instr) : Prop := bitsOf w 2 2 = 0 → Completes c s (fun t => t.get (F.TMR_STAT_RUN n) = run ∧ d.Same t (fun a => a = F.TMR_STAT n))
      let resets (c : Instr) : Prop := bitsOf w 2 2 = 1 → n ≠ 1 → Completes c s (fun t =>
        t.reg (F.TMR_CNT n) = 0 ∧ (t.ch n).frac = 0 ∧ t.reg (F.TMR_CMP1 n) = d.shadowRead (F.TMR_CMP1 n) ∧
        t.reg (F.TMR_DIV n) = d.shadowRead (F.TMR_DIV n) ∧
        (n ≠ 0 ∨ d.seqActive = false → t.reg (F.TMR_CMP0 n) = d.shadowRead (F.TMR_CMP0 n)) ∧
        t.get (F.TMR_STAT_RUN n) = run ∧ d.Same t (fun a => F.TMR_CFG n ≤ a ∧ a < F.TMR_CFG n + 32))
      (bitsOf w 1 1 = 1 → stays (.timerStop m n w) ∧ resets (.timerStop m n w)) ∧
      (bitsOf w 0 0 = 1 → stays (.timerStart m n w) ∧ resets (.timerStart m n w)) ∧ resets (.timerReset m n w)) ∧
    (mine → d.admits m (F.TMR_CFG n) → bitsOf w 0 0 ≠ d.get (F.TMR_CFG_EN n) →
      Completes (.timerEnable m n w) s (fun t =>
        t.get (F.TMR_CFG_EN n) = bitsOf w 0 0 ∧ t.get (F.TMR_STAT_RUN n) = bitsOf w 0 0 ∧
        (bitsOf w 0 0 = 1 → t.reg (F.TMR_CMP1 n) = d.shadowRead (F.TMR_CMP1 n)) ∧
        d.Same t (fun a => a = F.TMR_CFG n ∨ a = F.TMR_CMP0 n ∨ a = F.TMR_CMP1 n ∨ a = F.TMR_STAT n))) ∧
    (mine → d.admits m (F.TMR_CNT n) →
      Completes (.timerCountWrite m n w) s (fun t =>
        t.reg (F.TMR_CNT n) = BitVec.ofNat 72 (w.toNat % 2 ^ (if n < 8 then 48 else 32)) ∧ (t.ch n).frac = 0 ∧
        d.Same t (fun a => a = F.TMR_CNT n))) ∧
    (8 ≤ n → Completes (.capturePop m n w) s none_) ∧
    (mine → n < 8 → d.admits m (F.TMR_CAPCTL n) →
      ((d.ch n).queue = [] → Completes (.capturePop m n w) s (fun t => (t.ch n).queue = [] ∧ none_ t)) ∧
      (∀ c q, (d.ch n).queue = c :: q → bitsOf w 8 8 = 1 →
        (bitsOf w 7 0 = c.seq → Completes (.capturePop m n w) s (fun t =>
          (t.ch n).queue = q ∧ t.get (F.TMR_STAT_QN n) = q.length % 8 ∧ d.Same t (fun a => a = F.TMR_CAP n ∨ a = F.TMR_STAT n))) ∧
        (bitsOf w 7 0 ≠ c.seq → Completes (.capturePop m n w) s (fun t => (t.ch n).queue = c :: q ∧ none_ t))))) ∧
  (∀ (s : State) (m : Master) (w : Word), s.dev.atRest → (m = .collar ∨ s.dev.mode = 5) →
    let d := s.dev
    (d.admits m F.TIDE_CTL →
      (bitsOf w 0 0 = 1 → d.flag F.TIDE_CTL_HALTED = false → Completes (.tideHalt m w) s (fun t =>
        t.flag F.TIDE_CTL_HALTED = true ∧ t.flag F.TIDE_CTL_HALT = true ∧ t.tide.haltOld = d.shownSec ∧ t.reg F.TIDE_SEC = d.shownSec ∧
        d.Same t (fun a => a = F.TIDE_CTL ∨ a = F.TIDE_SEC ∨ a = F.TIDE_WDAY ∨ a = F.TIDE_ECORR ∨ a = F.CLK_HFERR))) ∧
      (bitsOf w 0 0 = 1 → d.flag F.TIDE_CTL_HALTED = true → Completes (.tideHalt m w) s (fun t =>
        t.flag F.TIDE_CTL_HALTED = true ∧ t.flag F.TIDE_CTL_HALT = true ∧ t.tide = d.tide ∧ d.Same t (fun a => a = F.TIDE_CTL))) ∧
      (bitsOf w 0 0 = 0 → bitsOf w 20 20 = 0 → d.flag F.TIDE_CTL_HALTED = true → Completes (.tideRelease m w) s (fun t =>
        t.flag F.TIDE_CTL_HALTED = false ∧ t.flag F.TIDE_CTL_HALT = false ∧
        (∃ rest ≤ 512, t.tide.firstStep = some rest) ∧ d.recorded t 0x21 2 ∧ d.SameLogged t (fun a => a = F.TIDE_CTL))) ∧
      (bitsOf w 0 0 = 0 → bitsOf w 20 20 = 0 → d.flag F.TIDE_CTL_HALTED = false → Completes (.tideRelease m w) s (fun t =>
        t.flag F.TIDE_CTL_HALT = false ∧ t.tide = d.tide ∧ d.Same t (fun a => a = F.TIDE_CTL))) ∧
      (bitsOf w 0 0 = 0 → bitsOf w 20 20 = 1 → d.flag F.TIDE_CTL_HALTED = true →
        Completes (.registerWrite m F.TIDE_CTL (BitVec.allOnes 72) w) s (fun t =>
          t.tide.relArmed = true ∧ t.flag F.TIDE_CTL_HALTED = true ∧ t.flag F.TIDE_CTL_HALT = false ∧ d.Same t (fun a => a = F.TIDE_CTL)))) ∧
    (d.admits m F.TIDE_SEC →
      (d.flag F.TIDE_CTL_HALTED = true → Completes (.tideSecWrite m w) s (fun t =>
        t.reg F.TIDE_SEC = (if w.toNat < d.tide.haltOld.toNat then d.tide.haltOld else w) ∧
        d.Same t (fun a => a = F.TIDE_SEC ∨ a = F.TIDE_WDAY))) ∧
      (d.flag F.TIDE_CTL_HALTED = false → Completes (.tideSecWrite m w) s (fun t => d.Same t (fun _ => False)))) ∧
    (d.admits m F.TIDE_CIVOFS → Completes (.civofsWrite m w) s (fun t =>
      t.reg F.TIDE_CIVOFS = w ∧ d.recorded t 0x22 1 ∧
      (d.get F.TIDE_WDAY_WDAY ≤ 6 →
        (t.get F.TIDE_WDAY_WDAY : Int) = (d.get F.TIDE_WDAY_WDAY + (t.dayNumber - d.dayNumber)) % 7) ∧
      d.SameLogged t (fun a => a = F.TIDE_CIVOFS ∨ a = F.TIDE_WDAY))) ∧
    (d.admits m F.TIDE_WDAY →
      let kept (t : Dev) : Prop := d.SameLogged t (fun a => a = F.TIDE_WDAY) ∧ (d.mode ≠ 5 → d.recorded t 0x13 2)
      Completes (.wdayWrite m w) s (fun t =>
        t.get F.TIDE_WDAY_WDAY = min 6 (bitsOf w 2 0) ∧ t.get F.TIDE_WDAY_PHASE = d.get F.TIDE_WDAY_PHASE ∧ kept t) ∧
      Completes (.phaseWrite m w) s (fun t =>
        t.get F.TIDE_WDAY_PHASE = min 86399 (bitsOf w 36 20) ∧ t.get F.TIDE_WDAY_WDAY = d.get F.TIDE_WDAY_WDAY ∧ kept t)))

/-- Writes of PWR_CELL, PWR_CHG and PWR_POOL by a master that may change them: the chemistry and its lock, the refused charger, and the thresholds
clamped against each other in the order TOP, ALMIN, LOW, RESUME, TXMIN (R50, R51, R68). CLK_SLKCMD: OPEN = 1 starts the settling of a window of LEN,
clamped to 20 to 2,000 µs, with VMAIN on the pool; while a window stands, is settling or has just closed, or SYSCLK is not at its source, the request
waits and DEFER shows it; below 2.40 V it waits for the pool. CLOSE = 1 closes a window that an instruction opened and no other, VMAIN goes back to
its source, and the length read back is no longer than it was to be (R42, R113, R114, R115; the length is a free value, log 15). -/
def Obligations.PowerAndSlackWrites : Prop :=
  (∀ (s : State) (m : Master) (w : Word), s.dev.atRest → (m = .collar ∨ s.dev.mode = 5) →
    let d := s.dev
    (d.admits m F.PWR_CELL → Completes (.chemWrite m w) s (fun t =>
      t.get F.PWR_CELL_CHEM = bitsOf w 0 0 ∧ t.flag F.PWR_CELL_LOCK = decide (bitsOf w 0 0 = 0) ∧
      (d.mode ≠ 5 → bitsOf w 0 0 ≠ d.get F.PWR_CELL_CHEM → d.recorded t 0x13 2) ∧ d.SameLogged t (fun _ => False))) ∧
    (d.admits m F.PWR_CHG → Completes (.chargerEnable m w) s (fun t =>
      t.get F.PWR_CHG_EN = bitsOf w 0 0 ∧
      (d.flag F.PWR_CELL_CHEM = false → bitsOf w 0 0 = 1 → t.flag F.PWR_EVT_LOCK_HIT = true ∧ d.recorded t 0x2A 1) ∧
      d.SameLogged t (fun a => a = F.PWR_CHG ∨ a = F.PWR_EVT))) ∧
    (d.admits m F.PWR_POOL → Completes (.pwrPoolWrite m w) s (fun t =>
      let within (lo hi v : Nat) : Nat := max lo (min hi v)
      t.get F.PWR_POOL_TOP = within 24 56 (bitsOf w 35 30) ∧ t.get F.PWR_POOL_ALMIN = within 17 36 (bitsOf w 23 18) ∧
      t.get F.PWR_POOL_LOW = within 17 46 (bitsOf w 17 12) ∧
      t.get F.PWR_POOL_RESUME = within (t.get F.PWR_POOL_LOW + 2) (t.get F.PWR_POOL_TOP) (bitsOf w 11 6) ∧
      t.get F.PWR_POOL_TXMIN = within (t.get F.PWR_POOL_ALMIN) (t.get F.PWR_POOL_TOP) (bitsOf w 29 24) ∧
      d.Same t (fun a => a = F.PWR_POOL)))) ∧
  (∀ (s : State) (m : Master) (w : Word), s.dev.atRest → s.dev.admits m F.CLK_SLKCMD →
    let d := s.dev
    let r : WinReq := ⟨false, max 20 (min 2000 (bitsOf w 11 0))⟩
    let mine : Bool := d.flag F.CLK_SLKSTAT_OPEN && d.flag F.CLK_SLKSTAT_OPENER
    (bitsOf w 12 12 = 1 → (bitsOf w 13 13 = 1 → mine = false) → d.held.contains (2, 0) = false →
      let busy : Prop := d.flag F.CLK_SLKSTAT_OPEN = true ∨ d.slack.opening ≠ none ∨ d.slack.gap = true ∨ d.clockMoving = true
      (busy → Completes (.slackOpenCmd m w) s (fun t =>
        t.slack.waiting = [r] ∧ t.flag F.CLK_SLKSTAT_DEFER = true ∧ d.Same t (fun a => a = F.CLK_SLKSTAT))) ∧
      (¬ busy → d.sup.vpool < 2400 → Completes (.slackOpenCmd m w) s (fun t =>
        t.slack.poolWait = d.slack.poolWait ++ [r] ∧ d.Same t (fun _ => False))) ∧
      (¬ busy → 2400 ≤ d.sup.vpool → Completes (.slackOpenCmd m w) s (fun t =>
        t.slack.opening = some r ∧ t.flag F.CLK_STAT_SPR_HELD = true ∧
        t.flag F.PWR_STAT_SLACK = true ∧ t.get F.PWR_STAT_SRC = 1 ∧ t.sup.savedSrc = d.get F.PWR_STAT_SRC ∧
        d.Same t (fun a => a = F.CLK_STAT)))) ∧
    (bitsOf w 13 13 = 1 → mine = true → d.sup.savedSrc < 4 → Completes (.slackCloseCmd m w) s (fun t =>
        t.flag F.CLK_SLKSTAT_OPEN = false ∧ t.get F.CLK_SLKSTAT_LAST ≤ d.slack.cur.len ∧ t.slack.gap = true ∧
        t.flag F.PWR_STAT_SLACK = false ∧ t.flag F.CLK_STAT_SLACK = false ∧
        t.get F.PWR_STAT_SRC = (if d.sup.savedSrc = 1 then d.standbySrc else d.sup.savedSrc) ∧
        (bitsOf w 12 12 = 0 → t.slack.waiting = []) ∧ (bitsOf w 12 12 = 1 → d.held.contains (2, 0) = false → t.slack.waiting = [r]))) ∧
    (bitsOf w 13 12 = 2 → mine = false → Completes (.slackCloseCmd m w) s (fun t => d.Same t (fun _ => False))))

/-- DBG_CTL from the Collar or the debug port: HALT stops a running Sleeve at its instruction boundary, clearing it lets the Sleeve run on, and a step
executes the one instruction at IA and halts again; the other Sleeve's bit is written as it stood (R193). The step is stated for NOP, MOV, MOVI and
the arithmetic, logic and shift instructions, and for a word that no rule defines, which traps. DBG_WDATA: a
write by the Collar, or by the debug port in SERVICE, sets the register that DBG_WSEL names of a halted or trapped Sleeve and nothing else; of a
running one it sets nothing (R194). -/
def Obligations.DebugControlAndRegisterFile : Prop :=
  (∀ (s : State) (m : Master) (w : Word) (x : Eng), s.dev.atRest → (m = .collar ∨ m = .debug) → s.dev.admits m F.DBG_CTL → x ≠ .collar →
    let d := s.dev
    let k := if x = .left then 0 else 1
    bitsOf w (1 - k) (1 - k) = bitsOf (d.reg F.DBG_CTL) (1 - k) (1 - k) → bitsOf w (5 - k) (5 - k) = 0 →
    let only (t : Dev) : Prop := d.Same t (fun a => a = F.DBG_CTL)
    (bitsOf w k k = 1 → bitsOf w (4 + k) (4 + k) = 0 → d.haltBit x = false → d.runOf x = Run.running →
      Completes (.debugHalt m w) s (fun t => t.runOf x = Run.halted ∧ t.haltBit x = true ∧ only t)) ∧
    (bitsOf w k k = 0 → bitsOf w (4 + k) (4 + k) = 0 → d.haltBit x = true → d.runOf x = Run.halted →
      Completes (.debugRelease m w) s (fun t => t.runOf x = Run.running ∧ t.haltBit x = false ∧ only t)) ∧
    (bitsOf w k k = 1 → bitsOf w (4 + k) (4 + k) = 1 → d.haltBit x = true → d.runOf x = Run.halted →
      fetchSource x ((d.eng x).ia.toNat / 2) = true → d.eccMark (d.fetchWord x) = none →
      let word := d.load (d.fetchWord x)
      let slot1 := (d.eng x).ia.getLsbD 0
      (slot1 = true → bitsOf word 35 30 ≠ 0x03) →
      (∀ op, YOp.decode (halfOf word slot1) (halfOf word true) = some op →
        plainOp op = true →
        Completes (.debugStep m w) s (fun t =>
          t.runOf x = Run.halted ∧ t.eng x = (d.eng x).completeOp op .nothing ∧ (∀ y, y ≠ x → t.eng y = d.eng y) ∧ t.mem = d.mem)) ∧
      (YOp.decode (halfOf word slot1) (halfOf word true) = none →
        Completes (.debugStep m w) s (fun t =>
          t.runOf x = Run.trapped ∧ (∃ r, (t.eng x).trap = some r ∧ r.cause = 0x01 ∧ r.ia = (d.eng x).ia) ∧
          ∀ y, y ≠ x → t.eng y = d.eng y)))) ∧
  (∀ (s : State) (m : Master) (w : Word) (x : Eng), s.dev.atRest → s.dev.admits m F.DBG_WDATA → (m = .collar ∨ (m = .debug ∧ s.dev.mode = 5)) →
    let d := s.dev
    let n := d.get F.DBG_WSEL_REG
    let e := d.eng x
    x = (if d.flag F.DBG_WSEL_ENG then .right else .left) →
    ((d.runOf x = Run.halted ∨ d.runOf x = Run.trapped) → Completes (.regFileWrite m w) s (fun t =>
      d.SameBut t x (fun _ => False) ∧
      (∀ r : WReg, n = r.val → t.eng x = { e with w := e.w.set r w }) ∧
      (n = 16 → t.eng x = { e with acca := BitVec.ofNat 144 (e.acca.toNat / 2 ^ 72 * 2 ^ 72 + w.toNat) }) ∧
      (n = 17 → t.eng x = { e with acca := BitVec.ofNat 144 (w.toNat * 2 ^ 72 + e.acca.toNat % 2 ^ 72) }) ∧
      (n = 18 → t.eng x = { e with accb := BitVec.ofNat 144 (e.accb.toNat / 2 ^ 72 * 2 ^ 72 + w.toNat) }) ∧
      (n = 19 → t.eng x = { e with accb := BitVec.ofNat 144 (w.toNat * 2 ^ 72 + e.accb.toNat % 2 ^ 72) }) ∧
      (n = 20 → t.eng x = { e with fl := ⟨w.getLsbD 0, w.getLsbD 1, w.getLsbD 2, w.getLsbD 3, w.getLsbD 4⟩ }) ∧
      (n = 21 → t.eng x = { e with ia := BitVec.ofNat 21 w.toNat }))) ∧
    (d.runOf x ≠ Run.halted → d.runOf x ≠ Run.trapped → Completes (.regFileWrite m w) s (fun t =>
      t.eng x = e ∧ d.SameBut t x (fun _ => False))))

/-- A region-table entry by the Collar, or by any master in SERVICE: its fields as written, base and limit no further than 767; where it would grant
writing on a granule that the other Sleeve's table grants writing on, it is stored without W and WCLR is set, but not in PAIRED; another master's
write outside SERVICE changes nothing (R8, R9, R174, R184). -/
def Obligations.RegionTableKeepsWritesApart : Prop :=
  ∀ (s : State) (m : Master) (right : Bool) (i : Fin 8) (w : Word), s.dev.atRest →
    let d := s.dev
    let a := if right then F.SYS_RGNR i else F.SYS_RGNL i
    let other (k : Nat) : Word := d.reg (if right then F.SYS_RGNL k else F.SYS_RGNR k)
    let grants (v : Word) (g : Nat) : Prop := bitsOf v 35 35 = 1 ∧ bitsOf v 34 34 = 1 ∧ bitsOf v 9 0 ≤ g ∧ g ≤ bitsOf v 29 20
    let meets : Prop := d.paired = false ∧ bitsOf w 35 34 = 3 ∧
      ∃ g ≤ min 767 (bitsOf w 29 20), min 767 (bitsOf w 9 0) ≤ g ∧ ∃ k < 8, grants (other k) g
    let shows (v : Word) (wr : Nat) : Prop :=
      bitsOf v 35 35 = bitsOf w 35 35 ∧ bitsOf v 34 34 = wr ∧ bitsOf v 33 33 = bitsOf w 33 33 ∧ bitsOf v 29 20 = min 767 (bitsOf w 29 20) ∧
      bitsOf v 9 0 = min 767 (bitsOf w 9 0)
    ((m = .collar ∨ d.mode = 5) → d.admits m a →
      (¬ meets → Completes (.regionWrite m right i w) s (fun t =>
        shows (t.reg a) (bitsOf w 34 34) ∧ d.Same t (fun x => x = a))) ∧
      (meets → Completes (.regionWrite m right i w) s (fun t =>
        shows (t.reg a) 0 ∧ t.flag F.SYS_RGNSTAT_WCLR = true ∧ d.Same t (fun x => x = a ∨ x = F.SYS_RGNSTAT)))) ∧
    (m ≠ .collar → d.mode ≠ 5 → exec (.regionWrite m right i w) s = .next s)

/-- A write to a routing register is an ARM of that input, input 0 apart: the source and the connection as written, the count and OVF cleared, nothing
else changed; input 0 stays on CYCLE; the Collar's inputs take it from the Collar, and from the ports in SERVICE; a Sleeve's write is ignored (R8, R9,
R290, R293). EVT_SWSET raises each software source that the word names once: an input
routed to one of them counts one more, no further than 3, every other count stays (R287, R289). -/
def Obligations.RouteAndSoftwareEventWrites : Prop :=
  (∀ (s : State) (m : Master) (x : Eng) (i : Fin 32) (w : Word), s.dev.atRest → i.val < inputsN x →
    let sleeve : Prop := m = .sleeveL ∨ m = .sleeveR
    let takes : Prop := x ≠ .collar ∨ m = .collar ∨ s.dev.mode = 5
    (¬ sleeve → takes → s.dev.admits m (routeReg x i) → s.dev.paired = false →
      Completes (.routeWrite m x i w) s (fun t =>
        t.reg (routeReg x i) = (if i.val = 0 then 0 else BitVec.ofNat 72 (bitsOf w 13 13 * 2 ^ 13 + bitsOf w 5 0)) ∧ t.pendCount x i = 0 ∧
        bitsOf (t.reg (ovfReg x)) i i = 0 ∧ (∀ y k, k < inputsN y → ¬ (y = x ∧ k = i.val) → t.pendCount y k = s.dev.pendCount y k) ∧
        s.dev.Same t (fun a => a = routeReg x i))) ∧
    ((sleeve ∨ ¬ takes) → exec (.routeWrite m x i w) s = .next s)) ∧
  (∀ (s : State) (m : Master) (w : Word), s.dev.atRest → s.dev.admits m F.EVT_SWSET → s.dev.paired = false →
    Completes (.swEventSet m w) s (fun t =>
      (∀ (x : Eng) (i : Nat), i < inputsN x →
        ((∃ n < 8, w.getLsbD n = true ∧ routedTo (s.dev.reg (routeReg x i)) (54 + n) = true) →
          t.pendCount x i = min 3 (s.dev.pendCount x i + 1)) ∧
        ((∀ n < 8, w.getLsbD n = true → routedTo (s.dev.reg (routeReg x i)) (54 + n) = false) → t.pendCount x i = s.dev.pendCount x i)) ∧
      s.dev.Same t (fun _ => False)))

/-- The five SEAM_CMD commands: CLAIM of a free block, GIVE of an own one, QUERY, and the Collar's REVERT and SETHOME; each reports RESULT, DONE and
the record after it. With another XSEQ the first four change no record and report 2; CLAIM of an owned block and GIVE of another's report 1; REVERT
and SETHOME of another master, and every command of a partner, report 3; a Sleeve's store is ignored (R274, R281, R282; a partner's RESULT is the
model's choice, log 64; in PAIRED a block on its way to SLEEVE_R goes to SLEEVE_L, log 106). GIVE to LABEL by the Collar with FULL = 1 is stated with
the instruction GIVE. The quiesce handshake: REQ holds a legal target, which accepts nothing from then on, or waits for the one in progress, and an
illegal target is not taken; when its work is over HELD and DONE show it; RELEASE puts every register that is wholly the target's at its reset value,
the zero offset of a path apart, which is loaded again, and lets the target go. The registers of other blocks stay, the handshake's own and the Seam
records of owners that lose their blocks apart (R283 to R286, R326). -/
def Obligations.SeamAndQuiesceCommands : Prop :=
  (∀ (s : State) (m : Master) (w : Word), s.dev.atRest → s.dev.admits m F.SEAM_CMD → (m = .collar ∨ m = .host ∨ m = .debug) →
    let d := s.dev
    let b := bitsOf w 31 24
    let me := if m = .collar then Own.collar else Own.host
    let same := d.get (F.SEAM_REC_SEQ b) = bitsOf w 23 16
    let reports (t : Dev) (n : Nat) : Prop :=
      t.get F.SEAM_CMDRES_RESULT = n ∧ t.flag F.SEAM_CMDRES_DONE = true ∧ t.get F.SEAM_CMDRES_IMAGE = (t.reg (F.SEAM_REC b)).toNat % 2 ^ 32 ∧
      d.Same t (fun a => a = F.SEAM_REC b ∨ a = F.SEAM_CMDRES)
    let keeps (t : Dev) (n : Nat) : Prop := reports t n ∧ t.reg (F.SEAM_REC b) = d.reg (F.SEAM_REC b)
    let up (t : Dev) : Prop := t.get (F.SEAM_REC_SEQ b) = (d.get (F.SEAM_REC_SEQ b) + 1) % 256
    let code (n : Nat) : Nat := if 10 ≤ n ∧ n ≤ 14 then 15 else n
    let dest (n : Nat) : Nat := if d.paired = true ∧ n = Own.sleeveR then Own.sleeveL else n
    (bitsOf w 2 0 = 1 → same → d.owner b = Own.none → Completes (.seamClaim m w) s (fun t =>
      reports t 0 ∧ t.owner b = me ∧ t.full b = false ∧ t.flag (F.SEAM_REC_STALE b) = false ∧ up t)) ∧
    (bitsOf w 2 0 = 1 → same → d.owner b ≠ Own.none → Completes (.seamClaim m w) s (fun t => keeps t 1)) ∧
    (bitsOf w 2 0 = 2 → same → d.owner b = me → ¬ (m = .collar ∧ bitsOf w 11 8 = Own.label ∧ bitsOf w 34 34 = 1) →
      let n := dest (code (bitsOf w 11 8))
      Completes (.seamGive m w) s (fun t =>
        reports t 0 ∧ t.owner b = n ∧ t.full b = decide (bitsOf w 34 34 = 1) ∧ t.flag (F.SEAM_REC_STALE b) = false ∧ up t ∧
        t.revertDue = d.revertDue ++ if d.heldOwner n then [b] else [])) ∧
    (bitsOf w 2 0 = 2 → same → d.owner b ≠ me → Completes (.seamGive m w) s (fun t => keeps t 1)) ∧
    (bitsOf w 2 0 = 3 → same → Completes (.seamQuery m w) s (fun t => keeps t 0)) ∧
    (bitsOf w 2 0 = 4 → m = .collar → same → Completes (.seamRevert m w) s (fun t =>
      reports t 0 ∧ t.owner b = (if dest (d.home b) = d.owner b then Own.none else dest (d.home b)) ∧ t.flag (F.SEAM_REC_STALE b) = true ∧ up t)) ∧
    (bitsOf w 2 0 = 5 → m = .collar → Completes (.seamSethome m w) s (fun t =>
      reports t 0 ∧ t.home b = code (bitsOf w 39 36) ∧ t.priv b = decide (bitsOf w 35 35 = 1) ∧ t.owner b = d.owner b)) ∧
    (m ≠ .collar → (bitsOf w 2 0 = 4 → Completes (.seamRevert m w) s (fun t => keeps t 3)) ∧
      (bitsOf w 2 0 = 5 → Completes (.seamSethome m w) s (fun t => keeps t 3))) ∧
    (¬ same → (bitsOf w 2 0 = 1 → Completes (.seamClaim m w) s (fun t => keeps t 2)) ∧
      (bitsOf w 2 0 = 2 → Completes (.seamGive m w) s (fun t => keeps t 2)) ∧
      (bitsOf w 2 0 = 3 → Completes (.seamQuery m w) s (fun t => keeps t 2)) ∧
      (bitsOf w 2 0 = 4 → m = .collar → Completes (.seamRevert m w) s (fun t => keeps t 2)))) ∧
  (∀ (s : State) (m : Master) (w : Word), s.dev.atRest → s.dev.admits m F.SEAM_CMD →
    let d := s.dev
    let b := bitsOf w 31 24
    let refused (t : Dev) : Prop := t.get F.SEAM_CMDRES_RESULT = 3 ∧ t.flag F.SEAM_CMDRES_DONE = true ∧ t.reg (F.SEAM_REC b) = d.reg (F.SEAM_REC b) ∧
      d.Same t (fun a => a = F.SEAM_CMDRES)
    (∀ n, (m = .loop ∨ m = .radio n) →
      (bitsOf w 2 0 = 1 → Completes (.seamClaim m w) s refused) ∧ (bitsOf w 2 0 = 2 → Completes (.seamGive m w) s refused) ∧
      (bitsOf w 2 0 = 3 → Completes (.seamQuery m w) s refused) ∧ (bitsOf w 2 0 = 4 → Completes (.seamRevert m w) s refused) ∧
      (bitsOf w 2 0 = 5 → Completes (.seamSethome m w) s refused)) ∧
    ((m = .sleeveL ∨ m = .sleeveR) →
      exec (.seamClaim m w) s = .next s ∧ exec (.seamGive m w) s = .next s ∧ exec (.seamQuery m w) s = .next s ∧
      exec (.seamRevert m w) s = .next s ∧ exec (.seamSethome m w) s = .next s)) ∧
  (∀ (s : State) (m : Master) (w : Word), s.dev.atRest → s.dev.admits m F.SEAM_QCTL →
    let d := s.dev
    let t0 := bitsOf w 12 8
    let u := unitOf t0 (bitsOf w 6 5)
    (m = .collar ∨ d.mode = 5 ∨ m = .debug ∧ (t0 = 24 ∨ t0 = 25)) →
    (quiesceOk t0 = false → bitsOf w 1 0 = 1 → Completes (.quiesceRequest m w) s (fun t =>
      t.held = d.held ∧ t.quiesce = d.quiesce ∧ t.get F.SEAM_QCTL_TARGET = 31 ∧ d.Same t (fun a => a = F.SEAM_QCTL))) ∧
    (quiesceOk t0 = true →
    (bitsOf w 1 0 = 1 → d.held.contains (t0, u) = false → d.quiesce.now ≠ none → Completes (.quiesceRequest m w) s (fun t =>
      t.held = d.held ∧ t.quiesce.now = d.quiesce.now ∧ t.quiesce.wait = d.quiesce.wait ++ [(t0, u)] ∧ d.Same t (fun a => a = F.SEAM_QCTL))) ∧
    (bitsOf w 1 0 = 1 → d.held = [] → d.quiesce = ⟨none, []⟩ → Completes (.quiesceRequest m w) s (fun t =>
      t.held = [(t0, u)] ∧ t.quiesce.now = some (t0, u) ∧ t.flag F.SEAM_QSTAT_BUSY = true ∧ t.flag F.SEAM_QSTAT_HELD = false ∧
      t.get F.SEAM_QSTAT_LASTTGT = u * 32 + t0 ∧ d.Same t (fun a => a = F.SEAM_QSTAT ∨ a = F.SEAM_QCTL))) ∧
    (d.quiesce = ⟨some (t0, u), []⟩ → d.held = [(t0, u)] → Completes .quiesceComplete s (fun t =>
      t.held = [(t0, u)] ∧ t.quiesce.now = none ∧ t.flag F.SEAM_QSTAT_BUSY = false ∧ t.flag F.SEAM_QSTAT_HELD = true ∧
      t.flag F.SEAM_QSTAT_DONE = true ∧ (t0 = 24 → t.runOf .left = Run.stopped) ∧ (t0 = 25 → t.runOf .right = Run.stopped) ∧
      (t0 = 7 → (t.tdc u).queue = []))) ∧
    (bitsOf w 1 0 = 2 → d.held = [(t0, u)] → d.quiesce = ⟨none, []⟩ → Completes (.quiesceRelease m w) s (fun t =>
      t.held = [] ∧ t.flag F.SEAM_QSTAT_HELD = false ∧ t.flag F.SEAM_QSTAT_DONE = true ∧
      (∀ a ∈ blockRegs t0, a ∉ settledAddrs → unitMask t0 u a = BitVec.allOnes 72 → ¬ (t0 = 8 ∧ a = F.USF_ZOFS u) → t.reg a = resetWord a) ∧
      (∀ a, a ∉ settledAddrs → a ∉ blockRegs t0 → a ≠ F.SEAM_QSTAT → a ≠ F.SEAM_QCTL → t.reg a = d.reg a) ∧ t.mem = d.mem))))

/-- Requests written to the front end. TDCu_JOB with GO joins the queue of the unit, or of its twin where the unit is held, with the fields of the word,
or is FULL or UNAVAILABLE; one whose requester does not own the block is over at its turn, fires nothing and is counted (R278, R307, R312). USF_REQ and
ADC_REQ: the same answers as SHOT and CONV; a port's request needs another TAG than the one that port queued last, and with the same TAG nothing
happens (R319, R320, R338). USF_REQ is stated queued for a block that the requester owns. -/
def Obligations.FrontEndRequests : Prop :=
  ∀ (s : State) (m : Master) (w : Word), s.dev.atRest → s.dev.masterUp m = true → s.dev.orders = [] →
    let d := s.dev
    let who := Master.own m
    let port : Option Nat := if m = .host then some 0 else if m = .debug then some 1 else none
    (∀ u : Fin 2, d.pend (F.TDC_JOB u) = ⟨0, 0⟩ → bitsOf w 0 0 = 1 →
      let b := bitsOf w 55 48
      let job (n : Nat) (p : Nat → Prop) (P : Dev → Prop) : Prop := Completes (.tdcJobWrite m u w) s (fun t =>
        t.get (F.TDC_JOBRES_RESULT u) = n ∧ P t ∧ d.Same t (fun a => a = F.TDC_JOBRES u ∨ p a))
      ((∀ v, ¬ d.servesTdc u v) → job 2 (fun _ => False) (fun t => t.usf.queue = d.usf.queue)) ∧
      (∀ v, d.servesTdc u v →
        (8 ≤ (d.tdc v).queue.length → job 1 (fun _ => False) (fun t => (t.tdc v).queue = (d.tdc v).queue)) ∧
        ((d.tdc v).queue.length < 8 → d.headsSound → d.owner b = who → job 0 (fun a => a = F.SEAM_REC b) (fun t =>
          t.owner b = Own.tdc ∧ ∃ j, (t.tdc v).queue = (d.tdc v).queue ++ [j] ∧ j.block = b ∧ j.n = max 1 (bitsOf w 47 32) ∧
          j.list = decide (bitsOf w 30 30 = 1) ∧ j.win = decide (bitsOf w 29 29 = 1) ∧ j.stopFall = decide (bitsOf w 28 28 = 1) ∧
          j.startFall = decide (bitsOf w 27 27 = 1) ∧ j.stopSrc = (if bitsOf w 26 26 = 1 then .extref else .tp (bitsOf w 23 20)) ∧
          j.startSrc = (if bitsOf w 25 25 = 1 then .extref else .tp (bitsOf w 19 16)) ∧ j.who = who ∧ j.tries = 0 ∧
          j.redirect = decide (v ≠ u.val))) ∧
        ((d.tdc v).queue = [] → d.owner b ≠ who → job 0 (fun _ => False) (fun t =>
          (t.tdc v).queue = [] ∧ t.get F.SEAM_STAT_ORPHN = min 255 (d.get F.SEAM_STAT_ORPHN + 1) ∧
          (d.paired = false → d.raisedOnly t (Ev.tdcDone v) 1))))) ∧
    (d.heldMask F.USF_REQ = 0 → d.pend F.USF_REQ = ⟨0, 0⟩ → let q := usfWord w
      let fresh : Prop := ∀ k, port = some k → d.usfTag k ≠ some q.tag
      let shows (n : Nat) (p : Nat → Prop) (P : Dev → Prop) : Prop := Completes (.usfRequest m w) s (fun t =>
        t.get F.USF_REQRES_RESULT = n ∧ P t ∧ t.get F.USF_REQRES_TAG = (if n = 0 ∧ port ≠ none then q.tag else d.get F.USF_REQRES_TAG) ∧
        (∀ k, port = some k → t.usfTag k = if n = 0 then some q.tag else d.usfTag k) ∧ d.Same t (fun a => a = F.USF_REQRES ∨ p a))
      (¬ fresh → Completes (.usfRequest m w) s (fun t => t.usf = d.usf ∧ d.Same t (fun _ => False))) ∧
      (fresh → ¬ d.usfServed q → shows 2 (fun _ => False) (fun t => t.usf.queue = d.usf.queue)) ∧
      (fresh → d.usfServed q → d.usfFull q → shows 1 (fun _ => False) (fun t => t.usf.queue = d.usf.queue)) ∧
      (fresh → d.usfServed q → ¬ d.usfFull q → d.headsSound → d.owner q.block = who →
        shows 0 (fun a => a = F.SEAM_REC q.block) (fun t => d.joinedUsf t who q))) ∧
    (d.heldMask F.ADC_REQ = 0 → d.pend F.ADC_REQ = ⟨0, 0⟩ → let q := adcWord w
      let fresh : Prop := ∀ k, port = some k → d.adcTag k ≠ some q.tag
      let shows (n : Nat) (p : Nat → Prop) (P : Dev → Prop) : Prop := Completes (.adcRequest m w) s (fun t =>
        t.get F.ADC_REQRES_RESULT = n ∧ P t ∧ t.get F.ADC_REQRES_TAG = (if n = 0 ∧ port ≠ none then q.tag else d.get F.ADC_REQRES_TAG) ∧
        (∀ k, port = some k → t.adcTag k = if n = 0 then some q.tag else d.adcTag k) ∧ d.Same t (fun a => a = F.ADC_REQRES ∨ p a))
      (¬ fresh → Completes (.adcRequest m w) s (fun t => t.adc = d.adc ∧ d.Same t (fun _ => False))) ∧
      (fresh → ¬ d.adcServed q → shows 2 (fun _ => False) (fun t => t.adc.queue = d.adc.queue)) ∧
      (fresh → d.adcServed q → 8 ≤ d.adc.queue.length → shows 1 (fun _ => False) (fun t => t.adc.queue = d.adc.queue)) ∧
      (fresh → d.adcServed q → d.adc.queue.length < 8 → shows 0 (fun a => a = F.SEAM_REC q.block) (fun t => d.joinedAdc t who q)))

/-- Commands of SERVICE: a mask in USF_ZCTL starts zero-flow learning of those paths for NZ windows; CLAIM in LBL_CMD stays for the next boundary; RUN
in BIST_CMD asks for a full pass of the item, and of the reserved item 17 it asks for nothing (R327, R487, R493). -/
def Obligations.ServiceModeCommands : Prop :=
  ∀ (s : State) (m : Master) (w : Word), s.dev.atRest → s.dev.mode = 5 →
    let d := s.dev
    (d.admits m F.USF_ZCTL → bitsOf w 3 0 ≠ 0 → Completes (.zeroLearnStart m w) s (fun t =>
      t.usf.zMask = bitsOf w 3 0 ∧ t.usf.zw = [] ∧ t.usf.zLeft = t.get F.USF_ZCTL_NZ ∧ t.get F.USF_ZCTL_STAT = 1 ∧
      t.get F.USF_ZCTL_MASK = bitsOf w 3 0 ∧ d.Same t (fun a => a = F.USF_ZCTL))) ∧
    (d.admits m F.LBL_CMD → bitsOf w 0 0 = 1 → Completes (.labelClaim m w) s (fun t =>
      t.flag F.LBL_CMD_CLAIM = true ∧ d.Same t (fun a => a = F.LBL_CMD))) ∧
    (d.admits m F.BIST_CMD → bitsOf w 0 0 = 1 → bitsOf w 12 8 < 17 → Completes (.bistRunCmd m w) s (fun t =>
      t.flag F.BIST_CMD_RUN = true ∧ t.get F.BIST_CMD_ITEM = bitsOf w 12 8 ∧ t.bist.cmd = some (bitsOf w 12 8, bistSlices (bitsOf w 12 8)) ∧
      (t.bitem (bitsOf w 12 8)).next = 0 ∧ d.Same t (fun a => a = F.BIST_CMD))) ∧
    (d.admits m F.BIST_CMD → bitsOf w 0 0 = 1 → bitsOf w 12 8 = 17 → Completes (.bistRunCmd m w) s (fun t =>
      t.flag F.BIST_CMD_RUN = false ∧ t.bist.cmd = d.bist.cmd ∧ d.Same t (fun a => a = F.BIST_CMD)))

/-! ## Events of the timers, the clock, the Tideline and the supplies -/

/-- A running channel's counter takes its source steps: at a match M0 and its event, at an own-match reset the remainder and the preloads, at an overflow
OVF and the excess; an edge of the count source adds INC; a link action acts on its target, on a sleeping bus channel it is latched, on T0 and T1 it sets
LINKIGN; an edge or a raised source that a capture input selects puts the counter into the queue, or is lost when that is full, and one that none selects
does nothing (R133, R136 to R141, R145 to R148, R151, R156). No block is held; the match clauses are stated for CMP0 alone and one run of steps that ends with
the match or overflow. -/
def Obligations.TimerEvents : Prop :=
  (∀ (s : State) (n pin : Fin 16) (steps pos : Nat) (rising : Bool), s.dev.atRest → s.dev.held = [] → s.dev.paired = false → (s.dev.ch n).frac < 2 ^ 32 →
    let d := s.dev
    let width := if n < 8 then 48 else 32
    let c0 := bitsOf (d.reg (F.TMR_CMP0 n)) (width - 1) 0
    let v0 := d.tmrCount n * 2 ^ 32 + (d.ch n).frac
    let add := (if d.onSysclk n then d.profileAt pos else d).stepAdd n pos
    let v := v0 + steps * add
    let at_ (t : Dev) (x : Nat) : Prop := t.tmrCount n = x / 2 ^ 32 ∧ (t.ch n).frac = x % 2 ^ 32
    let inChannel (a : Nat) : Prop := F.TMR_CFG n ≤ a ∧ a < F.TMR_CFG n + 32
    let stepped (a : Nat) : Prop := inChannel a ∨ a = F.CLK_MEAN
    (d.flag (F.TMR_STAT_RUN n) = true → d.frozen n = false → d.busAsleep n = false → n ≠ 1 → (n = 0 → d.seqActive = false) →
      bitsOf (d.reg (F.TMR_CMP1 n)) (width - 1) 0 = 0 → d.links = [] →
      (0 < steps → d.tmrCount n < c0 → v0 + (steps - 1) * add < c0 * 2 ^ 32 → c0 * 2 ^ 32 ≤ v → v < 2 ^ (width + 32) → d.get (F.TMR_ACT_M0L n) = 0 →
        (d.get (F.TMR_ACT_M0S n) = 0 → Completes (.timerMatch n [(steps, pos)]) s (fun t =>
          at_ t v ∧ t.flag (F.TMR_STAT_M0 n) = true ∧ d.raisedOnly t (Ev.tmr n) (d.get (F.TMR_CFG_M0E n)) ∧ d.Same t stepped)) ∧
        (d.get (F.TMR_ACT_M0S n) = 1 → Completes (.timerMatch n [(steps, pos)]) s (fun t =>
          at_ t (v % (c0 * 2 ^ 32)) ∧ t.reg (F.TMR_CMP1 n) = d.shadowRead (F.TMR_CMP1 n) ∧ t.flag (F.TMR_STAT_M0 n) = true ∧ d.Same t stepped))) ∧
      (0 < steps → c0 = 0 → v0 + (steps - 1) * add < 2 ^ (width + 32) → 2 ^ (width + 32) ≤ v → v < 2 * 2 ^ (width + 32) →
        d.get (F.TMR_ACT_OVL n) = 0 → d.get (F.TMR_ACT_OVS n) = 0 →
        Completes (.timerOverflow n [(steps, pos)]) s (fun t =>
          at_ t (v - 2 ^ (width + 32)) ∧ t.flag (F.TMR_STAT_OVF n) = true ∧ t.reg (F.TMR_CMP1 n) = d.shadowRead (F.TMR_CMP1 n) ∧
          d.raisedOnly t (Ev.tmr n) (d.get (F.TMR_CFG_OVFE n)) ∧ d.Same t stepped)) ∧
      (n < 8 → d.pads.lost = false →
        (d.get (F.TMR_CFG_SRC n) = 3 ∨ (d.get (F.TMR_CFG_SRC n) = 2 ∧ d.flag F.CLK_STAT_XREF_OK = true ∧ d.get F.CLK_STAT_SRC ≠ 0)) → c0 = 0 →
        v0 + d.stepAdd n 0 < 2 ^ (width + 32) → Completes (.timerCountEdge n) s (fun t => at_ t (v0 + d.stepAdd n 0) ∧ d.Same t inChannel))) ∧
    (∀ act, d.links = [⟨n, act⟩] → Completes .linkAction s (fun t =>
      t.links = [] ∧ d.Same t inChannel ∧
      (n < 2 → t.flag (F.TMR_STAT_LINKIGN n) = true) ∧
      (d.busAsleep n = true → (act = 1 → (t.ch n).latReset = true) ∧ (act = 2 → (t.ch n).latStop = true) ∧ (act = 3 → (t.ch n).latStart = true)) ∧
      (2 ≤ n → d.busAsleep n = false →
        (act = 1 → t.reg (F.TMR_CNT n) = 0) ∧ (act = 2 → t.flag (F.TMR_STAT_RUN n) = false) ∧
        (act = 3 → d.flag (F.TMR_CFG_EN n) = true → t.flag (F.TMR_STAT_RUN n) = true)))) ∧
    (d.capAPin n pin rising = false → d.capBPin n pin rising = false →
      Completes (.timerCapture n pin rising) s (fun t => t.tmr = d.tmr ∧ d.Same t (fun _ => False)) ∧
      Completes (.busCapture n pin rising) s (fun t => t.tmr = d.tmr ∧ d.Same t (fun _ => False))) ∧
    (d.pads.lost = false → d.get (F.TMR_CAPSEL_CAPA n) = 64 + pin →
      (d.get (F.TMR_CAPSEL_EDGEA n) = 2 ∨ d.get (F.TMR_CAPSEL_EDGEA n) = (if rising then 0 else 1)) →
      (n < 8 → d.capBPin n pin rising = false →
        ((d.ch n).queue.length < 4 → Completes (.timerCapture n pin rising) s (fun t =>
          (∃ c, (t.ch n).queue = (d.ch n).queue ++ [c] ∧ c.count = d.tmrCount n ∧ c.seq = (d.ch n).nextSeq ∧
            c.tag = (if d.get F.CLK_STAT_SRC = 0 then 2 else 0) + (if (d.ch n).wrapped then 4 else 0)) ∧
          d.raisedOnly t (Ev.tmr n) (d.get (F.TMR_CFG_CAPE n)) ∧ d.Same t inChannel)) ∧
        (4 ≤ (d.ch n).queue.length → Completes (.timerCapture n pin rising) s (fun t =>
          (t.ch n).queue = (d.ch n).queue ∧ t.flag (F.TMR_STAT_OVR n) = true ∧
          t.get (F.TMR_STAT_LOST n) = min 255 (d.get (F.TMR_STAT_LOST n) + 1)))) ∧
      (8 ≤ n → d.busAsleep n = false → Completes (.busCapture n pin rising) s (fun t =>
        t.reg (F.TMR_CAP n) = BitVec.ofNat 72 (d.tmrCount n) ∧ t.flag (F.TMR_STAT_CAPV n) = true ∧
        (d.flag (F.TMR_STAT_CAPV n) = true → t.flag (F.TMR_STAT_OVR n) = true) ∧
        d.raisedOnly t (Ev.tmr n) (d.get (F.TMR_CFG_CAPE n)) ∧ d.Same t inChannel)))) ∧
  (∀ (s : State) (m : Master) (n k : Fin 8), s.dev.calm = true → s.dev.settle = s.dev → Store.wf resetWord s.dev.regs = true → s.dev.held = [] →
    s.dev.paired = false → s.dev.admits m F.EVT_SWSET →
    let d := s.dev
    d.get (F.TMR_CAPSEL_CAPA n) = 54 + k → 64 ≤ d.get (F.TMR_CAPSEL_CAPB n) →
    (∀ j < 16, j ≠ n.val → 64 ≤ d.get (F.TMR_CAPSEL_CAPA j) ∧ 64 ≤ d.get (F.TMR_CAPSEL_CAPB j)) → d.flag (F.TMR_CFG_CAPE n) = false →
    (d.ch n).queue.length < 4 → Completes (.swEventSet m (BitVec.ofNat 72 (2 ^ k.val))) s (fun t =>
      ∃ c, (t.ch n).queue = (d.ch n).queue ++ [c] ∧ c.count = d.tmrCount n ∧ c.seq = (d.ch n).nextSeq))

/-- A slack-water window from request to close: a request settles, waits for the pool or is deferred, the window opens after settling, or goes back to
wait where the pool has sunk below 2.40 V, it closes after its length or is cut by the pool at 2.25 V, and requests that waited for the pool or the gap
start. No scheduled transmit slot meets a window of T0's (R23, R113, R114, R115). -/
def Obligations.WindowEvents : Prop :=
  ∀ (s : State) (len us vpool k cam cbm : Nat) (t0 : Bool), s.dev.held.contains (2, 0) = false →
    let d := s.dev
    let clamped := max 20 (min 2000 len)
    let clear (r : WinReq) : Prop := r.t0 = true → ∀ n, d.txSlotIn n = false
    (d.atRest → d.windowFree →
      Completes (.slackRequest t0 len none) s (fun t =>
        t.slack.opening = some ⟨t0, clamped⟩ ∧ t.flag F.CLK_STAT_SPR_HELD = true ∧ t.flag F.PWR_STAT_SLACK = true ∧ t.get F.PWR_STAT_SRC = 1 ∧
        t.sup.savedSrc = d.get F.PWR_STAT_SRC ∧ d.Same t (fun a => a = F.CLK_STAT)) ∧
      (∀ other, Completes (.slackRequest t0 len (some other)) s (fun t =>
        t.slack.opening = some ⟨true, max clamped (max 20 (min 2000 other))⟩ ∧ d.Same t (fun a => a = F.CLK_STAT)))) ∧
    (d.atRest → d.asleep = false → d.flag F.CLK_SLKSTAT_OPEN = true → Completes (.slackRequest t0 len none) s (fun t =>
      t.slack.waiting = [⟨t0, clamped⟩] ∧ t.flag F.CLK_SLKSTAT_DEFER = true ∧ d.Same t (fun a => a = F.CLK_SLKSTAT))) ∧
    (∀ r, d.atRest → d.slack.opening = some r →
      (2400 ≤ d.sup.vpool → Completes (.slackOpen k cam cbm) s (fun t =>
        t.flag F.CLK_SLKSTAT_OPEN = true ∧ t.flag F.CLK_SLKSTAT_OPENER = (!r.t0) ∧ t.slack.opening = none ∧ t.slack.cur = r ∧
        t.flag F.CLK_STAT_SLACK = true ∧ t.get F.CLK_SLKSTAT_COUNT = (d.get F.CLK_SLKSTAT_COUNT + 1) % 65536)) ∧
      (d.sup.vpool < 2400 → d.sup.savedSrc = 0 → Completes (.slackOpen k cam cbm) s (fun t =>
        t.slack.opening = none ∧ t.slack.poolWait = d.slack.poolWait ++ [r] ∧ t.flag F.CLK_STAT_SPR_HELD = false ∧
        t.flag F.PWR_STAT_SLACK = false ∧ t.get F.PWR_STAT_SRC = 0 ∧ d.Same t (fun a => a = F.CLK_STAT)))) ∧
    (d.atRest → d.flag F.CLK_SLKSTAT_OPEN = true → d.slack.cur.len ≤ 2000 →
      Completes .slackClose s (fun t =>
        t.flag F.CLK_SLKSTAT_OPEN = false ∧ t.get F.CLK_SLKSTAT_LAST = d.slack.cur.len ∧ t.flag F.CLK_STAT_SLACK = false ∧
        t.flag F.CLK_STAT_SPR_HELD = false ∧ t.flag F.PWR_STAT_SLACK = false ∧ t.slack.gap = true) ∧
      (vpool ≤ 2250 → Completes (.slackCut vpool us) s (fun t =>
        t.flag F.CLK_SLKSTAT_OPEN = false ∧ t.flag F.CLK_SLKSTAT_CUT = true ∧ t.get F.CLK_SLKSTAT_LAST = min us d.slack.cur.len ∧
        t.slack.gap = true ∧ t.sup.vpool = vpool))) ∧
    (d.atRest → vpool < 2400 → Completes (.slackPoolRecovered vpool) s (fun t =>
      t.sup.vpool = vpool ∧ t.slack = d.slack ∧ d.Same t (fun _ => False))) ∧
    (d.atRest → d.flag F.CLK_SLKSTAT_OPEN = false → Completes .slackGapEnd s (fun t => t.slack.gap = false ∧ d.Same t (fun _ => False))) ∧
    (∀ r, d.stepDue = [] → d.col.bndDue = false → d.busHeld = false → d.loop.sending = none → d.flag F.CLK_SLKSTAT_OPEN = false →
      d.slack.opening = none → d.clockMoving = false → clear r →
      (d.slack.gap = false → d.slack.waiting = [] → d.slack.poolWait = [r] → 2400 ≤ vpool → Completes (.slackPoolRecovered vpool) s (fun t =>
        t.slack.opening = some ⟨r.t0, max 20 (min 2000 r.len)⟩ ∧ t.slack.poolWait = [])) ∧
      (d.slack.waiting = [r] → 2400 ≤ d.sup.vpool → Completes .slackGapEnd s (fun t =>
        t.slack.gap = false ∧ t.slack.waiting = [] ∧ t.slack.opening = some ⟨r.t0, max 20 (min 2000 r.len)⟩)))

/-- SYSCLK, the PLL, the fence, sleep and EXTREF: what each event makes of the source, of RELOCK and LOCK and of the flags and records the rules name
(R103 to R108, R111, R112, R117 to R119, R124, R191). While the PLL is declared failed the lock alone is taken (the model's reading of R112, log 103). -/
def Obligations.ClockEvents : Prop :=
  ∀ (s : State) (n : Nat) (hf lf : Int) (o : Supplies), s.dev.noWork = true → Store.wf resetWord s.dev.regs = true →
    let d := s.dev
    let moved (a : Nat) : Prop := a = F.CLK_STAT ∨ a = F.CLK_MEAN ∨ ∃ k < 8, a = F.TMR_STAT k
    (d.busHeld = false →
      Completes .lfReady s (fun t => t.flag F.CLK_STAT_LF_OK = true ∧ d.Same t (fun a => a = F.CLK_STAT)) ∧
      Completes (.hfReady n) s (fun t =>
        t.flag F.CLK_STAT_HF_OK = true ∧ t.get F.CLK_STAT_HFUP = min 255 n ∧ d.Same t (fun a => a = F.CLK_STAT) ∧
        (d.asleep = false → d.get F.CLK_STAT_SRC = 0 → 3 ≤ d.get F.SYS_MODE_STAGE → t.clk.pendingSrc = some 1)) ∧
      (d.clk.pendingSrc = some 1 → d.flag F.CLK_SLKSTAT_OPEN = false → Completes .clkSwitch s (fun t =>
        t.get F.CLK_STAT_SRC = 1 ∧ t.get F.CLK_MEAN_FREQ = 32000000 ∧ t.clk.pendingSrc = none ∧ d.Same t moved ∧
        (d.get F.CLK_STAT_SRC = 2 → t.flag F.CLK_STAT_RELOCK = false ∧ t.flag F.CLK_STAT_LOCK = false) ∧
        (d.get F.CLK_STAT_SRC = 0 → d.runSource = 2 → t.flag F.CLK_STAT_RELOCK = true ∧ t.flag F.CLK_STAT_LOCK = false) ∧
        (d.get F.CLK_STAT_SRC = 0 → d.runSource = 1 → t.flag F.CLK_STAT_RELOCK = d.flag F.CLK_STAT_RELOCK))) ∧
      (d.clk.pendingSrc = some 2 → d.flag F.CLK_STAT_LOCK = true → d.flag F.CLK_SLKSTAT_OPEN = false → Completes .clkSwitch s (fun t =>
        t.get F.CLK_STAT_SRC = 2 ∧ t.flag F.CLK_STAT_RELOCK = false ∧ t.flag F.CLK_EVT_LOCKED = true ∧ t.clk.pendingSrc = none)) ∧
      ((d.clk.pendingSrc = none ∨ d.flag F.CLK_SLKSTAT_OPEN = true) → Completes .clkSwitch s (fun t => t.clk = d.clk ∧ d.Same t (fun _ => False))) ∧
      (d.flag F.CLK_STAT_RELOCK = true →
        Completes .pllLockDetect s (fun t => t.flag F.CLK_STAT_LOCK = true ∧ d.Same t (fun a => a = F.CLK_STAT)) ∧
        (d.flag F.CLK_STAT_LOCK = true →
          (d.flag F.CLK_STAT_PLL_FAIL = false → d.flag F.CLK_SLKSTAT_OPEN = false → Completes .pllSwitch s (fun t =>
            t.get F.CLK_STAT_SRC = 2 ∧ t.flag F.CLK_STAT_RELOCK = false ∧ t.flag F.CLK_EVT_LOCKED = true ∧ t.clk.spreadPos = 0)) ∧
          (d.flag F.CLK_STAT_PLL_FAIL = false → d.flag F.CLK_SLKSTAT_OPEN = true → Completes .pllSwitch s (fun t =>
            t.clk.pendingSrc = some 2 ∧ d.Same t (fun _ => False))) ∧
          (d.flag F.CLK_STAT_PLL_FAIL = true → Completes .pllSwitch s (fun t =>
            t.flag F.CLK_STAT_RELOCK = false ∧ t.flag F.CLK_STAT_LOCK = true ∧ t.get F.CLK_STAT_SRC = d.get F.CLK_STAT_SRC ∧
            d.Same t (fun a => a = F.CLK_STAT)))) ∧
        (d.flag F.CLK_STAT_LOCK = false → d.get F.CLK_STAT_SRC ≠ 2 →
          (d.flag F.CLK_STAT_PLL_FAIL = false → Completes .pllLockTimeout s (fun t =>
            t.get F.CLK_STAT_SRC = 1 ∧ t.flag F.CLK_STAT_RELOCK = false ∧ t.flag F.CLK_STAT_PLL_FAIL = true ∧ t.flag F.CLK_EVT_PLL_FAILED = true ∧
            65536 ≤ t.t1Period ∧ d.recorded t 0x24 1)) ∧
          (d.flag F.CLK_STAT_PLL_FAIL = true → Completes .pllLockTimeout s (fun t =>
            t.get F.CLK_STAT_SRC = 1 ∧ t.flag F.CLK_STAT_RELOCK = false ∧ d.Same t moved)))) ∧
      (99 ≤ n → d.get F.CLK_STAT_SRC = 2 → Completes (.fenceTrip n) s (fun t =>
        t.get F.CLK_STAT_SRC = 1 ∧ t.flag F.CLK_STAT_RELOCK = true ∧ t.flag F.CLK_EVT_FENCE = true ∧
        t.get F.CLK_STAT_FENCE_N = min 15 (d.get F.CLK_STAT_FENCE_N + 1) ∧
        (d.clk.trips = [] → t.clk.trips = [d.seconds] ∧ t.flag F.CLK_STAT_PLL_FAIL = d.flag F.CLK_STAT_PLL_FAIL ∧ d.recorded t 0x23 1) ∧
        (∀ x y, d.clk.trips = [x, y] → d.seconds ≤ x + 60 → d.seconds ≤ y + 60 → t.flag F.CLK_STAT_PLL_FAIL = true))) ∧
      ((n < 99 ∨ d.get F.CLK_STAT_SRC ≠ 2) → Completes (.fenceTrip n) s (fun t => t.clk = d.clk ∧ d.Same t (fun _ => False))) ∧
      (d.flag F.CLK_XREF_EN = true → d.get F.CLK_STAT_SRC ≠ 0 → let want := 125 * d.get F.CLK_XREF_FNOM
        (49 * want ≤ 200 * n → 200 * n ≤ 51 * want → 3 ≤ d.clk.xrefGood → Completes (.xrefWindow n) s (fun t => t.flag F.CLK_STAT_XREF_OK = true)) ∧
        (49 * want ≤ 200 * n → 200 * n ≤ 51 * want → d.clk.xrefGood < 3 → Completes (.xrefWindow n) s (fun t =>
          t.clk.xrefGood = d.clk.xrefGood + 1 ∧ d.Same t (fun _ => False))) ∧
        ((80 * n < 19 * want ∨ 21 * want < 80 * n) → Completes (.xrefWindow n) s (fun t => t.flag F.CLK_STAT_XREF_OK = false)) ∧
        Completes .xrefTimeout s (fun t => t.flag F.CLK_STAT_XREF_OK = false ∧ t.clk.xrefGood = 0 ∧
          (d.flag F.CLK_STAT_XREF_OK = true → t.flag F.CLK_XERR_HFV = false ∧ t.flag F.CLK_XERR_LFV = false))) ∧
      (d.get F.CLK_STAT_SRC = 0 → Completes (.xrefWindow n) s (fun t => t.clk = d.clk ∧ d.Same t (fun _ => False)) ∧
        Completes .xrefTimeout s (fun t => t.clk = d.clk ∧ d.Same t (fun _ => False)) ∧
        Completes (.xrefGateEnd hf lf) s (fun t => d.Same t (fun _ => False))) ∧
      (d.flag F.CLK_STAT_XREF_OK = true → d.get F.CLK_STAT_SRC ≠ 0 → -2 ^ 23 ≤ hf → hf < 2 ^ 23 → -2 ^ 23 ≤ lf → lf < 2 ^ 23 →
        Completes (.xrefGateEnd hf lf) s (fun t =>
          t.getS F.CLK_XERR_HFERR = hf ∧ t.getS F.CLK_XERR_LFERR = lf ∧ t.flag F.CLK_XERR_HFV = true ∧ t.flag F.CLK_XERR_LFV = true ∧
          t.getS F.CLK_HFERR_ERR = hf ∧ t.get F.CLK_HFERR_SRC = 1 ∧ d.Same t (fun a => a = F.CLK_XERR ∨ a = F.CLK_HFERR))) ∧
      (d.maySleep = false → Completes .sleepEntry s (fun t => t.asleep = d.asleep ∧ d.Same t (fun _ => False)))) ∧
    (d.maySleep = true → Completes .sleepEntry s (fun t =>
      t.asleep = true ∧ t.busHeld = true ∧ t.get F.CLK_STAT_SRC = 0 ∧ t.flag F.CLK_STAT_LOCK = false ∧
      t.flag F.CLK_STAT_HF_OK = ((d.flag F.CLK_PLL_HFKEEP || d.flag F.CLK_STAT_LF_SUB) && d.flag F.CLK_STAT_HF_OK))) ∧
    (d.asleep = true → d.get F.CLK_STAT_SRC = 0 → Completes (.sleepExit o) s (fun t =>
      t.asleep = false ∧ t.sup.vpool = o.vpool ∧ t.sup.vcell = o.vcell ∧ t.get F.PWR_MEAS_VPOOL = min 4095 (o.vpool / 2) ∧
      t.get F.PWR_MEAS_VCELL = min 4095 (o.vcell / 2) ∧
      (d.flag F.CLK_STAT_HF_OK = true → 3 ≤ d.get F.SYS_MODE_STAGE → t.clk.pendingSrc = some 1)))

/-- The Tideline's events: ticks add 512 units less the correction, and a whole second that the last of them reaches raises SECOND once; the LF crystal
fails and comes back; a halt ends by its pin or after one second of ticks, and not before (R120, R121, R124 to R126, R289). No other channel than T1
counts the ticks, and T1 runs without its second compare. -/
def Obligations.TidelineEvents : Prop :=
  ∀ (s : State) (n rest : Nat) (pin : Fin 16), s.dev.atRest →
    let d := s.dev
    let sec0 := (d.reg F.TIDE_SEC).toNat
    let after (k : Nat) : Int := sec0 + 512 * k + ((d.tide.phase : Int) - k * tideK d.tide.e) / 2 ^ 32
    (d.flag F.TIDE_CTL_STOPPED = false → d.flag F.TIDE_CTL_HALTED = false → d.tide.firstStep = none → d.tide.phase < 2 ^ 32 →
      -300000 ≤ d.tide.e → d.tide.e ≤ 300000 → d.links = [] → (∀ k < 8, k ≠ 1 → d.flag (F.TMR_STAT_RUN k) = false) →
      bitsOf (d.reg (F.TMR_CMP1 1)) 47 0 = 0 → d.tmrCount 1 < bitsOf (d.reg (F.TMR_CMP0 1)) 47 0 → (d.ch 1).frac < 2 ^ 32 →
      sec0 < 2 ^ 71 → after (n - 1) < ((sec0 / 2 ^ 24 + 1) * 2 ^ 24 : Nat) →
      Completes (.billingSecond n) s (fun t =>
        t.get F.TIDE_TICKS_TICKS = (d.get F.TIDE_TICKS_TICKS + n) % 2 ^ 48 ∧ t.reg F.TIDE_SEC = BitVec.ofInt 72 (after n) ∧
        (d.paired = false → after n < ((sec0 / 2 ^ 24 + 1) * 2 ^ 24 : Nat) → d.raisedOnly t Ev.second 0) ∧
        (d.paired = false → ((sec0 / 2 ^ 24 + 1) * 2 ^ 24 : Nat) ≤ after n → (sec0 / 2 ^ 24 + 1) % 3600 ≠ 0 → d.raisedOnly t Ev.second 1))) ∧
    (d.flag F.CLK_STAT_LF_SUB = false →
      Completes (.lfLoss true rest) s (fun t =>
        t.flag F.CLK_STAT_LF_SUB = true ∧ t.flag F.CLK_STAT_LF_OK = false ∧ t.get F.TIDE_ECORR_SRC = 1 ∧ t.flag F.CLK_EVT_LF_LOST = true ∧
        d.recorded t 0x26 1) ∧
      Completes (.lfLoss false rest) s (fun t =>
        t.flag F.TIDE_CTL_STOPPED = true ∧ t.flag F.CLK_STAT_LF_OK = false ∧ d.Same t (fun a => a = F.CLK_STAT ∨ a = F.TIDE_CTL)) ∧
      Completes .lfRestore s (fun t => d.Same t (fun _ => False))) ∧
    (d.flag F.CLK_STAT_LF_SUB = true →
      Completes .lfRestore s (fun t =>
        t.flag F.CLK_STAT_LF_SUB = false ∧ t.flag F.CLK_STAT_LF_OK = true ∧ t.get F.TIDE_ECORR_SRC = 0 ∧ d.recorded t 0x27 1) ∧
      ∀ hf, Completes (.lfLoss hf rest) s (fun t => d.Same t (fun _ => False))) ∧
    (d.flag F.TIDE_CTL_HALTED = true →
      let released (t : Dev) : Prop := t.flag F.TIDE_CTL_HALTED = false ∧ t.tide.firstStep = some rest ∧ d.recorded t 0x21 2 ∧
        d.SameLogged t (fun a => a = F.TIDE_CTL)
      let stands (t : Dev) : Prop := t.tide = d.tide ∧ d.Same t (fun _ => False)
      (d.tide.relArmed = true → d.pads.lost = false → pin.val = d.get F.TIDE_CTL_RELPIN → Completes (.tidePinRelease pin rest) s released) ∧
      ((d.tide.relArmed = false ∨ d.pads.lost = true ∨ pin.val ≠ d.get F.TIDE_CTL_RELPIN) → Completes (.tidePinRelease pin rest) s stands) ∧
      (d.tide.haltTick + 32768 ≤ d.get F.TIDE_TICKS_TICKS → Completes (.tideHaltTimeout rest) s (fun t =>
        released t ∧ t.flag F.TIDE_CTL_HALT_TO = true)) ∧
      (d.get F.TIDE_TICKS_TICKS < d.tide.haltTick + 32768 → Completes (.tideHaltTimeout rest) s stands)) ∧
    (d.flag F.TIDE_CTL_HALTED = false →
      Completes (.tidePinRelease pin rest) s (fun t => t.tide = d.tide ∧ d.Same t (fun _ => False)) ∧
      Completes (.tideHaltTimeout rest) s (fun t => t.tide = d.tide ∧ d.Same t (fun _ => False)))

/-- The supplies' thresholds, the charger's ends, SEAL and VDDIO: the flag, the condition held for the boundary, or the record each event leaves (R37,
R39, R41, R43, R46, R52 to R54, R59, R63, R327, R386, R522). Where CELL_LOW speaks of all registers the radio's parent is not lost. -/
def Obligations.SupplyEvents : Prop :=
  ∀ (s : State) (v : Nat), s.dev.atRest →
    let d := s.dev
    let mv (n : Nat) : Nat := 2200 + 50 * n
    (v < mv (d.get F.PWR_CELL_LOW) → Completes (.cellLow v) s (fun t => t.flag F.PWR_EVT_CELL_LOW = true ∧ t.sup.vcell = v)) ∧
    (v < 2000 → d.sup.deepLogged = false → Completes (.cellLow v) s (fun t =>
      t.flag F.PWR_EVT_CELL_LOW = true ∧ t.sup.deepLogged = true ∧ d.recorded t 0x2B 1 ∧
      (d.radio.lost = false → d.SameLogged t (fun a => a = F.PWR_EVT)))) ∧
    (mv (d.get F.PWR_CELL_LOW) ≤ v → 2000 ≤ v → Completes (.cellLow v) s (fun t => t.sup.vcell = v ∧ d.Same t (fun _ => False))) ∧
    (3000 ≤ v → d.sup.filled = false → 3 ≤ d.get F.SYS_MODE_STAGE → Completes (.poolFill v) s (fun t =>
      t.sup.filled = true ∧ t.sup.vpool = v ∧ d.recorded t 0x08 1 ∧ d.SameLogged t (fun _ => False))) ∧
    (v < 3000 ∨ d.sup.filled = true ∨ d.get F.SYS_MODE_STAGE < 3 → Completes (.poolFill v) s (fun t =>
      t.sup.filled = d.sup.filled ∧ t.sup.vpool = v ∧ d.Same t (fun _ => False))) ∧
    (v < 3000 → Completes (.poolFloorFall v) s (fun t =>
      t.flag F.PWR_EVT_FLOOR = true ∧ t.sup.vpool = v ∧ d.Same t (fun a => a = F.PWR_EVT))) ∧
    (v < mv (d.get F.PWR_POOL_LOW) → Completes (.poolLow v) s (fun t =>
      t.flag F.PWR_EVT_POOL_LOW = true ∧ t.sup.poolLow = true ∧ d.Same t (fun a => a = F.PWR_EVT))) ∧
    (d.regime = 1 → d.needKnown = true → v < d.needNow → Completes (.harvestShort v) s (fun t =>
      t.sup.short = true ∧ t.sup.surplus = v ∧ d.Same t (fun _ => False))) ∧
    (d.regime = 2 → 5 * d.needNow ≤ 4 * v → mv (d.get F.PWR_POOL_RESUME) ≤ d.sup.vpool → Completes (.harvestRestored v) s (fun t =>
      t.sup.rich = true ∧ t.sup.surplus = v ∧ d.Same t (fun _ => False))) ∧
    (d.charging = true → d.vend ≤ v → Completes (.chargeDone v) s (fun t =>
      t.sup.chgFull = true ∧ t.flag F.PWR_EVT_CHG_DONE = true ∧ t.flag F.PWR_STAT_CHG = false ∧ d.Same t (fun a => a = F.PWR_EVT))) ∧
    (v + 100 ≤ d.vend → Completes (.chargeRestart v) s (fun t => t.sup.chgFull = false ∧ t.sup.vcell = v ∧ d.Same t (fun _ => False))) ∧
    (d.flag F.PWR_STAT_VIN_OK = true → v < 7500 →
      let feed : Nat := if d.sup.vpool < 2200 ∧ d.cellFitted = true then 2 else 1
      (d.flag F.PWR_STAT_SLACK = false → d.get F.PWR_STAT_SRC ≠ 2 → Completes (.looppFall v) s (fun t =>
        t.get F.PWR_STAT_SRC = feed ∧ t.sup.loopp = v ∧ d.Same t (fun _ => False))) ∧
      (d.flag F.PWR_STAT_SLACK = true → d.sup.savedSrc ≠ 2 → Completes (.looppFall v) s (fun t =>
        t.sup.savedSrc = feed ∧ t.get F.PWR_STAT_SRC = d.get F.PWR_STAT_SRC ∧ t.sup.loopp = v ∧ d.Same t (fun _ => False)))) ∧
    (d.battery = true → 8000 < v → d.sup.mismatchLogged = false → Completes (.looppOnBattery v) s (fun t =>
      t.sup.mismatchLogged = true ∧ d.recorded t 0x07 1 ∧ d.SameLogged t (fun _ => False))) ∧
    ((d.battery = false ∨ v ≤ 8000 ∨ d.sup.mismatchLogged = true) → Completes (.looppOnBattery v) s (fun t => d.Same t (fun _ => False))) ∧
    (∀ opened, d.flag F.SYS_MODE_SEAL = opened → Completes (.sealChange opened) s (fun t => d.Same t (fun _ => False))) ∧
    (d.flag F.SYS_MODE_SEAL = true → Completes (.sealChange false) s (fun t =>
      t.flag F.SYS_MODE_SEAL = false ∧ t.flag F.LOOP_FIX_EN = false ∧ t.usf.zMask = 0 ∧
      d.Same t (fun a => a = F.SYS_MODE ∨ a = F.LOOP_FIX ∨ a = F.USF_ZCTL))) ∧
    (d.flag F.SYS_MODE_SEAL = false →
      (d.mode = 4 ∨ d.mode = 6 ∨ d.mode = 7 → d.sup.sealLogged = false → Completes (.sealChange true) s (fun t =>
        t.flag F.SYS_MODE_SEAL = true ∧ t.sup.sealLogged = true ∧ d.recorded t 0x11 1)) ∧
      (d.mode ≠ 4 → d.mode ≠ 6 → d.mode ≠ 7 → Completes (.sealChange true) s (fun t =>
        t.flag F.SYS_MODE_SEAL = true ∧ (d.paired = false → d.held = [] → d.raisedOnly t Ev.sealPin 1) ∧ d.Same t (fun a => a = F.SYS_MODE)))) ∧
    Completes .vddioLoss s (fun t =>
      t.pads.lost = true ∧ t.flag F.SYS_PADSTAT_VDDIO_OK = false ∧ t.get F.SYS_PADSTAT_TPLVL = 0 ∧ t.port.open_ = false ∧ t.dport.open_ = false ∧
      d.Same t (fun _ => False)) ∧
    (d.pads.lost = true → (d.traceN = 0 ∨ d.flag F.DBG_TRCFG_STREAM = false) → Completes (.vddioReturn v) s (fun t =>
      t.pads.lost = false ∧ t.get F.SYS_PADSTAT_TPLVL = v % 65536 ∧ d.Same t (fun _ => False))) ∧
    (d.pads.lost = false → Completes (.vddioReturn v) s (fun t => d.Same t (fun _ => False)))

/-! ## The Collar's services -/

/-- A service call from the mailbox, alone in the queue: the effect of each service that R237 lists for the mailbox, its status and results in
COLLAR_MBXRES0 to 3, and DONE with its TAG; the calls it refuses; and a service command that is not the call's leaves it waiting (R73, R127, R236 to
R238, R250, R256, R257, R261, R265, R266). Where the rules name conditions for OK they are the premises. Beginning a session while an activation runs is
answered BUSY, as is a second verification, by the model's choice (log 55); KEY_INFO's word packs its values by a free function (log 6). -/
def Obligations.MailboxServices : Prop :=
  ∀ (s : State) (n tag : Nat) (dbg : Bool) (args : List Word) (fb : FbMeas), s.dev.atRest → s.dev.col.svcQ = [⟨n, .mailbox tag dbg, args⟩] →
    s.dev.collarRun ≠ Run.notStarted → tag < 256 → s.dev.held = [] → s.dev.ecc = [] →
    let d := s.dev
    let a (i : Nat) : Word := args.getD (i - 1) 0
    let mbx (x : Nat) : Prop := x = F.COLLAR_MBXSTAT ∨ ∃ i < 4, x = F.COLLAR_MBXRES i
    let answered (t : Dev) (st : Nat) : Prop :=
      t.col.svcQ = [] ∧ t.reg (F.COLLAR_MBXRES 0) = BitVec.ofNat 72 st ∧ t.get F.COLLAR_MBXSTAT_STATUS = st ∧ t.get F.COLLAR_MBXSTAT_TAG = tag ∧
      t.flag F.COLLAR_MBXSTAT_DONE = true ∧ t.flag F.COLLAR_MBXSTAT_BUSY = false
    let ok (t : Dev) (res : List Word) : Prop := answered t 0 ∧ ∀ i < 3, t.reg (F.COLLAR_MBXRES (i + 1)) = res.getD i 0
    let fails (c : Instr) (st : Nat) : Prop :=
      Completes c s (fun t => answered t st ∧ (∀ i < 3, t.reg (F.COLLAR_MBXRES (i + 1)) = 0) ∧ d.Same t mbx)
    let back (t : Dev) (b : Nat) (full : Bool) : Prop := t.owner b = Own.host ∧ t.full b = full
    let backs (c : Instr) (b st : Nat) : Prop := Completes c s (fun t => answered t st ∧ back t b false ∧ t.mem = d.mem)
    let a1 := (a 1).toNat
    let b1 := a1 % 256
    let b2 := (a 2).toNat % 256
    (∀ c ∈ [(Instr.info, 0x00), (.post, 0x01), (.assign, 0x02), (.timeSet, 0x03), (.paramRead, 0x04), (.paramWrite, 0x05), (.modeReq, 0x06),
        (.restart fb, 0x07), (.fuse, 0x08), (.logRead, 0x09), (.imgBegin, 0x0A), (.imgWrite, 0x0B), (.imgVerify, 0x0C), (.imgActivate, 0x0D),
        (.imgStatus, 0x0E), (.keyInfo, 0x10), (.keyLoad, 0x11), (.keyErase, 0x12), (.macSvc, 0x13)],
      c.2 ≠ n → Completes c.1 s (fun t => t.col = d.col ∧ d.Same t (fun _ => False))) ∧
    (n = 0x00 → Completes .info s (fun t => ok t [d.reg F.COLLAR_ID, d.reg F.COLLAR_CHTAB, d.modeWord] ∧ d.Same t mbx)) ∧
    (n = 0x01 → fails .post 5) ∧ (n = 0x02 → fails .assign 5) ∧
    (n = 0x03 → d.orders = [] → Completes .timeSet s (fun t =>
      let step := (a 1).toInt - (a 2).toNat - (d.reg F.TIDE_CIVOFS).toInt
      ok t [t.reg F.TIDE_CIVOFS] ∧ t.flag F.SYS_START_TIDE_COLD = false ∧
      (t.reg F.TIDE_CIVOFS = if step.natAbs * 100 ≤ d.get F.TIDE_CTL_DEAD * 2 ^ 24 then d.reg F.TIDE_CIVOFS
        else BitVec.ofInt 72 ((a 1).toInt - (a 2).toNat)) ∧
      d.SameLogged t (fun x => mbx x ∨ x = F.TIDE_CIVOFS ∨ x = F.TIDE_WDAY ∨ x = F.SYS_START))) ∧
    (n = 0x04 → (a1 ≤ 0xFFF → Completes .paramRead s (fun t => ok t [d.param a1] ∧ d.Same t mbx)) ∧ (0xFFF < a1 → fails .paramRead 5)) ∧
    (n = 0x05 →
      (d.mode = 5 → a1 ≤ 0xFFF → Completes .paramWrite s (fun t =>
        ok t [a 2] ∧ d.Same t mbx ∧ ∃ x ∈ t.col.changes, x.addr = paramBase + a1 ∧ x.new = a 2)) ∧
      (d.mode ≠ 5 ∨ 0xFFF < a1 → fails .paramWrite 5)) ∧
    (n = 0x06 →
      (a1 ≤ 1 → d.migrating = false → (a1 = 1 → d.sleeveUp .left = true ∧ d.sleeveUp .right = true ∧ d.activeOf false = d.activeOf true) →
        Completes .modeReq s (fun t => ok t [] ∧ t.col.modeReq = some (decide (a1 = 1)) ∧ d.Same t mbx)) ∧
      (1 < a1 → fails .modeReq 5) ∧ (a1 ≤ 1 → d.migrating = true → fails .modeReq 1) ∧
      (a1 = 1 → d.migrating = false → (d.sleeveUp .left = false ∨ d.sleeveUp .right = false ∨ d.activeOf false ≠ d.activeOf true) →
        fails .modeReq 5)) ∧
    (n = 0x07 →
      (d.reserveAt 16000 = true → d.col.shut = none → Completes (.restart fb) s (fun t =>
        answered t 0 ∧ ∃ x, t.col.shut = some x ∧ x.cause = 3 ∧ x.restart = true)) ∧
      (d.reserveAt 16000 = false ∨ d.col.shut ≠ none → fails (.restart fb) 1)) ∧
    (n = 0x08 →
      (d.mode = 5 → d.flag F.SYS_FUSE_LOCKED = false → a1 ≤ 3 → Completes .fuse s (fun t =>
        ok t [] ∧ t.get F.SYS_FUSE_SAFE_I = a1 ∧ t.flag F.SYS_FUSE_LOCKED = true ∧ d.recorded t 0x15 1 ∧
        d.SameLogged t (fun x => mbx x ∨ x = F.SYS_FUSE))) ∧
      (d.mode ≠ 5 ∨ d.flag F.SYS_FUSE_LOCKED = true ∨ 3 < a1 → fails .fuse 5)) ∧
    (n = 0x09 →
      (d.blockReady b1 = true → Completes .logRead s (fun t =>
        let first := max (bitsOf (a 2) 47 0) (d.logNext - 6144)
        let k := min (max 1 (min 16 (a 3).toNat)) (d.logNext - first)
        ok t [BitVec.ofNat 72 k, BitVec.ofNat 72 (first + k)] ∧ back t b1 true ∧
        ∀ i j, i < k → j < 4 → t.load (blockAddr b1 + (4 * i + j)) = d.load (logAddr (first + i) + j))) ∧
      (d.blockReady b1 = false → fails .logRead 3)) ∧
    (n = 0x0A →
      (d.col.session = none → d.col.actStep = none → (a1 = 0 ∨ a1 = 1 ∧ d.mode = 5) → Completes .imgBegin s (fun t =>
        ok t [BitVec.ofNat 72 d.col.sessN] ∧ t.load (imgBase d.inactive) = 0 ∧ t.imgVal d.inactive = false ∧
        (∀ y < 0x100000, y ≠ imgBase d.inactive → t.load y = d.load y) ∧
        ∃ x, t.col.session = some x ∧ x.iface = 1 ∧ x.trusted = decide (a1 = 1) ∧ x.verifying = false ∧
          x.total = min (if a1 = 1 then 0x6000 else 0x20000) (a 2).toNat)) ∧
      (d.col.session ≠ none ∨ d.col.actStep ≠ none → fails .imgBegin 1) ∧
      (d.col.session = none → d.col.actStep = none → (1 < a1 ∨ a1 = 1 ∧ d.mode ≠ 5) → fails .imgBegin 5)) ∧
    (d.col.session = none → (n = 0x0B → d.blockReady b1 = false → fails .imgWrite 7) ∧ (n = 0x0B → d.blockReady b1 = true → backs .imgWrite b1 7) ∧
      (n = 0x0C → fails .imgVerify 7)) ∧
    (∀ x, d.col.session = some x →
      (x.iface ≠ 1 → (n = 0x0B → d.blockReady b1 = true → backs .imgWrite b1 7) ∧ (n = 0x0C → fails .imgVerify 7)) ∧
      (x.iface = 1 →
        (n = 0x0B → x.verifying = false → (x.trusted = true → d.mode = 5) → x.total ≤ 0x20000 →
          (d.blockReady b1 = true → Completes .imgWrite s (fun t =>
            ok t [] ∧ back t b1 false ∧
            (∀ i < max 1 (min 64 (a 3).toNat), (a 2).toNat + i < x.total →
              t.load (imgBase d.inactive + (a 2).toNat + i) = d.load (blockAddr b1 + i)) ∧
            ∀ y < 0x100000, ¬ (imgBase d.inactive + (a 2).toNat ≤ y ∧ y < imgBase d.inactive + x.total) → t.load y = d.load y)) ∧
          (d.blockReady b1 = false → fails .imgWrite 3)) ∧
        (n = 0x0B → x.verifying = true → d.blockReady b1 = true → backs .imgWrite b1 1) ∧
        (n = 0x0C → x.verifying = false → (x.trusted = true → d.mode = 5) → Completes .imgVerify s (fun t =>
          ok t [] ∧ d.Same t mbx ∧ ∃ y, t.col.session = some y ∧ y.verifying = true)) ∧
        (n = 0x0C → x.verifying = true → fails .imgVerify 1) ∧
        (n = 0x0C → x.verifying = false → x.trusted = true → d.mode ≠ 5 → fails .imgVerify 5))) ∧
    (n = 0x0D →
      (d.imgVal d.inactive = true → d.imgRej d.inactive = false → d.col.actStep = none → d.mode ≠ 7 → Completes .imgActivate s (fun t =>
        ok t [] ∧ t.col.actStep = some 0 ∧ t.col.oldImg = ((d.activeOf false).toNat, (d.activeOf true).toNat) ∧ d.Same t mbx)) ∧
      (d.imgVal d.inactive = false ∨ d.imgRej d.inactive = true ∨ d.col.actStep ≠ none ∨ d.mode = 7 → fails .imgActivate 5)) ∧
    (n = 0x0E → Completes .imgStatus s (fun t => ok t [d.reg F.COLLAR_IMG] ∧ d.Same t mbx)) ∧
    (n = 0x10 → (a1 ≤ 15 → Completes .keyInfo s (fun t =>
        ok t [Config.payload 0x110 0 [d.keyState a1, (d.keyAt a1).ty]] ∧ d.Same t mbx)) ∧ (15 < a1 → fails .keyInfo 5)) ∧
    (n = 0x11 → d.mode = 5 →
      let key := Config.keyOfBlock (d.loadAll (blockAddr b2) 64)
      let fit : Prop := a1 = 2 ∧ key.1 = 2 ∧ Config.certOk (d.keyAt 1).key key.2 = true ∨ a1 = 3 ∧ key.1 = 0 ∨ a1 = 4 ∧ key.1 = 1 ∨
        7 ≤ a1 ∧ a1 ≤ 14 ∧ key.1 ≤ 1
      let slot : Prop := a1 = 2 ∨ a1 = 3 ∨ a1 = 4 ∨ 7 ≤ a1 ∧ a1 ≤ 14
      (d.blockReady b2 = true → d.priv b2 = true → fit → Completes .keyLoad s (fun t =>
        ok t [] ∧ back t b2 false ∧ t.keyState a1 = 1 ∧ t.keyAt a1 = ⟨key.1, key.2⟩ ∧ (∀ i < 64, t.load (blockAddr b2 + i) = 0) ∧
        d.recorded t 0x16 1)) ∧
      (d.blockReady b2 = true → d.priv b2 = true → slot → ¬ fit → Completes .keyLoad s (fun t =>
        answered t 5 ∧ back t b2 false ∧ (∀ i < 64, t.load (blockAddr b2 + i) = 0) ∧ t.pocket = d.pocket ∧
        t.reg F.COLLAR_POCKET = d.reg F.COLLAR_POCKET)) ∧
      (d.blockReady b2 = false → slot → fails .keyLoad 3) ∧ (d.blockReady b2 = false → ¬ slot → fails .keyLoad 5)) ∧
    (n = 0x12 →
      let slot : Prop := a1 = 2 ∨ a1 = 3 ∨ a1 = 4 ∨ 7 ≤ a1 ∧ a1 ≤ 14
      (d.mode = 5 → slot → Completes .keyErase s (fun t =>
        ok t [] ∧ t.keyState a1 = 3 ∧ t.keyAt a1 = ⟨0, []⟩ ∧ (∀ h, h ≠ a1 → t.keyAt h = d.keyAt h) ∧ d.recorded t 0x17 1)) ∧
      (d.mode ≠ 5 ∨ ¬ slot → fails .keyErase 5)) ∧
    (n = 0x13 →
      (7 ≤ a1 → a1 ≤ 14 → d.blockReady b2 = true → d.keyUsable a1 0 = true → Completes .macSvc s (fun t =>
        ok t (mac128 (d.keyAt a1).key (d.loadAll (blockAddr b2) (max 1 (min 64 (a 3).toNat)))) ∧ back t b2 false ∧ t.mem = d.mem)) ∧
      (d.blockReady b2 = false → fails .macSvc 3) ∧
      (d.blockReady b2 = true → (a1 < 7 ∨ 14 < a1 ∨ d.keyUsable a1 0 = false) → backs .macSvc b2 5))

/-- The two services of a Sleeve alone. ASSIGN returns its channels, the table and the cycle number, and the Sleeve goes on with W0 to W3 as the
results and nothing else changed. A POST that no line of R240 refuses, of one segment within its limits, adds the segment's amounts exactly to the
accumulators that the channel's kind gives them and to no other of that channel, nothing while a start waits for the shot floor, is counted as posted, and
the block goes back empty; one that R240 refuses changes no accumulator, leaves a POST_REFUSED record, and answers its status (R46, R192, R236, R237, R240
to R242). -/
def Obligations.SleeveServices : Prop :=
  ∀ (s : State) (right : Bool) (args : List Word), s.dev.atRest → s.dev.collarRun ≠ Run.notStarted → s.dev.paired = false → s.dev.held = [] →
    s.dev.ecc = [] →
    let d := s.dev
    let x := if right then Eng.right else Eng.left
    let e := d.eng x
    e.wait = .svc → d.runOf x = Run.waiting → d.haltBit x = false →
    (d.col.svcQ = [⟨0x02, .sleeve right, args⟩] → Completes .assign s (fun t =>
      t.col.svcQ = [] ∧ t.runOf x = Run.running ∧ d.SameBut t x (fun _ => False) ∧
      ∃ mask : Nat, mask < 2 ^ 16 ∧ (∀ n < 16, mask.testBit n = (d.carrier n == 3 || d.carrier n == (if right then 2 else 1))) ∧
        t.eng x = { e with w := (((e.w.set 0 0).set 1 (BitVec.ofNat 72 mask)).set 2 (d.reg F.COLLAR_CHTAB)).set 3 (d.reg F.COLLAR_CYCLE) }.complete 1)) ∧
    (d.col.svcQ = [⟨0x01, .sleeve right, args⟩] →
      let b := (args.getD 0 0).toNat % 256
      let word (i : Nat) : Word := d.load (blockAddr b + i)
      let n := bitsOf (word 0) 63 60
      let rev := bitsOf (word 1) 52 52 = 1
      let q := bitsOf (word 1) 51 48
      let dur := bitsOf (word 1) 47 0
      let amount (i : Nat) : Nat := (word (1 + i)).toNat
      let fits (i : Nat) : Prop := 0 ≤ (word (1 + i)).toInt ∧ amount i ≤ d.amountLimit n i dur
      let volume (k : Nat) : Nat := if k = (if rev then 6 else 5) then amount 2 else 0
      let mass (k : Nat) : Nat := if k = (if rev then 8 else 7) then amount 3 else 0
      let more (k : Nat) : Nat :=
        if d.kind n = kThermal then (if q ≠ 0 ∧ (k = q - 1 ∨ k = 4) then amount 1 else 0) + volume k + mass k
        else if d.kind n = kGas then
          (if k = 9 then amount 1 else if k = 10 then (amount 1 * d.get (F.MET_CH_CV_CV n) + 2 ^ 23) / 2 ^ 24 else 0) + volume k
        else volume k + mass k
      let st := d.postStatus right (d.loadAll (blockAddr b) 33)
      let answered (t : Dev) (st : Nat) : Prop :=
        t.col.svcQ = [] ∧ t.runOf x = Run.running ∧ t.eng x = { e with w := e.w.set 0 (BitVec.ofNat 72 st) }.complete 1
      let back (t : Dev) : Prop := t.owner b = d.me x ∧ t.full b = false
      (d.mode ≠ 4 → d.blockReady b = true → st = 0 → bitsOf (word 0) 59 56 = 1 → fits 1 → fits 2 → fits 3 → Completes .post s (fun t =>
        (∀ k < 13, t.accRaw n k % 2 ^ 96 = (d.accRaw n k + (if d.sup.filled then more k else 0)) % 2 ^ 96) ∧
        t.posted n (bitsOf (word 0) 47 0) = true ∧ back t ∧ answered t 0)) ∧
      (d.blockReady b = true → st ≠ 0 → Completes .post s (fun t =>
        t.met.acc = d.met.acc ∧ d.recorded t 0x31 1 ∧ back t ∧ answered t st)) ∧
      (d.blockReady b = false → Completes .post s (fun t =>
        t.met.acc = d.met.acc ∧ d.recorded t 0x31 1 ∧ t.owner b = d.owner b ∧ t.full b = d.full b ∧ answered t 3)))

/-- What the Collar does without a call: a verification ends with the image staged or refused and COLLAR_MSG raised, a refusal with BAD_CHECK in the
mailbox that asked for it; a session without a write for 3,600 s closes; the channels of a trapped Sleeve go to the survivor and the Sleeve is block-reset
and held; and a block given to a held owner reverts (R235, R237, R246, R247, R265, R268, R276). Where BAD_CHECK of a verification goes is the model's
reading (log 55). -/
def Obligations.CollarEvents : Prop :=
  ∀ (s : State), s.dev.atRest →
    let d := s.dev
    (∀ x, d.col.session = some x → x.verifying = true →
      let closed (t : Dev) : Prop := t.col.session = none ∧ t.get F.COLLAR_IMG_SESSION = 0
      let told (t : Dev) : Prop := ∀ tag dbg, x.who = .mailbox tag dbg → tag < 256 → d.flag F.COLLAR_MBXSTAT_BUSY = false →
        t.get F.COLLAR_MBXSTAT_STATUS = 3 ∧ t.get F.COLLAR_MBXSTAT_TAG = tag ∧ t.flag F.COLLAR_MBXSTAT_DONE = true
      (x.trusted = false → d.imgFails d.inactive true = none → Completes .imgVerifyDone s (fun t =>
        closed t ∧ t.imgVal d.inactive = true ∧ d.recorded t 0x41 1 ∧ (d.paired = false → d.held = [] → d.raisedOnly t Ev.collarMsg 1) ∧
        d.SameLogged t (fun a => a = F.COLLAR_IMG))) ∧
      (x.trusted = false → d.imgFails d.inactive true ≠ none → Completes .imgVerifyDone s (fun t =>
        closed t ∧ t.imgVal d.inactive = false ∧ d.recorded t 0x40 1 ∧ told t)) ∧
      (x.trusted = true →
        let found := if d.mode = 5 then Config.trustedImage (d.keyAt 1).key (d.loadAll (imgBase d.inactive) x.total) else none
        (found ≠ none → Completes .imgVerifyDone s (fun t => closed t ∧ t.col.trusted = some (x.total, true) ∧ d.recorded t 0x41 1)) ∧
        (found = none → Completes .imgVerifyDone s (fun t => closed t ∧ t.col.trusted = none ∧ d.recorded t 0x40 1 ∧ told t)))) ∧
    ((∀ x, d.col.session = some x → x.verifying = false) → Completes .imgVerifyDone s (fun t => t.col = d.col ∧ d.Same t (fun _ => False))) ∧
    (∀ x, d.col.session = some x →
      (x.last + 3600 ≤ d.seconds → Completes .imgSessionTimeout s (fun t =>
        t.col.session = none ∧ t.get F.COLLAR_IMG_SESSION = 0 ∧ d.Same t (fun a => a = F.COLLAR_IMG))) ∧
      (d.seconds < x.last + 3600 → Completes .imgSessionTimeout s (fun t => t.col = d.col ∧ d.Same t (fun _ => False)))) ∧
    (∀ right : Bool, let x := if right then Eng.right else Eng.left
      let k := if right then 2 else 1
      ∀ r, d.mode ≠ 7 → (d.eng x).trap = some r → d.runOf x = Run.trapped → r.cause ∈ [0x01, 0x02, 0x03, 0x04, 0x06, 0x07, 0x08] →
        d.sleeveUp (Eng.twin x) = true → d.held = [] → d.quiesce.now = none → d.paired = false → d.col.actStep = none → d.col.actCycle = none →
        d.col.faults = [] → d.col.retireDue = [] →
        Completes (.sleeveFaultMigrate right) s (fun t =>
          t.held = [(23 + k, 0)] ∧ t.runOf x = Run.stopped ∧ t.eng x = EngState.init 0 ∧ (∀ n < 16, d.carrier n = k → t.carrier n = 3 - k) ∧
          ∀ n < 16, d.carrier n ≠ k → d.carrier n ≠ 3 → t.carrier n = d.carrier n)) ∧
    (∀ b < 256, d.revertDue = [b] → d.heldOwner (d.owner b) = true → Completes .heldGiveRevert s (fun t =>
      let home := if d.paired = true ∧ d.home b = Own.sleeveR then Own.sleeveL else d.home b
      t.owner b = (if home = d.owner b then Own.none else home) ∧ t.flag (F.SEAM_REC_STALE b) = true ∧ t.revertDue = [] ∧
      t.get F.SEAM_STAT_REVN = min 255 (d.get F.SEAM_STAT_REVN + 1) ∧ d.Same t (fun a => a = F.SEAM_REC b))) ∧
    (d.revertDue = [] → Completes .heldGiveRevert s (fun t => d.Same t (fun _ => False)))

/-! ## Start, resets, losses and boundaries -/

/-- The start, stage by stage. A supply powers the unpowered device into Stage 1 with its reset source; Stage 2 ends with Stage 3 in progress, the
clean shutdown record used up and the Collar running; the first fallback measurement fixes the outage; a sound image becomes active for both Sleeves,
with neither sound HOLD follows; the start-up BIST leaves START_BIST; the short boundary ends Stage 3 (R71, R75, R78, R82, R83, R86, R88, R91, R98,
R506). -/
def Obligations.StartStages : Prop :=
  ∀ (s : State) (v : Nat) (o : LabelObs) (b : BoundaryObs) (testen : Bool) (fb : FbMeas), s.dev.atRest →
    let d := s.dev
    let stage (t : Dev) (n : Nat) : Prop := t.get F.SYS_MODE_STAGE = n
    (stage d 0 → d.battery = false → 8000 ≤ v → d.sup.latch ≠ some true → Completes (.loopPresence v) s (fun t =>
      stage t 1 ∧ t.get F.SYS_RST_LAST = 1 ∧ (t.reg F.SYS_RST).getLsbD 0 = true ∧ t.flag F.PWR_STAT_VIN_OK = true ∧ t.get F.PWR_STAT_SRC = 3 ∧
      t.sup.loopp = v)) ∧
    (stage d 0 → 2900 < v → d.sup.latch ≠ some false → d.sup.cellStart = false → Completes (.cellConfirm v) s (fun t =>
      stage t 1 ∧ t.get F.SYS_RST_LAST = 2 ∧ (t.reg F.SYS_RST).getLsbD 1 = true ∧ t.get F.PWR_STAT_SRC = 2 ∧ t.sup.cellStart = true ∧
      t.sup.vcell = v)) ∧
    (d.stageTwoReady = true → (d.sup.cellStart = true → d.sup.latch ≠ none) → Completes (.stage2 o testen v) s (fun t =>
      stage t 3 ∧ t.get F.SYS_START_T2 = min 4095 v ∧ t.flag F.SYS_START_PROV = true ∧ t.load qsAddr = 0 ∧ t.collarRun = Run.running ∧
      t.sup.filled = decide (3000 ≤ t.sup.vpool))) ∧
    (stage d 3 → d.loop.firstFb = false → d.col.fb = true →
      Completes (.firstFallback fb) s (fun t =>
        t.loop.firstFb = true ∧ t.col.fbFrom = d.tmrCount 1 ∧ t.col.outage = d.seconds - d.col.lastCk ∧
        (d.sup.filled = false → d.flag F.SYS_START_ABRUPT = true → d.recorded t 0x03 1 ∧ d.SameLogged t (fun _ => False)) ∧
        (d.sup.filled = false → d.flag F.SYS_START_ABRUPT = false → d.Same t (fun _ => False)))) ∧
    (stage d 3 → d.mode ≠ 7 → d.col.shut = none → d.ecc = [] →
      let right := if d.imgFails d.col.marked false = none then d.col.marked else !d.col.marked
      let same := ((d.col.qs.getD []).drop 4).take 4 = hashWords (d.imgHash right)
      let q := d.get F.SYS_START_QSR
      (d.imgFails right false = none → Completes .imageVerified s (fun t =>
        t.imgVal right = true ∧ t.activeOf false = right ∧ t.activeOf true = right ∧ t.col.imgHash = d.imgHash right ∧
        (q = 0 → same → t.flag F.SYS_START_BIST_SKIP = true ∧ t.get F.SYS_START_QSR = 0) ∧
        (q = 0 ∨ q = 5 ∨ q = 6 → ¬ same → t.get F.SYS_START_QSR = 4) ∧
        (q ≠ 0 ∨ ¬ same → d.sup.startLoss = none → t.get F.BIST_RUN_STATE = 3))) ∧
      (d.imgFails right false ≠ none → Completes .imageVerified s (fun t =>
        t.mode = 7 ∧ t.get F.SYS_MODE_CAUSE = 0x10 ∧ t.get F.SYS_MODE_PREV = d.mode))) ∧
    (stage d 3 → d.mode ≠ 7 → d.get F.SYS_START_QSR ≠ 0 → d.sup.startLoss = none → d.ecc = [] → Completes (.startupBistDone [] [] v) s (fun t =>
      d.recorded t 0x77 1 ∧ ∀ y, t.eng y = d.eng y)) ∧
    (d.boundaryOk = true → stage d 3 → d.mode ≠ 7 → d.imgVal (d.activeOf false) = true → d.sup.startLoss = none →
      Completes (.shortBoundary b v) s (fun t =>
        stage t 4 ∧ t.get F.SYS_START_T3 = min 4095 v ∧ t.heldOrders = [] ∧ t.get F.COLLAR_CYCLE_CYCLE = (d.get F.COLLAR_CYCLE_CYCLE + 1) % 2 ^ 48))

/-- The resets: an abrupt reset of a powered device leaves Stage 1, its own flag and code in SYS_RST, SRAM at zero, and the nonvolatile store, the
Pocket and the Tideline as they were; the loss of the always-on domain leaves the nonvolatile store alone, and the installation latch not valid; the
shutdown BIST, all items passed, leaves the clean shutdown record and ends the shutdown (R74, R91 to R93, R96, R99, R507). -/
def Obligations.ResetsAndShutdownEnd : Prop :=
  ∀ (s : State) (failed : List Nat), s.dev.atRest →
    let d := s.dev
    let kept (t : Dev) : Prop := t.pocket = d.pocket ∧ (∀ a, 0x80000 ≤ a → t.load a = d.load a) ∧ ∀ a, 0x2000 ≤ a → a < 0x80000 → t.load a = 0
    let tide (t : Dev) : Prop := t.tide = d.tide ∧ ∀ a, a / 0x400 = 0x13 → t.reg a = d.reg a
    let reset (t : Dev) (code : Nat) : Prop :=
      kept t ∧ tide t ∧ t.get F.SYS_MODE_STAGE = 1 ∧ t.get F.SYS_RST_LAST = code ∧ (t.reg F.SYS_RST).getLsbD (code - 1) = true ∧
      t.mode = 0 ∧ t.orders = [] ∧ ∀ y, t.eng y = EngState.init 0
    (d.get F.SYS_MODE_STAGE ≠ 0 →
      Completes .bor s (fun t => reset t 3) ∧ Completes .nrst s (fun t => reset t 4) ∧
      (2 ≤ d.get F.SYS_MODE_STAGE → d.col.wdTick + 393216 ≤ d.get F.TIDE_TICKS_TICKS → Completes .wdog s (fun t => reset t 5))) ∧
    Completes .aonDomainLoss s (fun t =>
      kept t ∧ t.get F.SYS_MODE_STAGE = 0 ∧ t.sup.latch = none ∧ t.col.aonLost = true ∧
      ∀ a, a / 0x400 = 0x13 ∨ a = F.SYS_RST → t.reg a = resetWord a) ∧
    (∀ x, d.col.shut = some x → (∀ i ∈ failed, i ∉ d.shutItems) → x.noD = false → x.cause < 256 → x.mode < 256 →
      Completes (.shutdownBistDone failed) s (fun t =>
      bitsOf (t.load qsAddr) 71 48 = 0xC1EA01 ∧ bitsOf (t.load qsAddr) 47 40 = x.cause ∧ t.load (qsAddr + 1) = d.reg F.TIDE_SEC ∧
      t.loadAll (qsAddr + 14) 2 = mac128 (d.keyAt 0).key (t.loadAll qsAddr 14) ∧ t.col.shut = none ∧
      (x.restart = true → t.get F.SYS_MODE_STAGE = 1 ∧ t.get F.SYS_RST_LAST = 6) ∧
      (x.restart = false → d.sup.loopp < 8000 → t.get F.SYS_MODE_STAGE = 0) ∧
      (x.restart = false → 8000 ≤ d.sup.loopp → d.sup.latch ≠ some true → t.get F.SYS_MODE_STAGE = 1 ∧ t.get F.SYS_RST_LAST = 1)))

/-- Loss and return of the loop, death of the cell, and the cycle boundary: with a usable cell the loss leads to VIGIL, before the end of Stage 3 it
is held; a dead cell that carries the device starts the shutdown; the return regulates the loop again and, confirmed, leads to LOOP-LEAN; a boundary
counts the cycle, answers all held orders and services the watchdog, whether the command is the boundary, T1's match or a reset of T1 (R24, R29, R31, R54,
R59, R89, R92, R155). A boundary needs T1 running and stepping, its CMP0 with self action reset and its CMP1 off. -/
def Obligations.SupplyLossesAndBoundaries : Prop :=
  ∀ (s : State) (v : Nat) (fb : FbMeas) (b : BoundaryObs), s.dev.atRest → s.dev.col.shut = none →
    let d := s.dev
    let counted (t : Dev) : Prop := t.get F.COLLAR_CYCLE_CYCLE = (d.get F.COLLAR_CYCLE_CYCLE + 1) % 2 ^ 48
    (d.flag F.PWR_STAT_VIN_OK = true → v < 7500 → 2 ≤ d.get F.SYS_MODE_STAGE →
      (d.get F.SYS_MODE_STAGE < 4 → d.mode ≠ 7 → Completes (.loopLossConfirm v fb) s (fun t =>
        t.flag F.PWR_STAT_VIN_OK = false ∧ t.flag F.PWR_EVT_VIN_LOST = true ∧ t.sup.startLoss = some 1 ∧ t.flag F.SYS_START_BIST_SKIP = true ∧
        d.Same t (fun a => a = F.PWR_EVT ∨ a = F.SYS_START))) ∧
      (d.get F.SYS_MODE_STAGE = 4 → d.mode = 1 ∨ d.mode = 2 → d.usableCell = true → Completes (.loopLossConfirm v fb) s (fun t =>
        t.flag F.PWR_STAT_VIN_OK = false ∧ t.mode = 4 ∧ t.get F.SYS_MODE_BASE = 4 ∧ t.get F.SYS_MODE_CAUSE = 0x05 ∧ t.sup.lgate = true ∧
        counted t)) ∧
      (d.get F.SYS_MODE_STAGE = 4 → d.mode = 1 ∨ d.mode = 2 → d.usableCell = false → d.reserveAt 16000 = true →
        Completes (.loopLossConfirm v fb) s (fun t => ∃ x, t.col.shut = some x ∧ x.cause = 1 ∧ x.restart = false))) ∧
    (v < 2200 + 50 * d.get F.PWR_CELL_DEAD →
      (d.onCell = false → Completes (.cellDeadConfirm v fb) s (fun t =>
        t.flag F.PWR_EVT_CELL_DEAD = true ∧ t.sup.vcell = v ∧ t.sup.cellDead = true ∧ d.Same t (fun a => a = F.PWR_EVT))) ∧
      (d.onCell = true → d.get F.SYS_MODE_STAGE = 4 → d.reserveAt 16000 = true → Completes (.cellDeadConfirm v fb) s (fun t =>
        t.flag F.PWR_EVT_CELL_DEAD = true ∧ ∃ x, t.col.shut = some x ∧ x.cause = 2 ∧ x.restart = false))) ∧
    (d.mode = 4 → d.flag F.PWR_STAT_VIN_OK = false → 8000 ≤ v → Completes (.loopReturn v) s (fun t =>
      t.flag F.PWR_STAT_VIN_OK = true ∧ t.flag F.PWR_EVT_VIN_BACK = true ∧ t.sup.regulating = true ∧ t.sup.lgate = false ∧
      d.Same t (fun a => a = F.PWR_EVT))) ∧
    (d.mode = 4 → d.flag F.PWR_STAT_VIN_OK = true → Completes (.loopReturnConfirm fb) s (fun t =>
      t.mode = 2 ∧ t.get F.SYS_MODE_BASE = 2 ∧ t.get F.SYS_MODE_CAUSE = 0x06 ∧ t.flag F.SYS_START_PROV = true ∧ t.get F.MET_STAT_VFLOWCH = 0 ∧
      counted t)) ∧
    (d.boundaryOk = true → d.flag (F.TMR_STAT_RUN 1) = true → d.get (F.TMR_ACT_M0S 1) = 1 → bitsOf (d.reg (F.TMR_CMP1 1)) 47 0 = 0 →
      0 < d.wake.stepAdd 1 0 → Completes (.cycleBoundary b) s (fun t =>
        counted t ∧ t.orders = [] ∧ t.heldOrders = [] ∧ t.asleep = false ∧ t.col.wdTick = t.get F.TIDE_TICKS_TICKS)) ∧
    (∀ steps pos, d.boundaryOk = true → d.flag (F.TMR_STAT_RUN 1) = true → d.get (F.TMR_ACT_M0S 1) = 1 →
      bitsOf (d.reg (F.TMR_CMP1 1)) 47 0 = 0 → d.get (F.TMR_CFG_SRC 1) = 1 → d.links = [] →
      let c := bitsOf (d.reg (F.TMR_CMP0 1)) 47 0
      d.tmrCount 1 < c → c * 2 ^ 32 ≤ d.tmrCount 1 * 2 ^ 32 + (d.ch 1).frac + steps * d.stepAdd 1 pos →
      Completes (.timerMatch 1 [(steps, pos)]) s counted) ∧
    (∀ m w, d.boundaryOk = true → (m = .collar ∨ d.mode = 5) → d.admits m (F.TMR_CMD 1) → bitsOf w 2 2 = 1 →
      Completes (.timerReset m 1 w) s counted)

/-! ## Measurement -/

/-- A TDC unit: a period calibration fixes both laps from CALN launches on each line; a start edge of the job's source and polarity opens an attempt; a
stop edge gives the interval of R297, here without a table and with no edge near its period's end; an edge that is not the job's does nothing; a stop
without a start counts as early; the coarse counter's overflow ends the pair, and with the last attempt the job; a dither edge is weighted into the
building table (R297, R298, R301, R305, R307, R308). -/
def Obligations.TdcEvents : Prop :=
  ∀ (s : State) (u : Fin 2) (o : CalObs) (src : EdgeSrc) (rising : Bool) (k c pos ps pp : Nat) (j : TdcJob) (js : List TdcJob),
    s.dev.atRest → s.dev.held = [] →
    let d := s.dev
    let x := d.tdc u
    let n := d.get (F.TDC_CFG_CALN u)
    let ext : Bool := d.flag (F.TDC_CFG_TBASE u) && d.clk.xrefTdc
    let far (n m : Nat) (l : Nat × Nat) : Prop := 0 < l.1 ∧ 0 < l.2 ∧ (2 * n + 1) * l.2 < 2048 * l.1 ∧ (2 * m + 1) * l.2 < 2048 * l.1
    let comes : Prop := src = .usf ∨ d.pads.lost = false
    let mine (want : EdgeSrc) (fall : Bool) : Prop := src = want ∧ (src = .usf ∨ rising = !fall)
    (d.flag F.CLK_SLKSTAT_OPEN = true → x.cal = false → x.fenced = false → d.tdcBusy u = true → d.bist.calBad = [] → (9 + u.val) ∉ d.bist.qcal →
      n ≤ o.start.length → n ≤ o.stop.length → (ext = true → o.xref ≠ none) → Completes (.tdcCalibrationDone u o) s (fun t =>
      (t.tdc u).cal = true ∧ (t.tdc u).lamS = lapPeriod x.act 0 (o.start.take n) ∧ (t.tdc u).lamP = lapPeriod x.act 1 (o.stop.take n) ∧
      t.flag (F.TDC_TNOW_TB u) = ext ∧ d.Same t (fun a => a = F.TDC_PCALS u ∨ a = F.TDC_PCALP u ∨ a = F.TDC_TNOW u))) ∧
    (x.queue = j :: js →
      (d.tdcReady u = true →
        (comes → mine j.startSrc j.startFall → Completes (.tdcStartEdge u src rising k pos) s (fun t =>
          t.tdc u = { x with queue := { j with tries := j.tries + 1 } :: js, pair := some pos, startT := d.clkSet.periodPs k, hist := [d.clkSet] } ∧
          d.Same t (fun _ => False))) ∧
        (¬ mine j.startSrc j.startFall → Completes (.tdcStartEdge u src rising k pos) s (fun t => t.tdc u = x ∧ d.Same t (fun _ => False))) ∧
        (comes → mine j.stopSrc j.stopFall → Completes (.tdcStopEdge u src rising c pos []) s (fun t =>
          t.tdc u = { x with queue := { j with nEarly := j.nEarly + 1 } :: js } ∧
          t.get (F.TDC_STAT_EARLYN u) = min 255 (d.get (F.TDC_STAT_EARLYN u) + 1) ∧ d.Same t (fun _ => False)))) ∧
      (x.pair = some ps → ¬ mine j.stopSrc j.stopFall → Completes (.tdcStopEdge u src rising c pp []) s (fun t =>
        t.tdc u = x ∧ d.Same t (fun _ => False))) ∧
      (x.pair = some ps → comes → mine j.stopSrc j.stopFall → (d.flag F.CLK_SLKSTAT_OPEN = true → x.cal = true) → j.win = true → j.tries < j.n →
        j.usf = none → x.act = none → x.lamS = x.lamP → far ps pp x.lamS → 0 < x.t.2 → 0 < c → c < 2 ^ 24 →
        Completes (.tdcStopEdge u src rising c pp []) s (fun t =>
          let v := nearest (256 * x.t.1 * (1024 * c * x.lamS.1 + ((ps : Int) - pp) * x.lamS.2)) (1024 * x.t.2 * x.lamS.1)
          (t.tdc u).pair = none ∧ t.get (F.TDC_LAST_INTERVAL u) = (max 0 (min (2 ^ 48 - 1) v)).toNat ∧
          (t.tdc u).queue.map (·.xs) = (j.xs ++ [(max 0 (min (2 ^ 48 - 1) v)).toNat]) :: js.map (·.xs) ∧
          d.Same t (fun a => a = F.TDC_LAST u))) ∧
      (x.pair = some ps → j.win = false → js = [] → j.usf = none → j.who = Own.sleeveL → j.block < 256 → d.owner j.block = Own.tdc →
        Completes (.tdcCoarseOverflow u) s (fun t =>
          (t.tdc u).queue = [] ∧ (t.tdc u).pair = none ∧ t.get (F.TDC_LAST_INTERVAL u) = 0 ∧
          t.get (F.TDC_STAT_LOSTN u) = min 255 (d.get (F.TDC_STAT_LOSTN u) + 1) ∧
          t.owner j.block = Own.sleeveL ∧ t.full j.block = true ∧ (d.paired = false → d.raisedOnly t (Ev.tdcDone u) 1)))) ∧
    (d.flag F.CLK_SLKSTAT_OPEN = true → d.get F.CLK_STAT_SRC ≠ 2 → x.cal = true → x.pair = none → x.queue = [] →
      x.dither < 64 * d.get (F.TDC_CFG_DMAX u) → Completes (.tdcDitherSample u [ps] [pp]) s (fun t =>
        let add (line p : Nat) (l : Nat × Nat) : Prop := p < 1024 → p < reachOf false l →
          (t.tdc u).bld.weight line p = x.bld.weight line p + 60 / ((reachOf false l - p - 1) / 1024 + 1)
        (t.tdc u).dither = x.dither + 1 ∧ add 0 ps x.dpS ∧ add 1 pp x.dpP ∧ d.Same t (fun a => a = F.TDC_HITS u)))

/-- Shots: a launch takes one shot of the request whose turn it is, below the shot floor none; listening that ends without a first wave counts as no echo;
a short in the burst loses the path; a fourth good test in a row brings it back, and any other test begins the count again; a learning run ends without
enough windows, or with the new offset written as a trusted parameter (R316, R321, R322, R327 to R329). -/
def Obligations.ShotEvents : Prop :=
  ∀ (s : State) (p : Fin 4) (at_ peak : Nat) (r : UsfReq) (x : Shot) (fl eb : TestShot), s.dev.atRest → s.dev.held = [] →
    let d := s.dev
    let z := Store.get (fun _ => []) d.usf.zw p
    let zaddr := 0x86000 + 0x100 + 0x10 * p.val + 3
    (d.flag F.CLK_SLKSTAT_OPEN = true → d.usf.shot = none → d.usfNext at_ = some r → (r.wave && r.orphan) = false →
      (d.shotOk = true → d.slotPassed r.path at_ = true → (r.wave = true ∨ (d.tdc r.unit).cal = true ∧ (d.tdc r.unit).pair = none) →
        Completes (.shotLaunch at_) s (fun t =>
          (∃ y, t.usf.shot = some y ∧ y.id = r.id ∧ y.path = r.path ∧ y.ebb = r.ebb ∧ y.wave = r.wave ∧ y.got = false) ∧
          t.usf.lastLaunch.find? (fun e => e.1 == r.path) = some (r.path, d.launchTime at_) ∧ t.usf.path = some r.path ∧
          t.usf.queue.map (·.left) = d.usf.queue.map (fun q => if q.id = r.id then q.left - 1 else q.left) ∧ d.Same t (fun _ => False))) ∧
      (d.shotOk = false → Completes (.shotLaunch at_) s (fun t =>
        t.flag F.USF_STAT_FLOOR = true ∧ t.usf = d.usf ∧ d.Same t (fun _ => False)))) ∧
    (d.usf.shot = some x → x.path = p → x.wave = false → (∀ q ∈ d.usf.queue, q.orphan = false) →
      (x.got = false → Completes (.shotListenEnd true peak []) s (fun t =>
        t.usf.shot = none ∧ t.usf.queue = d.usf.queue ∧ d.Same t (fun _ => False))) ∧
      ((∀ q ∈ d.usf.queue, q.id ≠ x.id) → Completes (.shotListenEnd false peak []) s (fun t =>
        t.usf.shot = none ∧ t.flag F.USF_STAT_NOECHO = true ∧
        (t.get F.USF_NOECHO_COUNT >>> (8 * p.val)) % 256 = min 255 ((d.get F.USF_NOECHO_COUNT >>> (8 * p.val)) % 256 + 1) ∧
        d.Same t (fun _ => False)))) ∧
    (d.usf.shot = some x → x.path = p → d.bit F.USF_STAT_LOST p = false → d.usf.queue = [] → d.radio.lost = false → Completes (.driveShort p) s (fun t =>
      t.usf.shot = none ∧ t.bit F.USF_STAT_SHORTED p = true ∧ t.bit F.USF_STAT_LOST p = true ∧ d.recorded t 0x80 1 ∧
      d.SameLogged t (fun _ => False))) ∧
    (d.bit F.USF_STAT_LOST p = true → 64 ≤ (d.pathSt p).age → d.flag F.CLK_SLKSTAT_OPEN = true → d.usf.shot = none → d.testRoom p at_ = true →
      let good (short : Bool) : Prop := d.testGot false fl = true ∧ d.testGot true eb = true ∧ short = false
      let tdcs (a : Nat) : Prop := a = F.TDC_LAST 0 ∨ a = F.TDC_LAST 1
      (d.shotOk = false → ∀ short, Completes (.pathTest p at_ fl eb short) s (fun t =>
        t.flag F.USF_STAT_FLOOR = true ∧ t.pathSt p = d.pathSt p ∧ d.Same t (fun _ => False))) ∧
      (d.shotOk = true → d.testReady false = true → d.testReady true = true → ∀ short,
        (good short → (d.pathSt p).tests < 3 → Completes (.pathTest p at_ fl eb short) s (fun t =>
          (t.pathSt p).tests = (d.pathSt p).tests + 1 ∧ (t.pathSt p).age = 0 ∧ t.bit F.USF_STAT_LOST p = true ∧ d.Same t tdcs)) ∧
        (good short → 3 ≤ (d.pathSt p).tests → Completes (.pathTest p at_ fl eb short) s (fun t =>
          t.bit F.USF_STAT_LOST p = false ∧ t.bit F.USF_STAT_SHORTED p = false ∧ d.recorded t 0x81 1 ∧ d.SameLogged t tdcs)) ∧
        (¬ good short → Completes (.pathTest p at_ fl eb short) s (fun t =>
          (t.pathSt p).tests = 0 ∧ (t.pathSt p).age = 0 ∧ t.bit F.USF_STAT_LOST p = true ∧ (short = true → t.bit F.USF_STAT_SHORTED p = true) ∧
          d.Same t tdcs)))) ∧
    (d.usf.zMask = 2 ^ p.val → d.usf.zLeft = 0 → d.label.zeroDue = false →
      (2 * z.length < d.get F.USF_ZCTL_NZ → Completes .zeroLearnEnd s (fun t =>
        t.usf.zMask = 0 ∧ t.get F.USF_ZCTL_MASK = 0 ∧ t.get F.USF_ZCTL_STAT = 3 ∧ d.Same t (fun a => a = F.USF_ZCTL))) ∧
      (d.get F.USF_ZCTL_NZ ≤ 2 * z.length → (zeroResult z (d.get F.USF_ZCTL_ZSD)).2 = true → d.keyUsable 3 0 = false →
        Completes .zeroLearnEnd s (fun t =>
          let v := (zeroResult z (d.get F.USF_ZCTL_ZSD)).1
          t.usf.zMask = 0 ∧ t.get F.USF_ZCTL_STAT = 2 ∧ (t.load zaddr).getLsbD 71 = true ∧
          (bitsOf (t.load zaddr) 47 0 : Int) = v % 2 ^ 48 ∧ (t.get (F.USF_ZOFS_DT0 p) : Int) = v % 2 ^ 48 ∧ t.get (F.USF_ZOFS_SRC p) = 2 ∧
          d.recorded t 0x13 3)))

/-- Conversions: one starts when its unit is free, its result joins the request's, the last one fills the block and gives it back; one that does not
end fails its unit, a source that loses regulation makes its pair suspect (R332, R337 to R339, R500, R501). -/
def Obligations.ConversionEvents : Prop :=
  ∀ (s : State) (u : Fin 2) (r : AdcReq) (again : Bool) (v : Int), s.dev.atRest → s.dev.held = [] →
    let d := s.dev
    let lim (code : Nat) : Nat := code * 2 ^ 20
    (d.adcHead u = some r → r.orphan = false →
      (d.adcRun u = none → d.flag F.CLK_SLKSTAT_OPEN = false → d.beforeWindow (d.tconv r.input) = true → d.pairFree u r.input = true →
        Completes (.adcConvStart u) s (fun t => t.adcRun u = some false ∧ t.adc.queue = d.adc.queue ∧ d.Same t (fun _ => False))) ∧
      (d.adcRun u = some again → d.flag F.CLK_SLKSTAT_OPEN = false → -2 ^ 35 ≤ v → v < 2 ^ 35 → needsExc (d.get (F.ADC_IN_KIND r.input)) = false →
        d.autor r.input = false → lim (d.get (F.ADC_IN_LOLIM r.input)) ≤ v.natAbs → v.natAbs ≤ lim (d.get (F.ADC_IN_HILIM r.input)) →
        (r.convs.length + 1 < r.n → Completes (.adcConvDone u v false false) s (fun t =>
          t.adcRun u = none ∧ ∃ q, t.adcHead u = some q ∧ q.block = r.block ∧
          q.convs = r.convs ++ [((if again then 8 else 0) + (if r.redirect then 16 else 0), v)])) ∧
        (r.n = 1 → r.convs = [] → r.who = Own.sleeveL → r.block < 256 → d.owner r.block = Own.adc → Completes (.adcConvDone u v false false) s (fun t =>
          t.adcRun u = none ∧ t.owner r.block = Own.sleeveL ∧ t.full r.block = true ∧ t.load (blockAddr r.block + 1) = BitVec.ofInt 72 v ∧
          t.adc.queue.length + 1 = d.adc.queue.length)))) ∧
    (d.adcRun u = some again → d.failedItem (11 + u) = false → d.bist.iso = none → Completes (.adcWatchdog u) s (fun t =>
      t.failedItem (11 + u) = true ∧ (9, u.val) ∈ t.held ∧ t.adcRun u = none)) ∧
    (d.adcRun 0 = some again → d.adcHead 0 = some r → needsExc (d.get (F.ADC_IN_KIND r.input)) = true → d.driver r.input = u →
      Completes (.excitationLoss u) s (fun t => 13 + u.val ∈ t.bist.suspect ∧ d.Same t (fun _ => False)))

/-- Pulses in and out: an edge adds one to each PULSE channel that names its pin and polarity, none comes in while VDDIO is away; an output with backlog starts a pulse, which ends after
WIDTH and its gap after GAP, both rounded up to LF ticks (R362, R376, R377, R522). -/
def Obligations.PulseEvents : Prop :=
  ∀ (s : State) (pin : Fin 16) (falling : Bool) (j : Fin 8), s.dev.atRest →
    let d := s.dev
    let now := d.get F.TIDE_TICKS_TICKS
    let stat (a : Nat) : Prop := a = F.PLS_STAT j
    (d.pads.lost = true → Completes (.pulseEdge pin falling) s (fun t => d.Same t (fun _ => False))) ∧
    (d.pads.lost = false → Completes (.pulseEdge pin falling) s (fun t =>
      t.bit F.SYS_PADSTAT_TPLVL pin = !falling ∧
      (∀ n < 16, t.get (F.MET_CH_PCNT_COUNT n) =
        if d.kind n = 4 ∧ d.get (F.MET_CH_DESC_TPIN n) = pin ∧ d.flag (F.MET_CH_DESC_PEDGE n) = falling then
          (d.get (F.MET_CH_PCNT_COUNT n) + 1) % 2 ^ 48 else d.get (F.MET_CH_PCNT_COUNT n)) ∧
      d.Same t (fun a => ∃ n < 16, a = F.MET_CH_PCNT n))) ∧
    (d.flag (F.PLS_CFG_EN j) = true → d.plsPhase j = 0 → 0 < d.get (F.PLS_STAT_BACKLOG j) → Completes (.pulseEmit j) s (fun t =>
      t.plsPhase j = 1 ∧ t.flag (F.PLS_STAT_ACTIVE j) = true ∧ t.get (F.PLS_STAT_BACKLOG j) + 1 = d.get (F.PLS_STAT_BACKLOG j) ∧
      t.plsEmitted j = d.plsEmitted j + 1 ∧ t.get (F.PLS_STAT_EMITTED j) = (d.plsEmitted j + 1) % 2 ^ 32 ∧
      t.plsDue j = now + (d.get (F.PLS_CFG_WIDTH j) * 32768 + 999) / 1000 ∧ d.Same t stat)) ∧
    (d.plsPhase j = 1 → d.plsDue j ≤ now → Completes (.pulseWidthEnd j) s (fun t =>
      t.plsPhase j = 2 ∧ t.flag (F.PLS_STAT_ACTIVE j) = false ∧
      t.plsDue j = now + (d.get (F.PLS_CFG_GAP j) * 32768 + 999) / 1000 ∧ d.Same t stat)) ∧
    (d.plsPhase j = 2 → d.plsDue j ≤ now → Completes (.pulseGapEnd j) s (fun t =>
      t.plsPhase j = 0 ∧ t.flag (F.PLS_STAT_ACTIVE j) = false ∧ d.Same t stat))

/-! ## The loop link and the ports -/

/-- What the loop master's reads answer: each well-formed frame addressed to the device counts in RXOK, sets RX and queues its reply, with the data of
R398; nothing else of registers, memory and engines changes (R392, R394, R395, R398). The words are read with CARRIER already over. -/
def Obligations.LoopReads : Prop :=
  ∀ (s : State) (f : LoopFrame) (a b c n : Nat), s.dev.atRest → s.dev.flag F.LOOP_STAT_CARRIER = false → a < 256 → b < 256 → c < 256 → n < 256 →
    let d := s.dev
    let x := d.put F.LOOP_STAT_CARRIER 0
    let answers (cmd : Nat) (i : Instr) (data : List Nat) : Prop := Completes i s (fun t =>
      d.replied t cmd 0 data ∧ t.flag F.LOOP_EVT_RX = true ∧ t.get F.LOOP_CNT_RXOK = min (2 ^ 24 - 1) (d.get F.LOOP_CNT_RXOK + 1) ∧
      d.Same t (fun y => y = F.LOOP_CNT))
    (d.hears 0x10 f → f.data = [] → answers 0x10 (.identify f)
      (wordBytes (x.regRead F.SYS_ID) ++ wordBytes (x.regRead F.COLLAR_ID) ++ natBytes 2 (d.get F.LOOP_CFG_ADDR) ++
        natBytes 3 (bitsOf (d.reg (F.TMR_CMP0 1)) 47 0) ++ [d.mode])) ∧
    (d.hears 0x11 f → f.data = [] → d.get F.LOOP_STAT_SETPT < 65536 → answers 0x11 (.readOutput f)
      (natBytes 2 (d.get F.LOOP_STAT_SETPT) ++ natBytes 2 (d.get F.LOOP_STAT_MEAS) ++ [d.get F.LOOP_STAT_STATE] ++ wordBytes (Word.ofI d.loop.x) ++
        [d.get F.LOOP_MAP_QTY])) ∧
    (d.hears 0x12 f → f.data = [a, b, c] → a < 16 → b < 32 → answers 0x12 (.readAcc f)
      (((List.range 13).filter (fun k => (256 * b + c).testBit k)).flatMap (fun k => natBytes 9 (d.acc a k)))) ∧
    (d.hears 0x13 f → f.data = [a, b, c, n] → a < 16 → 1 ≤ n → n ≤ 26 → answers 0x13 (.readWords f)
      ((List.range n).flatMap (fun i => wordBytes (x.portRead (65536 * a + 256 * b + c + i))))) ∧
    (d.hears 0x14 f → f.data = [] → answers 0x14 (.readStatus f)
      (wordBytes (x.regRead F.SYS_MODE) ++ wordBytes (x.regRead F.SYS_START) ++ wordBytes (x.regRead F.MET_IFSTAT) ++
        wordBytes (x.regRead F.LOOP_STAT) ++ wordBytes (x.regRead F.USF_STAT))) ∧
    (d.hears 0x15 f → f.data = [0, 0, 0, 0, b, c, n] → 1 ≤ n → n ≤ 16 →
      let first := max (256 * b + c) (d.logNext - 6144)
      let k := min (min n 6) (d.logNext - first)
      answers 0x15 (.readLog f) ([k] ++ natBytes 6 (first + k) ++
        (List.range k).flatMap (fun i => wordsBytes (d.loadAll (logAddr (first + i)) 4))))

/-- What the loop master's other commands do: SERVICE and IMG_DATA call the Collar, the three orders are held for the boundary, an application command
goes to its block's HOME, an unassigned code is a violation (R394, R396, R398 to R402, R404, R405). The device is in a running mode other than HOLD,
and no order has come in this cycle. -/
def Obligations.LoopCommands : Prop :=
  ∀ (s : State) (f : LoopFrame) (blk cmd : Nat), s.dev.atRest → s.dev.get F.SYS_MODE_STAGE = 4 → s.dev.mode ≠ 7 → s.dev.orders = [] →
    s.dev.heldOrders = [] → s.dev.col.svcQ = [] → s.dev.held = [] →
    let d := s.dev
    let word (k : Nat) : Word := BitVec.ofNat 72 (bytesNat ((f.data.drop k).take 9))
    let num (k n : Nat) : Nat := bytesNat ((f.data.drop k).take n)
    let pooled : Prop := (d.poolOf true).head? = some blk ∧ blk < 256
    let held (t : Dev) (k : HeldKind) (cmd : Nat) : Prop :=
      t.heldOrders = [⟨.loop, k, cmd, 0⟩] ∧ t.loop.queue = d.loop.queue ∧ t.flag F.LOOP_EVT_RX = true ∧ d.Same t (fun y => y = F.LOOP_CNT)
    (d.hears 0x20 f → f.data.length = 11 → f.data.getD 1 0 = 1 → (svcCallers (f.data.getD 0 0)).isSome = true → Completes (.service f) s (fun t =>
      t.col.svcQ = [⟨f.data.getD 0 0, .loop 0x20, [word 2]⟩] ∧ t.flag F.LOOP_EVT_RX = true ∧ d.Same t (fun y => y = F.LOOP_CNT))) ∧
    (d.hears 0x21 f → f.data.length = 13 → f.data.getD 3 0 = 1 → pooled → Completes (.imgData f) s (fun t =>
      t.col.svcQ = [⟨0x0B, .loop 0x21, [BitVec.ofNat 72 blk, BitVec.ofNat 72 (num 0 3), 1]⟩] ∧ t.owner blk = Own.collar ∧ t.full blk = true ∧
      t.load (blockAddr blk) = word 4)) ∧
    (d.hears 0x30 f → f.data.length = 14 → 0x4000 ≤ num 0 3 → num 0 3 < 0x10000 → 1 ≤ num 4 1 → num 3 1 + num 4 1 ≤ 72 →
      Completes (.writeField f) s (fun t => held t (.field (num 0 3) (num 3 1) (num 4 1) (word 5)) 0x30)) ∧
    (d.hears 0x31 f → f.data.length = 9 → Completes (.time f) s (fun t => held t (.time (word 0) d.shownSec) 0x31)) ∧
    (d.hears 0x32 f → f.data.length = 2 →
      (d.mode = 5 → Completes (.loopTest f) s (fun t => held t (.test (num 0 2)) 0x32)) ∧
      (d.mode ≠ 5 → Completes (.loopTest f) s (fun t =>
        d.replied t 0x32 5 [] ∧ t.pfCount 5 = min 65535 (d.pfCount 5 + 1) ∧ t.heldOrders = []))) ∧
    (d.hears cmd f → d.loopAssigned cmd = false → Completes (.unknownCommand cmd f) s (fun t =>
      d.replied t cmd 4 [] ∧ t.pfCount 3 = min 65535 (d.pfCount 3 + 1) ∧ t.flag F.LOOP_EVT_FAULT = true ∧
      d.Same t (fun y => y = F.LOOP_PFSTAT))) ∧
    (d.hears cmd f → 0x80 ≤ cmd → cmd ≤ 0xBF → d.flag F.LOOP_CFG_APPEN = true → d.loop.rxtag < 256 → d.paired = false → pooled →
      Completes (.applicationCommand cmd f) s (fun t =>
        t.owner blk = d.home blk ∧ t.full blk = true ∧ t.loop.app = d.loop.app ++ [(cmd, d.loop.rxtag, d.get F.TIDE_TICKS_TICKS)] ∧
        t.loop.rxtag = (d.loop.rxtag + 1) % 256 ∧ bitsOf (t.load (blockAddr blk)) 71 64 = cmd ∧
        bitsOf (t.load (blockAddr blk)) 63 56 = f.data.length ∧ bitsOf (t.load (blockAddr blk)) 39 32 = d.loop.rxtag))

/-- The loop link's events: a carrier wakes the chip, a truncated frame is answered and counted, a reply starts when the loop is free, a collision
abandons it, an application's reply is queued or times out as BUSY, and a fixed current ends after 600 s (R386, R388, R389, R395, R397, R402). -/
def Obligations.LoopEvents : Prop :=
  ∀ (s : State) (cmd tag from_ : Nat) (r : LReply) (rs : List LReply) (b : Fin 256), s.dev.get F.SYS_MODE_STAGE = 4 → s.dev.held = [] →
    let d := s.dev
    (d.atRest →
      Completes .loopCarrierDetect s (fun t => t.flag F.LOOP_STAT_CARRIER = true ∧ t.asleep = false) ∧
      Completes (.loopFrameTimeout none cmd) s (fun t => t.flag F.LOOP_STAT_CARRIER = false ∧ d.Same t (fun _ => False)) ∧
      Completes (.loopFrameTimeout (some (d.get F.LOOP_CFG_ADDR)) cmd) s (fun t =>
        d.replied t cmd 3 [] ∧ t.pfCount 6 = min 65535 (d.pfCount 6 + 1) ∧ t.flag F.LOOP_EVT_FAULT = true) ∧
      (d.loop.queue = r :: rs → d.loop.resend = none → d.flag F.LOOP_STAT_TX = false → d.flag F.LOOP_STAT_CARRIER = false →
        Completes .loopReplySend s (fun t =>
          t.flag F.LOOP_STAT_TX = true ∧ t.loop.sending = some r ∧ t.loop.queue = rs ∧
          t.loop.frame.take 11 = [0x55, 0x55, 0x55, 0x55, 0xD8] ++ natBytes 2 (d.get F.LOOP_CFG_ADDR) ++
            [r.cmd, 2 + r.data.length, r.code, (d.onLoop (fun l => { l with queue := rs })).loopFlags] ∧
          d.Same t (fun _ => False))) ∧
      (d.loop.app = [(cmd, tag, from_)] →
        (from_ + 16384 ≤ d.get F.TIDE_TICKS_TICKS → Completes (.appReplyTimeout false) s (fun t =>
          t.loop.app = [] ∧ d.replied t cmd 1 [] ∧ t.pfCount 8 = min 65535 (d.pfCount 8 + 1))) ∧
        (d.get F.TIDE_TICKS_TICKS < from_ + 16384 → Completes (.appReplyTimeout false) s (fun t => t.loop = d.loop ∧ d.Same t (fun _ => False))) ∧
        (d.owner b = Own.loop → d.full b = true → bitsOf (d.load (blockAddr b)) 71 64 = cmd → bitsOf (d.load (blockAddr b)) 39 32 = tag →
          Completes (.loopAppReply b) s (fun t =>
            t.loop.app = [] ∧ (∃ q, t.loop.queue = d.loop.queue ++ [q] ∧ q.cmd = cmd ∧ q.block = some b.val ∧
              q.code = bitsOf (d.load (blockAddr b)) 55 48) ∧ d.Same t (fun _ => False)))) ∧
      (d.flag F.LOOP_FIX_EN = true → d.loop.fixFrom + 600 ≤ d.seconds → Completes .loopFixTimeout s (fun t =>
        t.flag F.LOOP_FIX_EN = false ∧ d.Same t (fun y => y = F.LOOP_FIX)))) ∧
    (d.loop.sending = some r → d.stepDue = [] → d.col.bndDue = false → d.busHeld = false → d.slack.waiting = [] → r.tries < 2 →
      Completes .loopCollision s (fun t =>
        t.loop.sending = none ∧ t.flag F.LOOP_STAT_TX = false ∧ t.flag F.LOOP_STAT_CARRIER = true ∧ t.flag F.LOOP_EVT_COLL = true ∧
        t.loop.resend = some { r with tries := r.tries + 1 } ∧ t.pfCount 7 = min 65535 (d.pfCount 7 + 1)))

/-- Transactions of the host port and the debug port: the header, a READ's quarters with their checks, a WRITE of one word whose quarters all pass and
of one with a quarter that fails, and the ends that cut a transaction (R122, R407 to R414, R525). No trace record waits to be streamed. -/
def Obligations.PortTransactions : Prop :=
  ∀ (s : State) (dbg : Bool) (h : PortHdr) (q : Nat → Nat) (e : Nat), s.dev.atRest → h.qmask = 0 → h.count = 1 → h.addr < 2 ^ 20 →
    (s.dev.traceN = 0 ∨ s.dev.flag F.DBG_TRCFG_STREAM = false) →
    let d := s.dev
    let four := [0, 1, 2, 3]
    let status := 128 * (decide (3 ≤ d.get F.SYS_MODE_STAGE)).toNat + 64 * d.hirq.toNat + 32 * (d.get F.CLK_STAT_SRC == 2).toNat +
      16 * (d.flag F.SYS_START_PROV).toNat + 8 * (d.portAt dbg).err.toNat + d.mode % 8
    let header := [0xC3, status] ++ natBytes 2 ((d.reg F.HOST_IRQ).toNat % 65536)
    let rx := four.map (fun i => (q i, crc6 h.addr i 32 (q i)))
    (d.portUp dbg = true → (d.portAt dbg).open_ = false → Completes (.hostSelect dbg) s (fun t =>
      (t.portAt dbg).open_ = true ∧ (t.portAt dbg).done = none ∧ t.asleep = false)) ∧
    (d.portReady dbg = true →
      Completes (.hostNop dbg 0) s (fun t =>
        (t.portAt dbg).out = header ∧ (t.portAt dbg).done = some true ∧ (t.portAt dbg).open_ = !dbg ∧ d.Same t (fun _ => False)) ∧
      Completes (.hostRead dbg h 4) s (fun t =>
        (t.portAt dbg).done = some true ∧ d.Same t (fun _ => False) ∧ (latched h.addr = true → (t.portAt dbg).latch = d.portRead h.addr) ∧
        (t.portAt dbg).out = header ++ four.flatMap (fun i => let v := bitsOf (d.portRead h.addr) (18 * i + 17) (18 * i)
          [v / 1024 % 256, v / 4 % 256, v % 4 * 64 + crc6 h.addr i 16 v % 64])) ∧
      (h.addr = F.LOOP_PV → (∀ i < 4, q i < 2 ^ 18) → d.admits (portMaster dbg) F.LOOP_PV →
        Completes (.hostWrite dbg h rx true) s (fun t =>
          (∀ i < 4, bitsOf (t.reg F.LOOP_PV) (18 * i + 17) (18 * i) = q i) ∧ t.get F.HOST_STAT_LAST = 0 ∧ (t.portAt dbg).done = some true ∧
          d.Same t (fun a => a = F.LOOP_PV ∨ a = F.HOST_STAT)) ∧
        (e % 64 ≠ crc6 h.addr 0 32 (q 0) → Completes (.hostWrite dbg h ((q 0, e) :: rx.drop 1) true) s (fun t =>
          t.reg F.LOOP_PV = d.reg F.LOOP_PV ∧ t.flag F.HOST_STAT_NAK = true ∧ t.get F.HOST_STAT_LAST = 8 ∧ (t.portAt dbg).err = true ∧
          t.get F.HOST_STAT_NAKN = min 255 (d.get F.HOST_STAT_NAKN + 1))))) ∧
    (d.port.open_ = true → d.port.done = some false → Completes .hostDeselect s (fun t =>
      t.flag F.HOST_STAT_TRUNC = true ∧ t.port.open_ = false ∧ t.port.err = true ∧ d.Same t (fun a => a = F.HOST_STAT))) ∧
    (d.port.open_ = true → d.port.done ≠ some false → Completes .hostDeselect s (fun t => t.port.open_ = false ∧ d.Same t (fun _ => False))) ∧
    (d.dport.open_ = true → d.dport.done = some false → Completes .dclkIdleTimeout s (fun t =>
      t.flag F.HOST_STAT_TRUNC = true ∧ t.dport.open_ = false ∧ t.dport.err = true ∧ d.Same t (fun a => a = F.HOST_STAT)))

/-! ## The radio -/

/-- Joining and leaving: scanning moves on, a usable beacon gives timing and is answered by a JOIN_REQ, a good JOIN_RESP gives key, address and lease,
a join that is not answered is tried again after a doubling wait, a lease is renewed and ends, a hold ends, a lost sync or LEAVE ends the membership
(R434 to R438, R447, R457). -/
def Obligations.RadioMembership : Prop :=
  ∀ (s : State) (eb : EbFrame) (f : RxFrame) (h : RioHdr) (j : JoinResp) (n t0 : Nat) (p : Nat × Nat), s.dev.atRest →
    let d := s.dev
    let now := d.seconds
    let room : Prop := d.radio.ord.length < 16
    let gone (t : Dev) : Prop := t.inNet = false ∧ t.get F.MAC_ADDR_SHORT = 0xFFFF ∧ t.get F.MAC_KEY_CUR = 0 ∧ t.radio.links = [] ∧
      t.radio.ord = [] ∧ t.flag F.MAC_EVT_LEFT = true
    (d.jstate = 1 → Completes .scanDwell s (fun t =>
      t.radio.scan = (d.radio.scan + 1) % max 1 (d.get F.RADIO_CHPLAN_NCH) ∧ d.Same t (fun _ => False))) ∧
    (d.radioUp = true → d.jstate = 1 → d.ebUsable eb = true → room → Completes (.ebReceived eb) s (fun t =>
      t.jstate = 2 ∧ t.get F.MAC_ASN_ASN = eb.asn % 2 ^ 40 ∧ t.radio.peer = some (eb.src, eb.eui) ∧ t.radio.due = now + 30 ∧
      ∃ m, t.radio.ord = d.radio.ord ++ [m] ∧ m.ty = 0x01 ∧ m.dest = eb.src ∧ m.data.take 8 = natBytes 8 (d.get F.RADIO_EUI_EUI))) ∧
    (d.radioUp = true → d.radio.peer = some p → f.src = p.1 → f.fcs = true → 5 ≤ f.level → f.level ≤ 7 → d.get F.MAC_CFG_SECLVL ≤ f.level → f.key = 0 →
      d.micOk true f = true → d.radio.floors = [] →
      (200 < h.len ∨ 16 < j.links.length → room → Completes (.joinResp f h j) s (fun t =>
        t.radio.ord = d.radio.ord ++ [⟨0x21, h.orig, h.rseq, 2, [], 0, true, d.radio.awakeTill.isSome, none⟩] ∧
        t.pfCount 17 = min 65535 (d.pfCount 17 + 1) ∧ t.jstate = d.jstate)) ∧
      (h.len = 56 + 6 * j.links.length → h.got = h.len → j.links.length ≤ 16 → j.asn = none →
      j.nonce = d.radio.nonce → 1 ≤ j.short → j.short ≤ 0xFFFD → 60 ≤ j.lease → j.lease ≤ 604800 → 1 ≤ j.keyIdx → j.keyIdx < 256 →
      j.parent < 65536 → d.keyUsable 4 1 = true → Completes (.joinResp f h j) s (fun t =>
        (Config.unwrap (d.keyAt 4).key j.wrapped = none → t.pfCount 27 = min 65535 (d.pfCount 27 + 1) ∧ t.jstate = d.jstate) ∧
        ∀ key, Config.unwrap (d.keyAt 4).key j.wrapped = some key → t.jstate = 3 ∧ t.get F.MAC_ADDR_SHORT = j.short ∧ t.get F.MAC_ADDR_PARENT = j.parent ∧ t.get F.MAC_KEY_CUR = j.keyIdx ∧
        t.keyAt 5 = ⟨1, key⟩ ∧ t.keyState 5 = 1 ∧ t.radio.leaseEnd = now + j.lease ∧ t.radio.renew = now + 3 * j.lease / 4 ∧
        t.radio.coord = j.coord ∧ t.radio.lost = false ∧ t.flag F.MAC_EVT_JOINED = true))) ∧
    (d.jstate = 2 → d.radio.peer = some p → d.radio.due ≤ now → Completes .joinTimeout s (fun t =>
      t.jstate = 5 ∧ t.radio.peer = none ∧ t.radio.boff = (if d.radio.boff = 0 then 10 else min (2 * d.radio.boff) (d.get F.MAC_TIMING_BOMAX)) ∧
      t.radio.due = now + t.radio.boff)) ∧
    (d.jstate = 5 → d.radio.due ≤ now → d.mayScan = true → Completes .joinBackoffEnd s (fun t => t.jstate = 1 ∧ d.Same t (fun _ => False))) ∧
    (d.jstate = 3 → d.radio.renew ≤ now → d.mode ≠ 7 → (∀ m ∈ d.radio.ord, m.ty ≠ 3) → room → Completes .leaseRenewDue s (fun t =>
      t.radio.renew = now + 60 ∧ t.radio.ord = d.radio.ord ++ [⟨0x03, d.radio.coord, d.radio.rseq, 0, [], 0, false, false, none⟩] ∧
      d.Same t (fun _ => False))) ∧
    (d.accepts f → d.counterLeft f → h.len = 4 → h.got = 4 → h.orig = d.radio.coord →
      Completes (.leaseResp f h n) s (fun t =>
        t.radio.leaseEnd = now + n ∧ t.radio.renew = now + 3 * n / 4 ∧ d.heard t f (fun _ => False)) ∧
      (1 ≤ n → n ≤ 86400 → Completes (.leave f h n) s (fun t => gone t ∧ t.jstate = 0 ∧ t.radio.hold = some (now + n)))) ∧
    (d.inNet = true → d.radio.leaseEnd ≤ now → d.quietNow = false → Completes .leaseExpiry s gone) ∧
    (d.radio.hold = some t0 → t0 ≤ now → d.flag F.MAC_CFG_EN = true → d.flag F.MAC_CFG_JOINEN = true → d.bist.radioOff = false →
      Completes .leaveHoldEnd s (fun t => t.radio.hold = none ∧ t.jstate = 1 ∧ d.Same t (fun _ => False))) ∧
    (d.jstate = 3 → d.get F.MAC_ERR_SYNCTO * 32768 ≤ d.sinceSync → d.radio.alarms = [] → Completes .syncTimeout s (fun t =>
      t.jstate = 4 ∧ t.radio.lost = true ∧ t.radio.ord = [] ∧ t.flag F.MAC_EVT_PLOST = true ∧ d.recorded t 0x54 1))

/-- What the messages of the coordinator and its partners do, once accepted: SCHEDULE, ALARM_ACK, COMMAND, TIME, QUIET and REKEY, and a TYPE no rule
gives (R439, R447, R449 to R452, R455, R464, R466). The ordinary queue has room, and no order has come in this cycle. -/
def Obligations.RadioMessages : Prop :=
  ∀ (s : State) (f : RxFrame) (h : RioHdr) (asn n ty : Nat) (l : RLink) (a : RAlarm) (at_ tm : Word) (wrapped : List Nat), s.dev.atRest →
    s.dev.accepts f → s.dev.counterLeft f → h.got = h.len → h.orig = s.dev.radio.coord → s.dev.radio.ord.length < 16 → s.dev.get F.SYS_MODE_STAGE = 4 → s.dev.mode ≠ 7 →
    s.dev.orders = [] → s.dev.heldOrders = [] →
    let d := s.dev
    let me := d.get F.MAC_ASN_ASN
    let reply (code : Nat) (data : List Nat) : RMsg := ⟨0x21, h.orig, h.rseq, code, data, 0, true, d.radio.awakeTill.isSome, none⟩
    let field : HeldKind := .field F.LOOP_PV 0 72 at_
    let xs : List Nat := natBytes 3 F.LOOP_PV ++ [0, 72] ++ natBytes 9 at_.toNat
    (h.len = 12 → l.sf < 4 → d.radio.sched = [] → (∀ x ∈ d.radio.links, x.sf < 4) → d.radio.links.length < 64 →
      Completes (.schedule f h asn [(false, l)]) s (fun t =>
        t.radio.sched = [(max asn (me + 1), false, { l with neigh := d.get F.MAC_ADDR_PARENT, flags := l.flags % 32 + 32 })] ∧
        t.radio.links = d.radio.links ∧ d.heard t f (fun _ => False))) ∧
    (h.len ≤ 200 → d.radio.alarms = [a] → a.code = n → a.rseq = h.rseq → Completes (.alarmAck f h n) s (fun t =>
      t.radio.alarms = [] ∧ t.flag F.MAC_STAT_DISTRESS = false)) ∧
    (h.len = 0 → h.code = 0x14 → d.origOf h.orig = none → Completes (.command f h at_ []) s (fun t =>
      t.radio.ord = d.radio.ord ++ [reply 0 (wordBytes (d.regRead F.SYS_MODE) ++ wordBytes (d.regRead F.SYS_START) ++
        wordBytes (d.regRead F.MET_IFSTAT) ++ wordBytes (d.regRead F.LOOP_STAT) ++ wordBytes (d.regRead F.USF_STAT))] ∧
      d.heard t f (fun _ => False))) ∧
    (h.len = 14 → h.code = 0x30 → d.origOf h.orig = none → Completes (.command f h at_ xs) s (fun t =>
      t.heldOrders = [⟨.radio h.orig, field, 0x30, h.rseq⟩] ∧ t.radio.ord = d.radio.ord ∧ d.heard t f (fun _ => False))) ∧
    (∀ o, h.len ≤ 200 → d.origOf h.orig = some o →
      (∀ m, o.rseq = h.rseq → o.reply = some m → Completes (.command f h at_ xs) s (fun t =>
        t.radio.ord = d.radio.ord ++ [{ m with tries := 0 }] ∧ t.heldOrders = [] ∧ d.heard t f (fun _ => False))) ∧
      (o.rseq ≠ h.rseq → (h.rseq + 65536 - o.rseq) % 65536 ≥ 32768 → Completes (.command f h at_ xs) s (fun t =>
        t.radio.ord = d.radio.ord ++ [reply 7 []] ∧ t.heldOrders = [] ∧ t.pfCount 22 = min 65535 (d.pfCount 22 + 1)))) ∧
    (h.len = 14 → Completes (.timeMessage f h me tm at_) s (fun t =>
      t.heldOrders = [⟨.radio h.orig, .time tm at_, 0, h.rseq⟩] ∧ d.heard t f (fun _ => False))) ∧
    (h.len = 8 → d.quietNow = false → asn < 2 ^ 40 → 1 ≤ n → n < 2 ^ 24 → me + 1 < asn + n → Completes (.quiet f h asn n) s (fun t =>
      t.get F.MAC_QUIET_START = asn ∧ t.get F.MAC_QUIET_LEN = n ∧ t.flag F.MAC_QUIET_PEND = true ∧ t.radio.quietEnd = asn + n ∧
      t.radio.quietFrom = max asn (me + 1) ∧ t.flag F.MAC_EVT_QUIET = true ∧ d.recorded t 0x59 1)) ∧
    (h.len = 30 → 1 ≤ n → n < 256 → me < asn → asn < 2 ^ 40 →
      Completes (.rekey f h n wrapped asn) s (fun t =>
        (Config.unwrap (d.keyAt 5).key wrapped = none → t.radio.ord = d.radio.ord ++ [reply 5 []] ∧ t.keyAt 6 = d.keyAt 6) ∧
        ∀ key, Config.unwrap (d.keyAt 5).key wrapped = some key → t.keyAt 6 = ⟨1, key⟩ ∧ t.keyAt 5 = d.keyAt 5 ∧ t.get F.MAC_KEY_NEXT = n ∧ t.get F.MAC_KEY_SWITCH = asn ∧
        t.get F.MAC_KEY_CUR = d.get F.MAC_KEY_CUR ∧ d.recorded t 0x16 1)) ∧
    (h.len ≤ 200 → riosteyKnown ty = false → Completes (.riosteyUnknownType f ty h) s (fun t =>
      t.radio.ord = d.radio.ord ++ [reply 4 []] ∧ t.pfCount 18 = min 65535 (d.pfCount 18 + 1)))

/-- Slots, periods and wake words: a slot sends the frame whose turn it is, with its nonce, and its acknowledgement is a sync; a slack-water window that
stands over the slot makes it a missed one; keep-alives, reports, quiet periods, key
switches, an application's message, the actions of a wake word and what rejects one, and the PHR error (R22, R420, R425 to R428, R443, R447, R453, R456,
R461, R462, R464). -/
def Obligations.RadioSlotsAndWakes : Prop :=
  ∀ (s : State) (asn w len : Nat) (sw : Bool) (l : RLink) (m : RMsg) (delta : Int) (b : Fin 256) (orig rseq cmd tag t0 : Nat), s.dev.atRest →
    let d := s.dev
    let now := d.get F.TIDE_TICKS_TICKS
    let room : Prop := d.radio.ord.length < 16
    let woken (t : Dev) : Prop := t.get F.WUR_STAT_WAKEN = min 255 (d.get F.WUR_STAT_WAKEN + 1) ∧ t.get F.WUR_STAT_LAST = w % 2 ^ 32 ∧
      (d.paired = false → d.held = [] → d.raisedOnly t Ev.wurWake 1) ∧ d.Same t (fun _ => False)
    let awake (t : Dev) : Prop := t.radio.awakeTill = some (now + d.get F.WUR_CFG_AWAKE * 32768)
    (d.radioUp = true → d.jstate = 3 → d.get F.MAC_ASN_ASN ≤ asn → asn < 2 ^ 40 → d.asleep = false → d.flag F.MAC_QUIET_GRACE = false → d.radio.sched = [] →
      d.guardOver = false →
      (d.slotLinks asn = [] → Completes (.timeslotStart asn false .none none) s (fun t =>
        t.get F.MAC_ASN_ASN = asn ∧ d.Same t (fun a => a = F.MAC_ASN))) ∧
      (d.slotLinks asn = [l] → l.tx = true → l.shared = false → l.neigh = d.get F.MAC_ADDR_PARENT → d.quietNow = false → d.radio.lost = false →
        d.radio.exhausted = false → d.radio.alarms = [] → d.radio.lateAcks = [] → d.radio.ord = [m] →
        d.ordReady m = true → m.ty ≠ 1 → m.block = none → d.txAllowed false = true →
        (d.flag F.CLK_SLKSTAT_OPEN = true → Completes (.timeslotStart asn false (.ack delta) none) s (fun t =>
          t.radio.ord = [m] ∧ t.get F.MAC_CNT_MISSED = min 4095 (d.get F.MAC_CNT_MISSED + 1) ∧ t.get F.RADIO_CNT_TXN = d.get F.RADIO_CNT_TXN)) ∧
        (d.flag F.CLK_SLKSTAT_OPEN = false → d.slack.opening = none → Completes (.timeslotStart asn false (.ack delta) none) s (fun t =>
          t.get F.MAC_ASN_ASN = asn ∧ t.radio.ord = [] ∧ t.get F.RADIO_CNT_TXN = min (2 ^ 24 - 1) (d.get F.RADIO_CNT_TXN + 1) ∧
          t.get F.MAC_ERR_NFAIL = 0 ∧ t.radio.lastSync = now ∧ t.fcOf 5 = d.fcOf 5 + 1 ∧
          t.radio.txNonce = ccmNonce (d.get F.RADIO_EUI_EUI) (d.fcOf 5) (d.get F.MAC_CFG_SECLVL) ∧
          t.get F.MAC_STAT_NSYNC = min 255 (d.get F.MAC_STAT_NSYNC + 1))))) ∧
    (d.jstate = 3 → d.kaSeconds * 32768 ≤ d.sinceSync → d.quietNow = false → (∀ x ∈ d.radio.ord, x.ty ≠ 0) → room → Completes .keepAlive s (fun t =>
      t.radio.ord = d.radio.ord ++ [⟨0, d.get F.MAC_ADDR_PARENT, 0, 0, [], 0, false, false, none⟩] ∧ d.Same t (fun _ => False))) ∧
    (d.flag F.MAC_CFG_EN = true → 0 < d.get F.MAC_TIMING_REPPER → d.seconds % d.get F.MAC_TIMING_REPPER = 0 → d.mode ≠ 7 →
      Completes .reportDue s (fun t => t.radio.reportDue = true ∧ d.Same t (fun _ => False))) ∧
    (d.flag F.MAC_QUIET_PEND = true → d.quietNow = false → d.radio.quietFrom ≤ asn → d.get F.MAC_ASN_ASN ≤ asn → asn < 2 ^ 40 → d.inNet = true →
      d.radio.graceDue = false → Completes (.quietStart asn) s (fun t =>
        t.quietNow = true ∧ t.get F.MAC_ASN_ASN = asn ∧ d.Same t (fun a => a = F.MAC_ASN))) ∧
    (d.quietNow = true → d.radio.quietEnd ≤ asn → d.get F.MAC_ASN_ASN ≤ asn → asn < 2 ^ 40 → d.radio.heldWakes = [] → Completes (.quietEnd asn) s (fun t =>
      t.quietNow = false ∧ t.reg F.MAC_QUIET = 0 ∧ t.radio.leaseEnd = (if d.radio.leaseEnd ≤ d.seconds then d.seconds + 60 else d.radio.leaseEnd))) ∧
    (d.get F.MAC_KEY_NEXT ≠ 0 → d.get F.MAC_KEY_SWITCH ≤ asn → d.inNet = true → d.radio.exhausted = false → Completes (.keySwitch asn) s (fun t =>
      t.get F.MAC_KEY_CUR = d.get F.MAC_KEY_NEXT ∧ t.get F.MAC_KEY_PREV = d.get F.MAC_KEY_CUR ∧ t.get F.MAC_KEY_NEXT = 0 ∧
      t.keyAt 5 = d.keyAt 6 ∧ t.keyAt 6 = d.keyAt 5 ∧ t.radio.prevErase = d.seconds + 60 ∧ d.recorded t 0x57 1)) ∧
    (d.get F.MAC_KEY_PREV ≠ 0 → d.get F.MAC_KEY_NEXT = 0 → d.radio.prevErase ≤ d.seconds → Completes .keyPrevErase s (fun t =>
      t.get F.MAC_KEY_PREV = 0 ∧ t.keyState 6 = 3 ∧ t.keyAt 6 = ⟨0, []⟩ ∧ d.recorded t 0x17 1)) ∧
    (d.owner b = Own.radio → d.full b = true → d.held = [] → (∀ x ∈ d.radio.ord, x.block ≠ some b.val) → bitsOf (d.load (blockAddr b)) 71 64 = 0x14 →
      d.inNet = true → room → Completes (.appUp b) s (fun t =>
        (∃ q, t.radio.ord = d.radio.ord ++ [q] ∧ q.ty = 0x14 ∧ q.dest = bitsOf (d.load (blockAddr b)) 55 40 ∧ q.block = some b.val) ∧
        d.Same t (fun _ => False))) ∧
    (d.radio.app = [(cmd, tag, orig, rseq, t0)] → t0 + 16384 ≤ now → room → Completes (.appReplyTimeout true) s (fun t =>
      t.radio.app = [] ∧ t.radio.ord = d.radio.ord ++ [⟨0x21, orig, rseq, 1, [], 0, true, d.radio.awakeTill.isSome, none⟩] ∧
      t.pfCount 26 = min 65535 (d.pfCount 26 + 1))) ∧
    (d.wakeMatches w 0 = true → d.inNet = true → d.flag F.MAC_QUIET_PEND = false → room → Completes (.wakeAnswer w asn) s (fun t =>
      woken t ∧ awake t ∧
      t.radio.ord = d.radio.ord ++ [⟨0x13, d.radio.coord, d.radio.rseq, 0, natBytes 4 w ++ [d.mode], 0, false, true, none⟩])) ∧
    (d.wakeMatches w 1 = true → Completes (.wakeResync w) s (fun t => woken t ∧ t.radio.resync = true)) ∧
    (d.wakeMatches w 2 = true → Completes (.wakeReport w) s (fun t => woken t ∧ t.radio.reportDue = true)) ∧
    (d.wakeMatches w 3 = true → Completes (.wakeListen w) s (fun t => woken t ∧ awake t)) ∧
    (d.radio.awakeTill = some len → len ≤ now → Completes .wakeAwakeEnd s (fun t => t.radio.awakeTill = none ∧ d.Same t (fun _ => False))) ∧
    (d.wurOn = true →
      Completes (.wakeWordRejected none) s (fun t =>
        t.get F.WUR_STAT_FALSEN = min 255 (d.get F.WUR_STAT_FALSEN + 1) ∧ d.Same t (fun _ => False)) ∧
      ((w >>> 16) % 16 ≠ wakeChk w → Completes (.wakeWordRejected (some w)) s (fun t =>
        t.get F.WUR_STAT_CHKERR = min 255 (d.get F.WUR_STAT_CHKERR + 1) ∧ d.Same t (fun _ => False)))) ∧
    (d.radioUp = true → (255 < len ∨ sw = true) → Completes (.radioPhrError len sw) s (fun t =>
      t.get F.RADIO_CNT_PHYERR = min 4095 (d.get F.RADIO_CNT_PHYERR + 1) ∧ d.Same t (fun a => a = F.RADIO_CNT)))

/-! ## The Label and the self-test -/

/-- The end of a Label write and of the key wait: a mirror read back right stands in its slot, one that failed is counted, entered as kind 33 and
after eight in a row stops mirroring, and a key wait that runs out refuses the Label with REASON 1 at the next boundary (R476, R479, R482, R485,
R489). The Label's device ID is unchanged. -/
def Obligations.LabelEvents : Prop :=
  ∀ (s : State) (m : Nat) (ws : List Word) (bytes : List Nat) (js : List LabelJob), s.dev.atRest → s.dev.pads.lost = false →
    let d := s.dev
    let told (t : Dev) : Prop := d.paired = false → d.held = [] → d.raisedOnly t Ev.lblDone 1
    let id := d.get F.LBL_ID_DEVID
    let good : LabelDone := ⟨false, 0, true, true, id⟩
    let bad : LabelDone := ⟨true, 0, true, true, id⟩
    (d.label.jobs = .mirror m ws false :: js → Completes (.labelWriteDone good) s (fun t =>
      t.label.jobs = js ∧ (if m % 2 = 1 then t.label.slot1 else t.label.slot0) = ws ∧ t.label.fails = 0 ∧ t.get F.LBL_STAT_LAG = 0 ∧
      t.flag F.LBL_STAT_WROTE = true ∧ t.flag F.LBL_STAT_PROT = false ∧ t.flag F.LBL_STAT_BUSY = !js.isEmpty ∧ told t ∧
      d.Same t (fun a => a = F.LBL_LSUMS ∨ a = F.LBL_HEAD))) ∧
    (d.label.jobs = .mirror m ws false :: js → id ≠ 0 → id ≠ 0xFFFFFFFF →
      (d.label.fails ≠ 7 → Completes (.labelWriteDone bad) s (fun t =>
        t.label.jobs = js ∧ t.label.fails = d.label.fails + 1 ∧ t.flag F.LBL_STAT_FAULT = true ∧
        t.pfCount 33 = min 65535 (d.pfCount 33 + 1) ∧ d.Same t (fun a => a = F.LOOP_PFSTAT))) ∧
      (d.label.fails = 7 → Completes (.labelWriteDone bad) s (fun t =>
        t.label.fails = 8 ∧ t.flag F.LBL_STAT_SUSP = true ∧ d.recorded t 0x67 1))) ∧
    (d.label.jobs = .zero bytes :: js → Completes (.labelWriteDone good) s (fun t => t.label.jobs = js ∧ told t ∧ d.Same t (fun _ => False))) ∧
    (d.mode = 6 → d.get F.LBL_STAT_HO = 2 → d.label.keyFrom + d.get F.LBL_CFG_KEYWAIT ≤ d.seconds → Completes .keywaitTimeout s (fun t =>
      t.get F.LBL_STAT_HO = 5 ∧ t.get F.LBL_STAT_REASON = 1 ∧ t.flag F.LBL_STAT_SUSP = true ∧ t.sup.handoverOver = some 0x0B ∧ d.recorded t 0x62 1))

/-- The self-test: a due slice starts, passes, counts a transient or fails its item; an isolated unit is let go at the next boundary or fails; a
failed unit qualifies, a TDC unit but for its period calibration, or retires with its third failure in a day (R491 to R493, R497, R499, R501, R502, R504). No full pass was ordered. -/
def Obligations.SelfTestEvents : Prop :=
  ∀ (s : State) (i t0 : Nat) (two : List (Nat × Nat)) (detail : Nat), s.dev.atRest → s.dev.bist.cmd = none → s.dev.bist.spanDue = [] → s.dev.bist.runSpan = none → s.dev.col.shut = none →
    let d := s.dev
    let obs (failed again : Bool) : SliceObs := ⟨failed, again, detail, two⟩
    let next := (d.bitem i).next + 1
    let told (t : Dev) : Prop := d.paired = false → d.held = [] → d.raisedOnly t Ev.bistSlice 1
    (d.bist.due = [i] → i < 17 → isolatedItem i = false → d.runsIn i = true → d.targetIdle i = true → d.beforeWindow (bistTime i) = true →
      d.bist.run = none → d.bist.iso = none → d.bist.ran < d.get F.BIST_CFG_MAXS → d.flag F.CLK_SLKSTAT_OPEN = false → 3000 ≤ d.sup.vpool →
      Completes .bistSlice s (fun t =>
        t.bist.run = some i ∧ t.bist.ran = d.bist.ran + 1 ∧ t.get F.BIST_RUN_STATE = 1 ∧ t.get F.BIST_RUN_ITEM = i ∧
        t.get F.BIST_RUN_SLICE = (d.bitem i).next % 2 ^ 16 ∧ d.Same t (fun a => a = F.BIST_RUN))) ∧
    (d.bist.run = some i → d.bist.iso = none → i ∈ [0, 6, 7, 8, 9, 10, 15, 16] →
      (next < bistSlices i →
        Completes (.bistSliceDone (obs false false)) s (fun t =>
          t.bist.run = none ∧ (t.bitem i).next = next ∧ (t.bitem i).last = d.seconds ∧ i ∉ t.bist.due ∧ t.get F.BIST_RUN_STATE = 0 ∧
          told t ∧ d.Same t (fun a => a = F.BIST_RUN)) ∧
        Completes (.bistSliceDone (obs true false)) s (fun t =>
          (t.bitem i).trans = min 255 ((d.bitem i).trans + 1) ∧ t.flag F.BIST_EVT_TRANSIENT = true ∧ t.failedItem i = d.failedItem i)) ∧
      (bistSlices i ≤ next → Completes (.bistSliceDone (obs false false)) s (fun t =>
        (t.bitem i).next = 0 ∧ (t.bitem i).passes = min 65535 ((d.bitem i).passes + 1) ∧ (t.bitem i).pass = d.seconds)) ∧
      (i = 0 ∨ i = 8 → d.mode ≠ 7 → Completes (.bistSliceDone (obs true true)) s (fun t =>
        t.failedItem i = true ∧ t.mode = 7 ∧ t.get F.SYS_MODE_CAUSE = 0x14))) ∧
    (d.bist.iso = some i → 11 ≤ i → i ≤ 14 →
      Completes (.isolatedTestDone (obs false false)) s (fun t =>
        t.bist.iso = none ∧ t.bist.release = d.bist.release ++ [i] ∧ t.get F.BIST_RUN_STATE = 0 ∧ told t) ∧
      (d.failedItem i = false → Completes (.isolatedTestDone (obs true true)) s (fun t =>
        t.failedItem i = true ∧ t.bist.iso = none ∧ t.bist.release = d.bist.release))) ∧
    (9 ≤ i → i ≤ 14 → d.failedItem i = true → d.retiredItem i = false → d.bist.qual = [(i, t0)] → t0 ≤ d.seconds →
      (11 ≤ i → Completes (.qualification i (obs false false)) s (fun t =>
        t.bist.qual = [] ∧ t.bist.release = d.bist.release ++ [i] ∧ told t)) ∧
      (i < 11 → d.bist.qcal = [] → Completes (.qualification i (obs false false)) s (fun t =>
        t.bist.qual = [] ∧ t.bist.qcal = [i] ∧ t.bist.release = d.bist.release)) ∧
      (2 ≤ d.failsInDay i → Completes (.qualification i (obs true true)) s (fun t =>
        t.retiredItem i = true ∧ t.bist.qual = [] ∧ t.flag F.BIST_EVT_RETIRED = true ∧ d.recorded t 0x70 2)) ∧
      (d.failsInDay i < 2 → Completes (.qualification i (obs true true)) s (fun t =>
        t.retiredItem i = false ∧ t.bist.qual = [(i, d.seconds + d.get F.BIST_CFG_RETRY)] ∧ d.recorded t 0x70 1)))

/-! ## The whole machine -/

/-- Reset leaves no command waiting, no memory written and every register at its reset word, a few of them written out (R12, R541); that memory
nothing has written reads zero is the model's choice (log 2). -/
def Obligations.ResetState : Prop :=
  let d := State.reset.dev
  State.reset.pending = [] ∧ (∀ a, d.reg a = resetWord a) ∧ (∀ a, 0x2000 ≤ a → a < 0x80000 → d.load a = 0) ∧ d.atRest ∧
  (∀ x ∈ [(F.SYS_MODE, 0), (F.ADC_CFG, 0x33211), (F.ADC_IN 0, 0xFFF000000001000000), (F.BIST_CFG, 0x00000E1000000306)],
    d.reg x.1 = BitVec.ofNat 72 x.2)

/-- After every step, from whatever state, the status fields show what stands: the charger, the cell, the pool and the chemistry lock, the clearable
counts, PAIRED, the queues' lengths and fullness, the loop's row, the Label's BUSY, VDDIO and the PLL's failure (R41, R51, R52, R269, R307, R318,
R338, R384, R479, R510, R522). -/
def Obligations.StatusShowsWhatStandsAfterEveryStep : Prop :=
  ∀ (s s' : State), step s = .next s' →
    let t := s'.dev
    t.flag F.PWR_STAT_CHG = t.charging ∧ t.flag F.PWR_STAT_CELL_OK = decide (2200 + 50 * t.get F.PWR_CELL_DEAD < t.sup.vcell) ∧
    t.flag F.PWR_STAT_POOL_OK = decide (2200 ≤ t.sup.vpool) ∧ t.flag F.PWR_STAT_SHOT_OK = decide (3000 ≤ t.sup.vpool) ∧
    t.flag F.PWR_CELL_LOCK = (!t.flag F.PWR_CELL_CHEM) ∧ t.flag F.DBG_STAT_PAIRED = t.paired ∧
    (t.flag F.SEAM_STAT_CLR = true ↔ t.get F.SEAM_STAT_DROPN ≠ 0 ∨ t.get F.SEAM_STAT_ORPHN ≠ 0 ∨ t.get F.SEAM_STAT_REVN ≠ 0) ∧
    (∀ u < 2, t.flag (F.TDC_STAT_QFULL u) = decide (8 ≤ (t.tdc u).queue.length) ∧ t.flag (F.TDC_STAT_PROV u) = (t.tdc u).act.isNone ∧
      t.flag (F.TDC_STAT_HELD u) = t.held.contains (7, u)) ∧
    t.flag F.USF_STAT_QFULL = decide (8 ≤ t.usf.queue.length) ∧ (t.flag F.USF_NOECHO_CLR = true ↔ t.get F.USF_NOECHO_COUNT ≠ 0) ∧
    t.get F.LOOP_STAT_STATE = t.loopState ∧ t.loop.shown = t.alarmStands ∧ t.flag F.LBL_STAT_BUSY = (!t.label.jobs.isEmpty) ∧
    t.bit F.BIST_DEGR_FAILED 16 = t.flag F.CLK_STAT_PLL_FAIL ∧ (t.flag F.BIST_ECC_CLR = true ↔ bitsOf (t.reg F.BIST_ECC) 63 0 ≠ 0) ∧
    t.flag F.SYS_PADSTAT_VDDIO_OK = (t.get F.SYS_MODE_STAGE != 0 && !t.pads.lost)
end

