-- ==== Sys2Proof/Laws/Memory.lean ====
section
/-!
SUPPORT. Memory: read after write, and every operation that changes memory keeps the canonical form (`Memory.wf`).
-/
namespace Sys2Proof.Machine

variable (d : Dev)

theorem State.reset_memory_wf : Memory.wf State.reset.dev.mem = true := rfl

/-- A word outside the ROM reads back as it was written. -/
theorem Dev.load_store_self (a : Nat) (w : Word) (h : 0x2000 ≤ a) : (d.store a w).load a = w := by
  have h' : ¬ a < 0x2000 := by omega
  simp [Dev.load, Dev.store, h']

/-- A store changes no other word. -/
theorem Dev.load_store_ne {a b : Nat} (w : Word) (h : b ≠ a) : (d.store a w).load b = d.load b := by
  unfold Dev.store
  split
  · rfl
  · simp [Dev.load, Store.get_set_ne h]

/-- The ROM keeps its contents (R536). -/
theorem Dev.store_rom {a : Nat} (w : Word) (h : a < 0x2000) : d.store a w = d := by simp [Dev.store, h]

theorem Dev.store_wf (a : Nat) (w : Word) (h : Memory.wf d.mem = true) : Memory.wf (d.store a w).mem = true := by
  unfold Dev.store
  split
  · exact h
  · exact Store.wf_set h

theorem Dev.storeAll_wf (a : Nat) (ws : List Word) (h : Memory.wf d.mem = true) : Memory.wf (d.storeAll a ws).mem = true := by
  induction ws generalizing d a with
  | nil => exact h
  | cons w ws ih => exact ih _ _ (d.store_wf a w h)

/-- Taking words off memory keeps the form: the general words that PAIRED clears, the SRAM that a reset clears. -/
theorem Memory.wf_filter (m : List (Nat × Word)) (p : Nat × Word → Bool) (h : Memory.wf m = true) : Memory.wf (m.filter p) = true :=
  Store.wf_filter p h

/-- Words below the one written stand as they stood when several are written. -/
theorem Dev.load_storeAll_below (a b : Nat) (ws : List Word) (h : b < a) : (d.storeAll a ws).load b = d.load b := by
  induction ws generalizing d a with
  | nil => rfl
  | cons w ws ih =>
    show ((d.store a w).storeAll (a + 1) ws).load b = d.load b
    rw [ih (d.store a w) (a + 1) (by omega), d.load_store_ne w (by omega)]

end Sys2Proof.Machine
end

