-- ==== Sys2Proof/WellFormed.lean ====
section
/-!
DEFINITION. Which commands are well formed: every operand inside the range that its field on the wire, its pin or its register has.
The meanings are total on ill-formed commands too; a well-formed one is what the outside world can bring.
-/
namespace Sys2Proof

/-- Every number is below `n`. -/
def below (n : Nat) (xs : List Nat) : Bool := xs.all (fun x => decide (x < n))

/-- A register-space word address (R538). -/
def regAddrOk (a : Nat) : Bool := decide (0x4000 ≤ a) && decide (a < 0x10000)

/-- A voltage in mV as a 16-bit reading. -/
def mvOk (v : Nat) : Bool := decide (v < 65536)

/-- A request of the loop: one byte of address, of length and each of data, two check bytes (R390). -/
def LoopFrame.wf (f : LoopFrame) : Bool := below 256 [f.addr, f.len] && below 256 f.data && decide (f.check < 65536)

/-- A port header: four bits of QMASK, 20 bits of address, four bits of COUNT (R408). -/
def PortHdr.wf (h : PortHdr) : Bool := decide (h.qmask < 16) && decide (h.addr < 2 ^ 20) && decide (h.count < 16)

/-- Quarters as received: 18 bits of data and 6 of check each (R409). -/
def quartersOk (rx : List (Nat × Nat)) : Bool := rx.all (fun q => decide (q.1 < 2 ^ 18) && decide (q.2 < 64))

/-- A received frame's fields (R421, R442). -/
def RxFrame.wf (f : RxFrame) : Bool :=
  decide (f.src < 65536) && f.eui.all (· < 2 ^ 64) && f.mic.all (fun m => below 256 m.1 && below 256 m.2) && decide (f.level < 8) && decide (f.key < 256) && decide (f.counter < 2 ^ 32)
    && decide (-128 ≤ f.rssi) && decide (f.rssi < 128) && decide (f.lqi < 256)

/-- The header of a Riostey message (R448). -/
def RioHdr.wf (h : RioHdr) : Bool :=
  below 256 [h.flags, h.len, h.code] && below 65536 [h.orig, h.rseq] && decide (h.got ≤ 255)

/-- A link (R424). -/
def RLink.wf (l : RLink) : Bool := below 65536 [l.slot, l.chofs, l.neigh] && below 256 [l.sf, l.flags]

/-- An absolute slot number of 40 bits (R423). -/
def asnOk (a : Nat) : Bool := decide (a < 2 ^ 40)

/-- An enhanced beacon. -/
def EbFrame.wf (b : EbFrame) : Bool :=
  below 65536 [b.src, b.pan] && decide (b.eui < 2 ^ 64) && asnOk b.asn && b.links.all RLink.wf

/-- The data of a JOIN_RESP: the wrapped key has 24 bytes (R436). -/
def JoinResp.wf (j : JoinResp) : Bool :=
  below 65536 [j.short, j.parent, j.coord] && decide (j.wrapped.length = 24) && below 256 j.wrapped && j.links.all RLink.wf

/-- Front-end results name paths and input records (R309, R334, R339): intervals of 64 bits, VALUEs of 36. -/
def fbOk (fb : FbMeas) : Bool :=
  fb.paths.all (fun p => decide (p.1 < 4) && decide (p.2.1 < 2 ^ 64) && decide (p.2.2 < 2 ^ 64))
    && fb.inputs.all (fun i => decide (i.1 < 16) && decide (-(2 ^ 35) ≤ i.2) && decide (i.2 < 2 ^ 35))

/-- Supply readings. -/
def Supplies.wf (s : Supplies) : Bool := mvOk s.loopp && mvOk s.vpool && mvOk s.vcell

/-- What a boundary observes: busy fractions in 1/256 (R248). -/
def BoundaryObs.wf (o : BoundaryObs) : Bool := o.sup.wf && decide (o.busyL ≤ 256) && decide (o.busyR ≤ 256) && fbOk o.fb

/-- What Stage 2 reads from the Label: 64-byte blocks (R472, R473). -/
def LabelObs.wf (o : LabelObs) : Bool :=
  decide (o.devid < 2 ^ 32) && decide (o.ident.length = 64) && below 256 o.ident && decide (o.zero.length = 64) && below 256 o.zero

/-- A mirror write's end: two block-protect bits are a number below 4 (R479). -/
def LabelDone.wf (o : LabelDone) : Bool := decide (o.bp < 4) && decide (o.devid < 2 ^ 32)

/-- A raw position: a lap of 0 to 15 and a tap of 0 to 1,023 (R294). -/
def posOk (p : Nat) : Bool := decide (p < 2 ^ 14)

/-- A TP pin as an edge's source. -/
def EdgeSrc.wf : EdgeSrc → Bool
  | .tp n => decide (n < 16)
  | _ => true

/-- The raw positions of a calibration's launches and of an EXTREF stamp (R294, R301, R303). -/
def CalObs.wf (o : CalObs) : Bool :=
  o.start.all (fun p => posOk p.1 && posOk p.2) && o.stop.all (fun p => posOk p.1 && posOk p.2)
    && o.xref.all (fun x => posOk x.1 && posOk x.2.1)

/-- A test shot's positions, and a count of the 24-bit coarse counter (R294). -/
def TestShot.wf (t : TestShot) : Bool := t.edge.all (fun x => decide (x.1 < 2 ^ 24) && posOk x.2.1 && posOk x.2.2)

/-- A well-formed command. -/
def Instr.wf : Instr → Bool
  | .registerWrite _ a _ _ => regAddrOk a
  | .cycleBoundary o => o.wf
  | .slackRequest _ _ _ => true
  | .slackOpenCmd _ _ => true
  | .slackCloseCmd _ _ => true
  | .slackOpen _ _ _ => true
  | .slackClose => true
  | .slackCut vpool _ => mvOk vpool
  | .loopPresence loopp => mvOk loopp
  | .cellConfirm vcell => mvOk vcell
  | .hfReady _ => true
  | .lfReady => true
  | .stage2 o _ _ => o.wf
  | .firstFallback fb => fbOk fb
  | .imageVerified => true
  | .startupBistDone _ _ _ => true
  | .shortBoundary o _ => o.wf
  | .bor => true
  | .nrst => true
  | .wdog => true
  | .sealChange _ => true
  | .looppFall loopp => mvOk loopp
  | .loopLossConfirm loopp fb => mvOk loopp && fbOk fb
  | .shutdownBistDone _ => true
  | .loopReturn loopp => mvOk loopp
  | .looppOnBattery loopp => mvOk loopp
  | .cellLow vcell => mvOk vcell
  | .cellDeadConfirm vcell fb => mvOk vcell && fbOk fb
  | .poolFill vpool => mvOk vpool
  | .poolFloorFall vpool => mvOk vpool
  | .poolLow vpool => mvOk vpool
  | .harvestShort _ => true
  | .harvestRestored _ => true
  | .chargeDone vcell => mvOk vcell
  | .chargeRestart vcell => mvOk vcell
  | .chemWrite _ _ => true
  | .chargerEnable _ _ => true
  | .pwrPoolWrite _ _ => true
  | .vddioLoss => true
  | .vddioReturn levels => decide (levels < 65536)
  | .clkSwitch => true
  | .sleepEntry => true
  | .sleepExit o => o.wf
  | .pllLockDetect => true
  | .pllSwitch => true
  | .pllLockTimeout => true
  | .fenceTrip _ => true
  | .xrefWindow _ => true
  | .xrefTimeout => true
  | .xrefGateEnd _ _ => true
  | .billingSecond _ => true
  | .lfLoss _ _ => true
  | .lfRestore => true
  | .tideHalt _ _ => true
  | .tideSecWrite _ _ => true
  | .tideRelease _ _ => true
  | .tidePinRelease _ _ => true
  | .tideHaltTimeout _ => true
  | .civofsWrite _ _ => true
  | .wdayWrite _ _ => true
  | .phaseWrite _ _ => true
  | .timerMatch _ _ => true
  | .timerOverflow _ _ => true
  | .linkAction => true
  | .timerReset _ _ _ => true
  | .timerStop _ _ _ => true
  | .timerStart _ _ _ => true
  | .timerEnable _ _ _ => true
  | .timerCountWrite _ _ _ => true
  | .timerCapture _ _ _ => true
  | .busCapture _ _ _ => true
  | .capturePop _ _ _ => true
  | .nop _ => true
  | .doze _ => true
  | .dozeWake _ => true
  | .movfl _ _ => true
  | .movtfl _ _ => true
  | .lpop _ => true
  | .mov _ _ _ => true
  | .movi _ _ _ => true
  | .movl _ _ _ _ _ => true
  | .add _ _ _ _ => true
  | .adc _ _ _ _ => true
  | .sub _ _ _ _ => true
  | .sbc _ _ _ _ => true
  | .neg _ _ _ => true
  | .abs _ _ _ => true
  | .min _ _ _ _ => true
  | .max _ _ _ _ => true
  | .minu _ _ _ _ => true
  | .maxu _ _ _ _ => true
  | .cmp _ _ _ => true
  | .sel _ _ _ _ _ => true
  | .adds _ _ _ _ => true
  | .subs _ _ _ _ => true
  | .negs _ _ _ => true
  | .abss _ _ _ => true
  | .addus _ _ _ _ => true
  | .subus _ _ _ _ => true
  | .shls _ _ _ _ => true
  | .and _ _ _ _ => true
  | .or _ _ _ _ => true
  | .xor _ _ _ _ => true
  | .andn _ _ _ _ => true
  | .not _ _ _ => true
  | .tst _ _ _ => true
  | .popc _ _ _ => true
  | .clz _ _ _ => true
  | .shl _ _ _ _ => true
  | .shr _ _ _ _ => true
  | .asr _ _ _ _ => true
  | .ror _ _ _ _ => true
  | .addi _ _ _ _ => true
  | .andi _ _ _ _ => true
  | .ori _ _ _ _ => true
  | .xori _ _ _ _ => true
  | .cmpi _ _ _ => true
  | .extr _ _ _ _ _ _ => true
  | .ins _ _ _ _ _ => true
  | .ld _ _ _ _ _ => true
  | .ldh _ _ _ _ _ _ _ => true
  | .st _ _ _ _ => true
  | .sth _ _ _ _ _ => true
  | .clracc _ _ => true
  | .movta _ _ _ _ => true
  | .movtas _ _ _ => true
  | .movfa _ _ _ _ => true
  | .ext _ _ _ _ _ _ => true
  | .mul _ _ _ _ _ => true
  | .mac _ _ _ _ _ _ => true
  | .div _ _ _ _ _ _ _ => true
  | .recip _ _ _ _ => true
  | .poly _ _ _ _ _ => true
  | .interp _ _ _ _ _ => true
  | .br _ _ _ _ => true
  | .brr _ _ _ _ => true
  | .loop _ _ _ => true
  | .loopi _ _ _ => true
  | .claim _ _ _ => true
  | .give _ _ _ _ _ _ _ => true
  | .testown _ _ _ => true
  | .waitev _ _ _ => true
  | .waitevResume _ => true
  | .signal _ _ => true
  | .arm _ _ _ _ => true
  | .shot _ _ _ => true
  | .conv _ _ _ => true
  | .svc _ _ => true
  | .trap _ _ => true
  | .mark _ _ _ => true
  | .rendezvousMeet => true
  | .debugHalt _ _ => true
  | .debugRelease _ _ => true
  | .debugStep _ _ => true
  | .regFileWrite _ _ => true
  | .regionWrite _ _ _ _ => true
  | .info => true
  | .post => true
  | .assign => true
  | .timeSet => true
  | .paramRead => true
  | .paramWrite => true
  | .modeReq => true
  | .restart fb => fbOk fb
  | .fuse => true
  | .logRead => true
  | .imgBegin => true
  | .imgWrite => true
  | .imgVerify => true
  | .imgVerifyDone => true
  | .imgActivate => true
  | .imgStatus => true
  | .imgSessionTimeout => true
  | .keyInfo => true
  | .keyLoad => true
  | .keyErase => true
  | .macSvc => true
  | .sleeveFaultMigrate _ => true
  | .seamClaim _ _ => true
  | .seamGive _ _ => true
  | .seamQuery _ _ => true
  | .seamRevert _ _ => true
  | .seamSethome _ _ => true
  | .heldGiveRevert => true
  | .quiesceRequest _ _ => true
  | .quiesceComplete => true
  | .quiesceRelease _ _ => true
  | .routeWrite _ _ _ _ => true
  | .swEventSet _ _ => true
  | .tdcCalibrationDone _ o => o.wf
  | .tdcStartEdge _ src _ k pos => src.wf && decide (k < 100) && posOk pos
  | .tdcStopEdge _ src _ _ pos runs => src.wf && posOk pos && runs.all (fun l => l.all (fun r => decide (r.2 < 100)))
  | .tdcCoarseOverflow _ => true
  | .tdcDitherSample _ starts stops => starts.all posOk && stops.all posOk
  | .tdcJobWrite _ _ _ => true
  | .usfRequest _ _ => true
  | .shotLaunch _ => true
  | .shotListenEnd _ _ _ => true
  | .driveShort _ => true
  | .pathTest _ _ flood ebb _ => flood.wf && ebb.wf
  | .zeroLearnStart _ _ => true
  | .zeroLearnEnd => true
  | .adcRequest _ _ => true
  | .adcConvStart _ => true
  | .adcConvDone _ _ _ _ => true
  | .adcWatchdog _ => true
  | .excitationLoss _ => true
  | .pulseEdge _ _ => true
  | .pulseEmit _ => true
  | .pulseWidthEnd _ => true
  | .pulseGapEnd _ => true
  | .loopCarrierDetect => true
  | .loopFrameTimeout _ cmd => decide (cmd < 256)
  | .identify fr => fr.wf
  | .readOutput fr => fr.wf
  | .readAcc fr => fr.wf
  | .readWords fr => fr.wf
  | .readStatus fr => fr.wf
  | .readLog fr => fr.wf
  | .service fr => fr.wf
  | .imgData fr => fr.wf
  | .writeField fr => fr.wf
  | .time fr => fr.wf
  | .loopTest fr => fr.wf
  | .unknownCommand cmd fr => decide (cmd < 256) && fr.wf
  | .applicationCommand cmd fr => decide (cmd < 256) && fr.wf
  | .loopAppReply _ => true
  | .appReplyTimeout _ => true
  | .loopReplySend => true
  | .loopCollision => true
  | .loopFixTimeout => true
  | .hostSelect _ => true
  | .hostRead _ h _ => h.wf
  | .hostWrite _ h rx _ => h.wf && quartersOk rx
  | .hostNop _ op => decide (op < 16)
  | .hostDeselect => true
  | .radioPhrError _ _ => true
  | .scanDwell => true
  | .ebReceived eb => eb.wf
  | .joinResp x h j => x.wf && h.wf && j.wf
  | .joinTimeout => true
  | .joinBackoffEnd => true
  | .leaseRenewDue => true
  | .leaseResp x h _ => x.wf && h.wf
  | .leaseExpiry => true
  | .leave x h _ => x.wf && h.wf
  | .leaveHoldEnd => true
  | .schedule x h asn changes => x.wf && h.wf && asnOk asn && changes.all (fun c => c.2.wf)
  | .timeslotStart asn _ _ _ => asnOk asn
  | .keepAlive => true
  | .syncTimeout => true
  | .reportDue => true
  | .alarmAck x h _ => x.wf && h.wf
  | .command x h _ xs => x.wf && h.wf && below 256 xs
  | .timeMessage x h asn _ _ => x.wf && h.wf && asnOk asn
  | .quiet x h q _ => x.wf && h.wf && asnOk q
  | .quietStart asn => asnOk asn
  | .quietEnd asn => asnOk asn
  | .rekey x h _ wrapped asn => x.wf && h.wf && below 256 wrapped && asnOk asn
  | .keySwitch asn => asnOk asn
  | .keyPrevErase => true
  | .appUp _ => true
  | .wakeAnswer word asn => decide (word < 2 ^ 32) && asnOk asn
  | .wakeResync word => decide (word < 2 ^ 32)
  | .wakeReport word => decide (word < 2 ^ 32)
  | .wakeListen word => decide (word < 2 ^ 32)
  | .wakeAwakeEnd => true
  | .labelWriteDone o => o.wf
  | .keywaitTimeout => true
  | .labelClaim _ _ => true
  | .bistSlice => true
  | .bistSliceDone _ => true
  | .isolatedTestDone _ => true
  | .qualification item _ => decide (item < 18)
  | .bistRunCmd _ _ => true
  | .loopReturnConfirm fb => fbOk fb
  | .slackPoolRecovered vpool => mvOk vpool
  | .slackGapEnd => true
  | .aonDomainLoss => true
  | .wakeWordRejected _ => true
  | .riosteyUnknownType x _ h => x.wf && h.wf
  | .dclkIdleTimeout => true
  | .timerCountEdge _ => true

end Sys2Proof
end

