-- ==== Sys2Proof/Tests/Slice0.lean ====
section
/-!
SUPPORT. The author's own tests: ill-formed commands that the check refuses, words and values that the spec writes out, and, for every statement
that has hypotheses, a theorem `test_witness_<the statement>` that shows concrete states and operands that meet the hypotheses of each of its
clauses together.
-/
namespace Sys2Proof.Tests
open Sys2Proof Sys2Proof.Machine

set_option maxRecDepth 20000
set_option linter.unusedVariables false
set_option synthInstance.maxSize 4000
set_option Elab.async false

/-! ## Ill-formed commands -/

def goodRx : RxFrame := ⟨true, 9, some 77, false, true, 5, 1, 11, none, -50, 100⟩
def goodHdr : RioHdr := ⟨0, 5, 1, 0, 0, 0⟩
def goodSup : Supplies := ⟨12000, 5000, 3300, 100, some 5, 300⟩
def goodObs : BoundaryObs := ⟨goodSup, 10, 20, 4000, ⟨[], []⟩⟩
def goodLabel : LabelObs := ⟨0, List.replicate 64 0, List.replicate 64 0, List.replicate 32 0, List.replicate 32 0⟩
def goodEb : EbFrame := ⟨9, 77, 0, 2000, true, some 0, none, some 0, none, [(0, 101)], [⟨0, 3, 1, 9, 7⟩]⟩
def goodJoin : JoinResp := ⟨0x55, 0x300, 9, 77, 5, 3600, 1, List.replicate 24 1, 0, [⟨0, 3, 1, 9, 1⟩], none⟩

/-- The well-formed neighbours of the terms below pass. -/
theorem test_well_formed_accepted :
    ([.registerWrite .host 0x4000 0 0, .cycleBoundary goodObs, .shortBoundary goodObs 5, .stage2 goodLabel true 5, .slackCut 65535 5,
      .identify ⟨1, 0, [], 65535⟩, .hostRead false ⟨15, 0xFFFFF, 15⟩ 4, .hostWrite false ⟨15, 0, 1⟩ [(2 ^ 18 - 1, 63)] true,
      .leave goodRx goodHdr 0, .ebReceived goodEb, .joinResp goodRx goodHdr goodJoin, .qualification 17 ⟨false, false, 0, []⟩,
      .tdcStartEdge 0 (.tp 15) true 0 (2 ^ 14 - 1), .quietStart (2 ^ 40 - 1), .wakeListen (2 ^ 32 - 1), .hostNop false 15] : List Instr).all Instr.wf = true := by
  decide +kernel

/-- An ill-formed term for each check, refused: register addresses, voltages, boundary and Label observations, frames of the loop, the port and
the radio, raw positions, absolute slot numbers, wake words and items. -/
theorem test_ill_formed_refused :
    ([.registerWrite .host 0x3FFF 0 0, .registerWrite .host 0x10000 0 0, .slackCut 65536 5,
      .cycleBoundary { goodObs with sup := { goodSup with vpool := 65536 } }, .cycleBoundary { goodObs with busyL := 257 },
      .shortBoundary { goodObs with busyR := 257 } 5, .stage2 { goodLabel with devid := 2 ^ 32 } true 5,
      .stage2 { goodLabel with ident := [] } true 5, .stage2 { goodLabel with zero := List.replicate 64 256 } true 5,
      .labelWriteDone ⟨false, 4, true, true, 0⟩, .labelWriteDone ⟨false, 0, true, true, 2 ^ 32⟩,
      .vddioReturn 65536, .tdcStartEdge 0 .usf true 0 (2 ^ 14), .tdcStartEdge 0 (.tp 16) true 0 5, .tdcDitherSample 0 [2 ^ 14] [], .tdcDitherSample 0 [] [2 ^ 14],
      .tdcCalibrationDone 0 ⟨[(0, 2 ^ 14)], [], none⟩, .firstFallback ⟨[(4, 0, 0)], []⟩, .firstFallback ⟨[], [(16, 0)]⟩,
      .pathTest 0 0 ⟨true, 0, some (2 ^ 24, 0, 0)⟩ ⟨false, 0, none⟩ false,
      .identify ⟨256, 0, [], 0⟩, .identify ⟨1, 256, [], 0⟩, .identify ⟨1, 1, [256], 0⟩, .identify ⟨1, 0, [], 65536⟩,
      .unknownCommand 256 ⟨1, 0, [], 0⟩, .applicationCommand 256 ⟨1, 0, [], 0⟩,
      .hostRead false ⟨16, 0, 1⟩ 4, .hostRead false ⟨15, 2 ^ 20, 1⟩ 4, .hostRead false ⟨15, 0, 16⟩ 4,
      .hostWrite false ⟨15, 0, 1⟩ [(2 ^ 18, 0)] true, .hostWrite false ⟨15, 0, 1⟩ [(0, 64)] true, .hostNop false 16,
      .leave { goodRx with level := 8 } goodHdr 0, .leave { goodRx with counter := 2 ^ 32 } goodHdr 0, .leave { goodRx with rssi := 128 } goodHdr 0,
      .leave goodRx { goodHdr with orig := 65536 } 0, .leave goodRx { goodHdr with code := 256 } 0,
      .ebReceived { goodEb with asn := 2 ^ 40 }, .ebReceived { goodEb with links := [⟨65536, 3, 1, 9, 7⟩] },
      .joinResp goodRx goodHdr { goodJoin with wrapped := [] }, .joinResp goodRx goodHdr { goodJoin with short := 65536 },
      .schedule goodRx goodHdr 0 [(true, ⟨256, 3, 1, 9, 1⟩)], .quietStart (2 ^ 40), .rekey goodRx goodHdr 1 [256] 0,
      .wakeListen (2 ^ 32), .qualification 18 ⟨false, false, 0, []⟩] : List Instr).all (fun i => !i.wf) = true := by
  decide +kernel

/-! ## The constants of SHA-256 -/

/-- The primes below `n`, which is at most 324. -/
def primesBelow (n : Nat) : List Nat := (List.range n).filter (fun p => 1 < p && (List.range 18).all (fun k => k < 2 || p ≤ k || p % k != 0))

/-- The round constants are the first 32 bits of the fractional parts of the cube roots of the first 64 primes, as the standard defines them. -/
theorem test_sha_round_constants : ((primesBelow 312).length == 64 && (primesBelow 312).zipIdx.all (fun x =>
    let r := (List.range 7).countP (fun c => (c + 1) ^ 3 ≤ x.1) * 2 ^ 32 + wordAt 64 shaK x.2
    decide (r ^ 3 ≤ x.1 * 2 ^ 96) && decide (x.1 * 2 ^ 96 < (r + 1) ^ 3))) = true := by
  decide +kernel

/-- The initial hash value is made likewise of the square roots of the first 8 primes. -/
theorem test_sha_initial_value : ((primesBelow 20).length == 8 && (primesBelow 20).zipIdx.all (fun x =>
    let r := (List.range 7).countP (fun c => (c + 1) ^ 2 ≤ x.1) * 2 ^ 32 + wordAt 8 shaH x.2
    decide (r ^ 2 ≤ x.1 * 2 ^ 64) && decide (x.1 * 2 ^ 64 < (r + 1) ^ 2))) = true := by
  decide +kernel

/-- The standard's own example: the digest of "abc". -/
theorem test_sha256_abc : sha256 [97, 98, 99] = natBytes 32 0xba7816bf8f01cfea414140de5dae2223b00361a396177a9cb410ff61f20015ad := by
  rw [sha256]
  decide +kernel

/-! ## Words and values of the spec's own examples -/

/-- The field code of the example at R208: P = 36, L = 36, X = 1 gives 0x5224. -/
theorem test_extr_example : (YOp.encode (.extr 1 2 36 36 true)).toNat % 2 ^ 18 = 0x5224 := by decide +kernel

/-- The call and the Horner steps of the example in spec/07 encode to the words that it writes out. -/
theorem test_call_and_horner_words :
    YOp.encode (.br 0 true 0x120080) = 0x802120080 ∧ YOp.encode (.poly 1 0 2 24) = 0x744080018 ∧ YOp.encode (.poly 1 0 3 24) = 0x7440C0018 ∧
    YOp.encode (.brr 0 false 15) = 0x843C00000 ∧ YOp.encode .nop = 0 := by decide +kernel

/-- The CRC-6 of the host write example in spec/13 is 0x05. -/
theorem test_quarter_check : crc6 0x07004 0 0x21 0x1E = 0x05 ∧ quarterBytes 0x1E 0x05 = [0x00, 0x07, 0x85] := by decide +kernel

/-- The wake word of the example in spec/14 has CHK 1. -/
theorem test_wake_word_check : wakeChk 0xB4010042 = 1 := by decide +kernel

/-- The tariff day of the example in spec/04: D = 8,895, unchanged by a step of one hour back and one less by a step of 50,000 s. -/
theorem test_day_number :
    let d (ofs : Nat) : Dev := { Dev.init with regs := [(F.TIDE_SEC, BitVec.ofNat 72 (412395600 * 2 ^ 24)),
      (F.TIDE_CIVOFS, BitVec.ofNat 72 (ofs * 2 ^ 24)), (F.TIDE_WDAY, BitVec.ofNat 72 (64800 * 2 ^ 20))] }
    (d 356112000).dayNumber = 8895 ∧ (d 356108400).dayNumber = 8895 ∧ (d 356062000).dayNumber = 8894 := by decide +kernel

/-! ## Witnesses

`up` is the device in LOOP, its start over, both Sleeves and the Collar running at the first slot of what they fetch from. -/

def up : Dev :=
  { Dev.init with
    regs := [(F.SYS_MODE, 0x4101), (F.SYS_PADSTAT, 0x10000), (F.PWR_STAT, 111), (F.CLK_STAT, 25), (F.LOOP_STAT, 0x384000000001), (F.DBG_STAT, 17)]
    sup := { Supply.init with loopp := 12000, vpool := 3600, vcell := 3600 }
    engC := EngState.init 0x100000
    engL := EngState.init 0x120000
    engR := EngState.init 0x120000
    collarRun := 1
    loop := { Loop.init with y := (3600, 1) }
    col := { Col.init with aonLost := false } }

/-- The device with some fields set. -/
def set (d : Dev) (l : List (Fld × Nat)) : Dev := l.foldl (fun d x => d.put x.1 x.2) d

/-- A machine whose status shows what stands. -/
def still (d : Dev) : State := ⟨[], d.settle⟩

/-- Some unit serves a request of unit `u` where it or its twin is up. -/
theorem serves_iff (d : Dev) (u : Nat) : (∃ v, d.servesTdc u v) ↔ d.tdcUp u = true ∨ d.tdcUp (1 - u) = true := by
  unfold Dev.servesTdc
  cases d.tdcUp u <;> cases d.tdcUp (1 - u) <;> simp

theorem serves_not (d : Dev) (u : Nat) : (∀ v, ¬ d.servesTdc u v) ↔ d.tdcUp u = false ∧ d.tdcUp (1 - u) = false := by
  rw [← not_exists, serves_iff]
  simp

theorem full_iff (d : Dev) (q : UsfWord) : d.usfFull q ↔ 8 ≤ d.usf.queue.length ∨ (q.wave = false ∧
    8 ≤ (d.tdc (if d.tdcUp q.want then q.want else 1 - q.want)).queue.length ∧ (d.tdcUp q.want = true ∨ d.tdcUp (1 - q.want) = true)) := by
  unfold Dev.usfFull Dev.servesTdc
  cases d.tdcUp q.want <;> cases d.tdcUp (1 - q.want) <;> simp

/-- The heads of the three queues are sound. -/
def sound (d : Dev) : Bool :=
  d.usf.queue.head?.all (fun r => !(r.wave && r.orphan)) && d.tdcA.queue.head?.all (fun j => !j.orphan) && d.tdcB.queue.head?.all (fun j => !j.orphan)

theorem heads_of (d : Dev) (h : sound d = true) : d.headsSound := by
  simp only [sound, Bool.and_eq_true] at h
  refine ⟨fun r q e => ?_, fun u j q e => ?_⟩
  · simpa only [e, List.head?_cons, Option.all_some, Bool.not_eq_true'] using h.1.1
  · unfold Dev.tdc at e
    split at e
    · simpa [e] using h.1.2
    · simpa [e] using h.2

/-- Without links no slot is a transmit slot. -/
theorem no_slot (d : Dev) (h : d.radio.links.isEmpty = true) : ∀ n, d.txSlotIn n = false := by
  simp [Dev.txSlotIn, h]

def machine1 : State := ⟨[], { up with
  engL := { EngState.init 0 with
    w := #v[5, 0xFFFFFFFFFFFFFFFFFD, 0x800000000000000000, 0x7FFFFFFFFFFFFFFFFF, 0, 0x400000000000000000, 3, 0x1000000009, 255, 71, 72, 73,
      0xABCDEF0123456789AB, 1, 0xFFFFFFFFFFFFFFFFFF, 0x800000000000000005]
    ia := 0x120000 } }⟩

def machine2 : State := ⟨[], { up with
  regs := [(F.SYS_MODE, 0x4101), (F.SYS_PADSTAT, 0x10000), (F.PWR_STAT, 111), (F.CLK_STAT, 25), (F.TMR_DIV 32, 54), (F.EVT_PENDL, 0xFFFFFFFFFFFFFFFF),
    (F.EVT_OVFL, 0xFFFFFFFF), (F.LOOP_STAT, 0x384000000001), (F.DBG_STAT, 17)] }⟩

def machine3 : State := ⟨[], { up with engL := { EngState.init 0 with w := #v[1, 2, 3, 4, 5, 6, 0, 0, 0, 0, 0, 0, 0, 0, 0, 0], ia := 0x120000 } }⟩

def machine4 : State := ⟨[], { up with
  regs := [(F.SYS_MODE, 0x4101), (F.SYS_PADSTAT, 0x10000), (F.PWR_STAT, 111), (F.CLK_STAT, 25), (F.CLK_SLKSTAT, 3), (F.LOOP_STAT, 0x384000000001),
    (F.DBG_STAT, 17)]
  slack := { Slack.init with cur := ⟨false, 777⟩ } }⟩

theorem test_witness_MovesAndFlagMoves :
    let s : State := ⟨[], { up with
        engL := { EngState.init 0 with w := #v[5, 7, 0xFFFFFFFFFFFFFFFFFF, 31, 0, 0, 0, 0, 0, 0, 0, 0, 0, 0, 0, 0], ia := 0x120000 } }⟩
    let f : Fetch := ⟨Eng.left, Check.sound⟩
    s.dev.atRest ∧
    s.dev.fetches f ∧
    (s.dev.eng f.eng).ia.getLsbD 0 = false := by
  unfold Dev.atRest Dev.untapped Dev.fetches
  decide +kernel

theorem test_witness_ArithmeticResults :
    let s : State := machine1
    let f : Fetch := ⟨Eng.left, Check.sound⟩
    s.dev.atRest ∧
    s.dev.fetches f := by
  unfold Dev.atRest Dev.untapped Dev.fetches
  decide +kernel

theorem test_witness_SelectionAndLogicResults :
    let s : State := machine1
    s.dev.atRest ∧
    (let f : Fetch := ⟨Eng.left, Check.sound⟩
     s.dev.fetches f ∧
     (let ra : WReg := 0
      (let rb : WReg := 0
       (let r : Word := 5
        ((r = (s.dev.eng f.eng).reg ra ∨ r = (s.dev.eng f.eng).reg rb) ∧
         BitVec.toInt r ≤ BitVec.toInt ((s.dev.eng f.eng).reg ra) ∧
         BitVec.toInt r ≤ BitVec.toInt ((s.dev.eng f.eng).reg rb) ∧
         BitVec.toInt ((s.dev.eng f.eng).reg ra) ≤ BitVec.toInt r ∧
         BitVec.toInt ((s.dev.eng f.eng).reg rb) ≤ BitVec.toInt r ∧
         BitVec.toNat r ≤ BitVec.toNat ((s.dev.eng f.eng).reg ra) ∧
         BitVec.toNat r ≤ BitVec.toNat ((s.dev.eng f.eng).reg rb) ∧
         BitVec.toNat ((s.dev.eng f.eng).reg ra) ≤ BitVec.toNat r ∧
         BitVec.toNat ((s.dev.eng f.eng).reg rb) ≤ BitVec.toNat r) ∧
        ((∀ (i : Nat), i < 72 → BitVec.getLsbD r i = (BitVec.getLsbD ((s.dev.eng f.eng).reg ra) i && BitVec.getLsbD ((s.dev.eng f.eng).reg rb) i)) ∧
         (∀ (i : Nat), i < 72 → BitVec.getLsbD r i = (BitVec.getLsbD ((s.dev.eng f.eng).reg ra) i || BitVec.getLsbD ((s.dev.eng f.eng).reg rb) i)))) ∧
       (let r : Word := 0
        (∀ (i : Nat), i < 72 → BitVec.getLsbD r i = (BitVec.getLsbD ((s.dev.eng f.eng).reg ra) i != BitVec.getLsbD ((s.dev.eng f.eng).reg rb) i)) ∧
        (∀ (i : Nat), i < 72 → BitVec.getLsbD r i = (BitVec.getLsbD ((s.dev.eng f.eng).reg ra) i && !BitVec.getLsbD ((s.dev.eng f.eng).reg rb) i)))) ∧
      (let r : Word := 0xFFFFFFFFFFFFFFFFFA
       (∀ (i : Nat), i < 72 → BitVec.getLsbD r i = !BitVec.getLsbD ((s.dev.eng f.eng).reg ra) i)) ∧
      (let n : Nat := 69
       n ≤ 72 ∧
       (∀ (i : Nat), i < n → BitVec.getMsbD ((s.dev.eng f.eng).reg ra) i = false) ∧
       (n < 72 → BitVec.getMsbD ((s.dev.eng f.eng).reg ra) n = true)))) := by
  unfold Dev.atRest Dev.untapped Dev.fetches
  decide +kernel

theorem test_witness_SaturatingResults :
    let s : State := machine1
    let f : Fetch := ⟨Eng.left, Check.sound⟩
    s.dev.atRest ∧
    s.dev.fetches f := by
  unfold Dev.atRest Dev.untapped Dev.fetches
  decide +kernel

theorem test_witness_ShiftAndFieldResults :
    let s : State := machine1
    s.dev.atRest ∧
    (let f : Fetch := ⟨Eng.left, Check.sound⟩
     s.dev.fetches f ∧
     (let ra : WReg := 0
      let amt : ShAmt := ShAmt.reg 0
      let n : Nat := 5
      (n =   match amt with   | ShAmt.imm k => k.toNat   | ShAmt.reg rn => BitVec.toNat ((s.dev.eng f.eng).reg rn) % 256) ∧
      (let r : Word := 160
       (∀ (i : Nat), i < 72 → BitVec.getLsbD r i = (decide (n ≤ i) && BitVec.getLsbD ((s.dev.eng f.eng).reg ra) (i - n)))) ∧
      (let r : Word := 0
       (∀ (i : Nat), i < 72 → BitVec.getLsbD r i = BitVec.getLsbD ((s.dev.eng f.eng).reg ra) (i + n)) ∧
       (∀ (i : Nat), i < 72 → BitVec.getLsbD r i = BitVec.getLsbD ((s.dev.eng f.eng).reg ra) (min 71 (i + n)))) ∧
      (let r : Word := 0x280000000000000000
       (∀ (i : Nat), i < 72 → BitVec.getLsbD r i = BitVec.getLsbD ((s.dev.eng f.eng).reg ra) ((i + n) % 72)))) ∧
     (let rd : WReg := 3
      let ra : WReg := 0
      let p : BitVec 7 := 0
      let l : BitVec 7 := 72
      let r : Word := 5
      1 ≤ l.toNat ∧
      p.toNat + l.toNat ≤ 72 ∧
      (∀ (i : Nat), i < 72 → BitVec.getLsbD r i = if p.toNat ≤ i ∧
        i < p.toNat + l.toNat then BitVec.getLsbD ((s.dev.eng f.eng).reg ra) (i - p.toNat) else BitVec.getLsbD ((s.dev.eng f.eng).reg rd) i))) := by
  unfold Dev.atRest Dev.untapped Dev.fetches
  decide +kernel

theorem test_witness_ImmediateResults :
    let s : State := machine1
    let f : Fetch := ⟨Eng.left, Check.sound⟩
    s.dev.atRest ∧
    s.dev.fetches f := by
  unfold Dev.atRest Dev.untapped Dev.fetches
  decide +kernel

theorem test_witness_AccumulatorResults :
    let s : State := machine1
    s.dev.atRest ∧
    (let f : Fetch := ⟨Eng.left, Check.sound⟩
     s.dev.fetches f ∧
     (let x : Bool := false
      (x = true → f.eng ≠ Eng.collar) ∧
      (let ra : WReg := 0
       let rb : WReg := 1
       let sg : BitVec 2 := 0
       let p : Int := -15
       (sg = 0 ∧ p = BitVec.toInt ((s.dev.eng f.eng).reg ra) * BitVec.toInt ((s.dev.eng f.eng).reg rb) ∨ sg = 1 ∧
         p = ↑(BitVec.toNat ((s.dev.eng f.eng).reg ra)) * ↑(BitVec.toNat ((s.dev.eng f.eng).reg rb)) ∨ sg = 2 ∧
         p = BitVec.toInt ((s.dev.eng f.eng).reg ra) * ↑(BitVec.toNat ((s.dev.eng f.eng).reg rb)))) ∧
      (let sh : BitVec 8 := 0
       sh.toNat ≤ 143))) := by
  unfold Dev.atRest Dev.untapped Dev.fetches
  decide +kernel

theorem test_witness_DivisionAndPolynomialResults :
    let s : State := machine1
    s.dev.atRest ∧
    (let f : Fetch := ⟨Eng.left, Check.sound⟩
     s.dev.fetches f ∧
     (let sh : BitVec 8 := 0
      sh.toNat ≤ 142 ∧
      sh.toNat ≤ 143) ∧
     (let sh : BitVec 7 := 0
      sh.toNat ≤ 71)) := by
  unfold Dev.atRest Dev.untapped Dev.fetches
  decide +kernel

theorem test_witness_BranchesLoopsAndTheLoopEndTest :
    (let s : State := machine1
     s.dev.atRest ∧
     (let f : Fetch := ⟨Eng.left, Check.sound⟩
      s.dev.fetches f ∧
      (let cond : BitVec 4 := 2
       (s.dev.eng f.eng).fl.holds cond = true ∧
       s.dev.flag F.DBG_TRCFG_BR = false) ∧
      (let count : Nat := 5
       let ra : WReg := 0
       let imm : BitVec 12 := 5
       let len : BitVec 10 := 1
       len ≠ 0 ∧
       imm.toNat = count ∧
       count ≠ 0 ∧
       (s.dev.eng f.eng).loops.length < 4 ∧
       BitVec.toNat ((s.dev.eng f.eng).reg ra) % 2 ^ 32 = count) ∧
      (let cond : BitVec 4 := 1
       (s.dev.eng f.eng).fl.holds cond = false) ∧
      (let count : Nat := 0
       let ra : WReg := 2
       let imm : BitVec 12 := 0
       let len : BitVec 10 := 1
       len ≠ 0 ∧
       imm.toNat = count ∧
       count = 0 ∧
       BitVec.toNat ((s.dev.eng f.eng).reg ra) % 2 ^ 32 = count))) ∧
    (let e : EngState := { EngState.init 0 with ia := 0x120000 }
     let len : Nat := 1
     1 ≤ len ∧
     len ≤ 2 ∧
     e.loops = []) ∧
    (let e : EngState := { EngState.init 0 with ia := 0x120000, loops := [⟨0x120000, 0x120000, 5⟩] }
     let len : Nat := 1
     let l : LoopLevel := ⟨0x120000, 0x120000, 5⟩
     let ls : List LoopLevel := []
     1 ≤ len ∧
     len ≤ 2 ∧
     e.loops = l :: ls ∧
     l.stop = e.ia + BitVec.ofNat 21 (len - 1) ∧
     1 < l.count) ∧
    (let e : EngState := { EngState.init 0 with ia := 0x120000, loops := [⟨0x120000, 0x120001, 5⟩] }
     let len : Nat := 1
     let l : LoopLevel := ⟨0x120000, 0x120001, 5⟩
     let ls : List LoopLevel := []
     1 ≤ len ∧
     len ≤ 2 ∧
     e.loops = l :: ls ∧
     l.stop ≠ e.ia + BitVec.ofNat 21 (len - 1)) ∧
    (let e : EngState := { EngState.init 0 with ia := 0x120000, loops := [⟨0x120000, 0x120000, 1⟩, ⟨0x11FFFF, 0x120000, 3⟩] }
     let len : Nat := 1
     let l : LoopLevel := ⟨0x120000, 0x120000, 1⟩
     let ls : List LoopLevel := [⟨0x11FFFF, 0x120000, 3⟩]
     1 ≤ len ∧
     len ≤ 2 ∧
     e.loops = l :: ls ∧
     l.stop = e.ia + BitVec.ofNat 21 (len - 1) ∧
     l.count ≤ 1) := by
  unfold Dev.atRest Dev.untapped Dev.fetches
  decide +kernel

theorem test_witness_LoadResults :
    let s : State := ⟨[], { up with
        regs := [(F.SYS_MODE, 0x4101), (F.SYS_RGNL 0, 0xE2BC00000), (F.SYS_PADSTAT, 0x10000), (F.PWR_STAT, 111), (F.CLK_STAT, 25),
          (F.LOOP_STAT, 0x384000000001), (F.DBG_STAT, 17)]
        mem := [(0x10100, 0xFFFFFFFFFFFFFFFFFB), (0x10101, 0x3005), (0x10102, 100), (0x10103, 900), (0x10104, 0xFFFFFFFFFFFFFFFFB3),
          (0x10105, 0x7FFFFFFFFFFFFFFFFF), (0x10106, 0x800000000000000000)]
        engL := { EngState.init 0 with w := #v[0x10103, 0xFFFFFFFFFFFFFFFFFB, 0x10108, 0, 0, 0, 0, 0, 0, 0, 0, 0, 0, 0, 0, 0], ia := 0x120000 } }⟩
    s.dev.atRest ∧
    (let f : Fetch := ⟨Eng.left, Check.sound⟩
     s.dev.fetches f ∧
     (let ra : WReg := 0
      (let off : BitVec 20 := 0
       let ea : Nat := 0x10103
       s.dev.loads f.eng ea ∧
       (↑(BitVec.toNat ((s.dev.eng f.eng).reg ra)) + off.toInt) % 2 ^ 20 = ↑ea) ∧
      (let imm : BitVec 22 := 0
       let ea : Nat := 0x10103
       s.dev.loads f.eng ea ∧
       (↑(BitVec.toNat ((s.dev.eng f.eng).reg ra)) + imm.toInt) % 2 ^ 20 = ↑ea))) := by
  unfold Dev.atRest Dev.untapped Dev.fetches Dev.loads Dev.alone
  decide +kernel

theorem test_witness_InterpResults :
    (let s : State := ⟨[], { up with
         regs := [(F.SYS_MODE, 0x4101), (F.SYS_RGNL 0, 0xE2BC00000), (F.SYS_PADSTAT, 0x10000), (F.PWR_STAT, 111), (F.CLK_STAT, 25),
           (F.LOOP_STAT, 0x384000000001), (F.DBG_STAT, 17)]
         mem := [(0x10100, 0xFFFFFFFFFFFFFFFFFB), (0x10101, 0x3005), (0x10102, 100), (0x10103, 900), (0x10104, 0xFFFFFFFFFFFFFFFFB3),
           (0x10105, 0x7FFFFFFFFFFFFFFFFF), (0x10106, 0x800000000000000000)]
         engL := { EngState.init 0 with w := #v[0xFFFFFFFFFFFFFFFFFA, 0x10100, 0, 0, 0, 0, 0, 0, 0, 0, 0, 0, 0, 0, 0, 0], ia := 0x120000 } }⟩
     let f : Fetch := ⟨Eng.left, Check.sound⟩
     let ra : WReg := 0
     let rb : WReg := 1
     s.dev.atRest ∧
     s.dev.fetches f ∧
     f.eng ≠ Eng.collar ∧
     s.dev.paired = false ∧
     s.dev.loads f.eng (BitVec.toNat ((s.dev.eng f.eng).reg rb) % 2 ^ 20) ∧
     s.dev.loads f.eng ((BitVec.toNat ((s.dev.eng f.eng).reg rb) % 2 ^ 20 + 1) % 2 ^ 20) ∧
     BitVec.toInt ((s.dev.eng f.eng).reg ra) - BitVec.toInt (s.dev.peek f.eng ((BitVec.toNat ((s.dev.eng f.eng).reg rb) % 2 ^ 20 + 0) % 2 ^ 20)) < 0 ∧
     s.dev.loads f.eng ((BitVec.toNat ((s.dev.eng f.eng).reg rb) % 2 ^ 20 + 2) % 2 ^ 20)) ∧
    (let s : State := ⟨[], { up with
         regs := [(F.SYS_MODE, 0x4101), (F.SYS_RGNL 0, 0xE2BC00000), (F.SYS_PADSTAT, 0x10000), (F.PWR_STAT, 111), (F.CLK_STAT, 25),
           (F.LOOP_STAT, 0x384000000001), (F.DBG_STAT, 17)]
         mem := [(0x10100, 0xFFFFFFFFFFFFFFFFFB), (0x10101, 0x3005), (0x10102, 100), (0x10103, 900), (0x10104, 0xFFFFFFFFFFFFFFFFB3),
           (0x10105, 0x7FFFFFFFFFFFFFFFFF), (0x10106, 0x800000000000000000)]
         engL := { EngState.init 0 with w := #v[0xFFFFFFFFFFFFFFFFFB, 0x10100, 0, 0, 0, 0, 0, 0, 0, 0, 0, 0, 0, 0, 0, 0], ia := 0x120000 } }⟩
     let f : Fetch := ⟨Eng.left, Check.sound⟩
     let ra : WReg := 0
     let rb : WReg := 1
     s.dev.atRest ∧
     s.dev.fetches f ∧
     f.eng ≠ Eng.collar ∧
     s.dev.paired = false ∧
     s.dev.loads f.eng (BitVec.toNat ((s.dev.eng f.eng).reg rb) % 2 ^ 20) ∧
     s.dev.loads f.eng ((BitVec.toNat ((s.dev.eng f.eng).reg rb) % 2 ^ 20 + 1) % 2 ^ 20) ∧
     0 ≤ BitVec.toInt ((s.dev.eng f.eng).reg ra) - BitVec.toInt (s.dev.peek f.eng ((BitVec.toNat ((s.dev.eng f.eng).reg rb) % 2 ^ 20 + 0) % 2 ^ 20)) ∧
     ((BitVec.toInt ((s.dev.eng f.eng).reg ra) - BitVec.toInt (s.dev.peek f.eng ((BitVec.toNat ((s.dev.eng f.eng).reg rb) % 2 ^ 20 + 0) % 2 ^ 20))) / 2 ^ (BitVec.toNat (s.dev.peek f.eng ((BitVec.toNat ((s.dev.eng f.eng).reg rb) % 2 ^ 20 + 1) % 2 ^ 20)) / 2 ^ 12 % 2 ^ 6)).toNat < max 2 (BitVec.toNat (s.dev.peek f.eng ((BitVec.toNat ((s.dev.eng f.eng).reg rb) % 2 ^ 20 + 1) % 2 ^ 20)) % 2 ^ 12) - 1 ∧
     s.dev.loads f.eng ((BitVec.toNat ((s.dev.eng f.eng).reg rb) % 2 ^ 20 + (2 + ((BitVec.toInt ((s.dev.eng f.eng).reg ra) - BitVec.toInt (s.dev.peek f.eng ((BitVec.toNat ((s.dev.eng f.eng).reg rb) % 2 ^ 20 + 0) % 2 ^ 20))) / 2 ^ (BitVec.toNat (s.dev.peek f.eng ((BitVec.toNat ((s.dev.eng f.eng).reg rb) % 2 ^ 20 + 1) % 2 ^ 20)) / 2 ^ 12 % 2 ^ 6)).toNat)) % 2 ^ 20) ∧
     s.dev.loads f.eng ((BitVec.toNat ((s.dev.eng f.eng).reg rb) % 2 ^ 20 + (3 + ((BitVec.toInt ((s.dev.eng f.eng).reg ra) - BitVec.toInt (s.dev.peek f.eng ((BitVec.toNat ((s.dev.eng f.eng).reg rb) % 2 ^ 20 + 0) % 2 ^ 20))) / 2 ^ (BitVec.toNat (s.dev.peek f.eng ((BitVec.toNat ((s.dev.eng f.eng).reg rb) % 2 ^ 20 + 1) % 2 ^ 20)) / 2 ^ 12 % 2 ^ 6)).toNat)) % 2 ^ 20)) ∧
    (let s : State := ⟨[], { up with
         regs := [(F.SYS_MODE, 0x4101), (F.SYS_RGNL 0, 0xE2BC00000), (F.SYS_PADSTAT, 0x10000), (F.PWR_STAT, 111), (F.CLK_STAT, 25),
           (F.LOOP_STAT, 0x384000000001), (F.DBG_STAT, 17)]
         mem := [(0x10100, 0xFFFFFFFFFFFFFFFFFB), (0x10101, 0x3005), (0x10102, 100), (0x10103, 900), (0x10104, 0xFFFFFFFFFFFFFFFFB3),
           (0x10105, 0x7FFFFFFFFFFFFFFFFF), (0x10106, 0x800000000000000000)]
         engL := { EngState.init 0 with w := #v[27, 0x10100, 0, 0, 0, 0, 0, 0, 0, 0, 0, 0, 0, 0, 0, 0], ia := 0x120000 } }⟩
     let f : Fetch := ⟨Eng.left, Check.sound⟩
     let ra : WReg := 0
     let rb : WReg := 1
     s.dev.atRest ∧
     s.dev.fetches f ∧
     f.eng ≠ Eng.collar ∧
     s.dev.paired = false ∧
     s.dev.loads f.eng (BitVec.toNat ((s.dev.eng f.eng).reg rb) % 2 ^ 20) ∧
     s.dev.loads f.eng ((BitVec.toNat ((s.dev.eng f.eng).reg rb) % 2 ^ 20 + 1) % 2 ^ 20) ∧
     0 ≤ BitVec.toInt ((s.dev.eng f.eng).reg ra) - BitVec.toInt (s.dev.peek f.eng ((BitVec.toNat ((s.dev.eng f.eng).reg rb) % 2 ^ 20 + 0) % 2 ^ 20)) ∧
     max 2 (BitVec.toNat (s.dev.peek f.eng ((BitVec.toNat ((s.dev.eng f.eng).reg rb) % 2 ^ 20 + 1) % 2 ^ 20)) % 2 ^ 12) - 1 ≤ ((BitVec.toInt ((s.dev.eng f.eng).reg ra) - BitVec.toInt (s.dev.peek f.eng ((BitVec.toNat ((s.dev.eng f.eng).reg rb) % 2 ^ 20 + 0) % 2 ^ 20))) / 2 ^ (BitVec.toNat (s.dev.peek f.eng ((BitVec.toNat ((s.dev.eng f.eng).reg rb) % 2 ^ 20 + 1) % 2 ^ 20)) / 2 ^ 12 % 2 ^ 6)).toNat ∧
     s.dev.loads f.eng ((BitVec.toNat ((s.dev.eng f.eng).reg rb) % 2 ^ 20 + (2 + (max 2 (BitVec.toNat (s.dev.peek f.eng ((BitVec.toNat ((s.dev.eng f.eng).reg rb) % 2 ^ 20 + 1) % 2 ^ 20)) % 2 ^ 12) - 1))) % 2 ^ 20)) := by
  unfold Dev.atRest Dev.untapped Dev.fetches Dev.loads Dev.alone
  decide +kernel

theorem test_witness_StoreResults :
    (let s : State := ⟨[], { up with
         regs := [(F.SYS_MODE, 0x4101), (F.SYS_RGNL 0, 0xE2BC00000), (F.SYS_PADSTAT, 0x10000), (F.PWR_STAT, 111), (F.CLK_STAT, 25),
           (F.TMR_CMD 64, 0x10000F1), (F.SEAM_REC 255, 0xFF0000F0), (F.LOOP_STAT, 0x384000000001), (F.DBG_STAT, 17)]
         mem := [(0x10100, 0xFFFFFFFFFFFFFFFFFB), (0x10101, 0x3005), (0x10102, 100), (0x10103, 900), (0x10104, 0xFFFFFFFFFFFFFFFFB3),
           (0x10105, 0x7FFFFFFFFFFFFFFFFF), (0x10106, 0x800000000000000000)]
         engL := { EngState.init 0 with w := #v[0x10103, 0xFFFFFFFFFFFFFFFFFB, 0x10108, 0, 0, 0, 0, 0, 0, 0, 0, 0, 0, 0, 0, 0], ia := 0x120000 } }⟩
     let f : Fetch := ⟨Eng.left, Check.sound⟩
     let ra : WReg := 0
     let imm : BitVec 22 := 0
     let off : BitVec 20 := 0
     let ea : Nat := 0x10103
     s.dev.atRest ∧
     s.dev.fetches f ∧
     s.dev.mayStore f.eng ea = true ∧
     isRegSpace ea = false ∧
     ¬(589632 ≤ ea ∧ ea < 589808) ∧
     (s.dev.alone f.eng ∨ outsideHalf ea = false) ∧
     s.dev.eccMark (s.dev.physical f.eng ea) = none ∧
     (↑(BitVec.toNat ((s.dev.eng f.eng).reg ra)) + imm.toInt) % 2 ^ 20 = ↑ea ∧
     (isSeam ea = false ∨ s.dev.owner (blockOf ea) = s.dev.me f.eng) ∧
     (↑(BitVec.toNat ((s.dev.eng f.eng).reg ra)) + off.toInt) % 2 ^ 20 = ↑ea) ∧
    (let s : State := ⟨[], { up with
         regs := [(F.SYS_MODE, 0x4101), (F.SYS_RGNL 0, 0xE2BC00000), (F.SYS_PADSTAT, 0x10000), (F.PWR_STAT, 111), (F.CLK_STAT, 25),
           (F.TMR_CMD 64, 0x10000F1), (F.SEAM_REC 255, 0xFF0000F0), (F.LOOP_STAT, 0x384000000001), (F.DBG_STAT, 17)]
         mem := [(0x10100, 0xFFFFFFFFFFFFFFFFFB), (0x10101, 0x3005), (0x10102, 100), (0x10103, 900), (0x10104, 0xFFFFFFFFFFFFFFFFB3),
           (0x10105, 0x7FFFFFFFFFFFFFFFFF), (0x10106, 0x800000000000000000)]
         engL := { EngState.init 0 with w := #v[0x1C001, 0xFFFFFFFFFFFFFFFFFB, 0x1C006, 0, 0, 0, 0, 0, 0, 0, 0, 0, 0, 0, 0, 0], ia := 0x120000 } }⟩
     let f : Fetch := ⟨Eng.left, Check.sound⟩
     let ra : WReg := 0
     let imm : BitVec 22 := 0
     let off : BitVec 20 := 0
     let ea : Nat := 0x1C001
     s.dev.atRest ∧
     s.dev.fetches f ∧
     s.dev.mayStore f.eng ea = true ∧
     isRegSpace ea = false ∧
     ¬(589632 ≤ ea ∧ ea < 589808) ∧
     (s.dev.alone f.eng ∨ outsideHalf ea = false) ∧
     s.dev.eccMark (s.dev.physical f.eng ea) = none ∧
     (↑(BitVec.toNat ((s.dev.eng f.eng).reg ra)) + imm.toInt) % 2 ^ 20 = ↑ea ∧
     isSeam ea = true ∧
     s.dev.owner (blockOf ea) ≠ s.dev.me f.eng ∧
     (↑(BitVec.toNat ((s.dev.eng f.eng).reg ra)) + off.toInt) % 2 ^ 20 = ↑ea) := by
  unfold Dev.atRest Dev.untapped Dev.fetches Dev.alone
  decide +kernel

namespace OwnershipInstructions

def f : Fetch := ⟨Eng.left, Check.sound⟩
def g : Fetch := ⟨Eng.collar, Check.sound⟩
def seven : Vector Word 16 := #v[7, 0x30C, 3, 15, 0, 0, 0, 0, 0, 0, 0, 0, 0, 0, 0, 0]
def left (d : Dev) : Dev := { d with engL := { EngState.init 0 with w := seven, ia := 0x120000 } }
def collar (d : Dev) : Dev := { d with engC := { EngState.init 0 with w := seven, ia := 0x100000 } }
def s1 : State := ⟨[], { (left (set up [(⟨F.SEAM_REC 7, 71, 0⟩, 0x7FF01FF)])) with
  regs := [(F.SYS_MODE, 0x4101), (F.SYS_PADSTAT, 0x10000), (F.PWR_STAT, 111), (F.CLK_STAT, 25), (F.SEAM_REC 7, 0x7FF01FF),
    (F.LOOP_STAT, 0x384000000001), (F.DBG_STAT, 17)] }⟩
def s2 : State := ⟨[], { (left (set up [(⟨F.SEAM_REC 7, 71, 0⟩, 0x7FF01F1)])) with
  regs := [(F.SYS_MODE, 0x4101), (F.SYS_PADSTAT, 0x10000), (F.PWR_STAT, 111), (F.CLK_STAT, 25), (F.SEAM_REC 7, 0x7FF01F1),
    (F.LOOP_STAT, 0x384000000001), (F.DBG_STAT, 17)] }⟩
def s3 : State := ⟨[], { (left { set up [(⟨F.SEAM_REC 7, 71, 0⟩, 0x7FF01F1)] with held := [(7, 0), (7, 1)] }) with
  regs := [(F.SYS_MODE, 0x4101), (F.SYS_PADSTAT, 0x10000), (F.PWR_STAT, 111), (F.CLK_STAT, 25), (F.SEAM_REC 7, 0x7FF01F1), (F.TDC_STAT 0, 40),
    (F.TDC_STAT 1, 40), (F.LOOP_STAT, 0x384000000001), (F.DBG_STAT, 17)] }⟩
def s4 : State := ⟨[], { (collar (set up [(⟨F.SEAM_REC 7, 71, 0⟩, 0x7FF01F0)])) with
  regs := [(F.SYS_MODE, 0x4101), (F.SYS_PADSTAT, 0x10000), (F.PWR_STAT, 111), (F.CLK_STAT, 25), (F.SEAM_REC 7, 0x7FF01F0),
    (F.LOOP_STAT, 0x384000000001), (F.DBG_STAT, 17)] }⟩
def s5 : State := ⟨[], { (left (set up [(⟨F.SEAM_REC 7, 71, 0⟩, 0x7FF01F0)])) with
  regs := [(F.SYS_MODE, 0x4101), (F.SYS_PADSTAT, 0x10000), (F.PWR_STAT, 111), (F.CLK_STAT, 25), (F.SEAM_REC 7, 0x7FF01F0),
    (F.LOOP_STAT, 0x384000000001), (F.DBG_STAT, 17)] }⟩

theorem test_witness_OwnershipInstructions :
    (s1.dev.atRest ∧ s1.dev.fetches f ∧ s1.dev.alone f.eng ∧ s1.dev.owner (BitVec.toNat ((s1.dev.eng f.eng).reg 0) % 256) = Own.none) ∧
    (s2.dev.atRest ∧ s2.dev.fetches f ∧ s2.dev.alone f.eng ∧
      (s2.dev.owner (BitVec.toNat ((s2.dev.eng f.eng).reg 0) % 256) ≠ Own.none) ∧
      (s2.dev.owner (BitVec.toNat ((s2.dev.eng f.eng).reg 0) % 256) = s2.dev.me f.eng ∧
        ((if false = true then BitVec.toNat ((s2.dev.eng f.eng).reg 1) % 16 else BitVec.toNat (15 : BitVec 4)) ≤ 9 ∨ (if false = true then BitVec.toNat ((s2.dev.eng f.eng).reg 1) % 16 else BitVec.toNat (15 : BitVec 4)) = 15) ∧
        ¬(s2.dev.me f.eng = Own.collar ∧ (if false = true then BitVec.toNat ((s2.dev.eng f.eng).reg 1) % 16 else BitVec.toNat (15 : BitVec 4)) = Own.label ∧ false = true)) ∧
      ((s2.dev.owner (BitVec.toNat ((s2.dev.eng f.eng).reg 0) % 256) ≠ s2.dev.me f.eng ∨ (9 < if true = true then BitVec.toNat ((s2.dev.eng f.eng).reg 1) % 16 else BitVec.toNat (15 : BitVec 4)) ∧ (if true = true then BitVec.toNat ((s2.dev.eng f.eng).reg 1) % 16 else BitVec.toNat (15 : BitVec 4)) < 15))) ∧
    (s4.dev.atRest ∧ s4.dev.fetches g ∧ s4.dev.alone g.eng ∧ s4.dev.owner (BitVec.toNat ((s4.dev.eng g.eng).reg 0) % 256) = s4.dev.me g.eng ∧
      s4.dev.me g.eng = Own.collar ∧ (if false = true then BitVec.toNat ((s4.dev.eng g.eng).reg 2) % 16 else BitVec.toNat (9 : BitVec 4)) = Own.label ∧
      true = true) := by
  unfold Dev.atRest Dev.untapped Dev.fetches Dev.alone
  decide +kernel

end OwnershipInstructions


theorem test_witness_SignalRaisesAndArmRoutes :
    (let s : State := ⟨[], { up with
         regs := [(F.SYS_MODE, 0x4101), (F.SYS_PADSTAT, 0x10000), (F.PWR_STAT, 111), (F.CLK_STAT, 25), (F.TMR_DIV 32, 54), (F.EVT_RTL 4, 0x2036),
           (F.EVT_RTR 31, 54), (F.EVT_RTR 35, 54), (F.EVT_PENDL, 192), (F.EVT_PENDR, 128), (F.LOOP_STAT, 0x384000000001), (F.DBG_STAT, 17)] }⟩
     let f : Fetch := ⟨Eng.left, Check.sound⟩
     s.dev.atRest ∧
     s.dev.fetches f ∧
     s.dev.paired = false) ∧
    (let s : State := machine2
     let f : Fetch := ⟨Eng.left, Check.sound⟩
     let i : BitVec 5 := 1
     s.dev.atRest ∧
     s.dev.fetches f ∧
     s.dev.alone f.eng ∧
     0 < i.toNat ∧
     i.toNat < inputsN f.eng ∧
     s.dev.orders = [] ∧
     s.dev.held = []) := by
  unfold Dev.atRest Dev.untapped Dev.fetches Dev.alone
  decide +kernel

theorem test_witness_WaitsAndTheirEnds :
    (let s : State := ⟨[], { up with
         regs := [(F.SYS_MODE, 0x4101), (F.SYS_PADSTAT, 0x10000), (F.PWR_STAT, 111), (F.CLK_STAT, 25), (F.EVT_OVFL, 0x80000002),
           (F.LOOP_STAT, 0x384000000001), (F.DBG_STAT, 17)]
         engL := { EngState.init 0 with w := #v[1, 0, 0, 0, 0, 0, 0, 0, 0, 0, 0, 0, 0, 0, 0, 0], ia := 0x120000 } }⟩
     let f : Fetch := ⟨Eng.left, Check.sound⟩
     let ra : WReg := 0
     s.dev.atRest ∧
     s.dev.fetches f ∧
     s.dev.alone f.eng ∧
     s.dev.flag F.DBG_TRCFG_EN = false ∧
     s.dev.reg (pendReg f.eng) = 0 ∧
     BitVec.toNat ((s.dev.eng f.eng).reg ra) % 2 ^ inputsN f.eng ≠ 0 ∧
     (∀ (i : Nat), i < inputsN f.eng → (BitVec.toNat ((s.dev.eng f.eng).reg ra) % 2 ^ inputsN f.eng).testBit i = true → s.dev.pendCount f.eng i = 0)) ∧
    (let s : State := ⟨[], { up with
         regs := [(F.SYS_MODE, 0x4101), (F.SYS_PADSTAT, 0x10000), (F.PWR_STAT, 111), (F.CLK_STAT, 25), (F.EVT_PENDL, 1), (F.EVT_OVFL, 0x80000002),
           (F.LOOP_STAT, 0x384000000001), (F.DBG_STAT, 17)]
         engL := { EngState.init 0 with w := #v[1, 0, 0, 0, 0, 0, 0, 0, 0, 0, 0, 0, 0, 0, 0, 0], ia := 0x120000 } }⟩
     let f : Fetch := ⟨Eng.left, Check.sound⟩
     let ra : WReg := 0
     let i : Nat := 0
     s.dev.atRest ∧
     s.dev.fetches f ∧
     s.dev.alone f.eng ∧
     s.dev.flag F.DBG_TRCFG_EN = false ∧
     i < inputsN f.eng ∧
     (BitVec.toNat ((s.dev.eng f.eng).reg ra) % 2 ^ inputsN f.eng).testBit i = true ∧
     0 < s.dev.pendCount f.eng i ∧
     (∀ (j : Nat), j < i → (BitVec.toNat ((s.dev.eng f.eng).reg ra) % 2 ^ inputsN f.eng).testBit j = true → s.dev.pendCount f.eng j = 0)) ∧
    (let s : State := ⟨[], { up with
         regs := [(F.SYS_MODE, 0x4101), (F.SYS_PADSTAT, 0x10000), (F.PWR_STAT, 111), (F.CLK_STAT, 25), (F.EVT_PENDL, 1), (F.EVT_OVFL, 0x80000002),
           (F.LOOP_STAT, 0x384000000001), (F.DBG_STAT, 17)] }⟩
     let f : Fetch := ⟨Eng.left, Check.sound⟩
     let ra : WReg := 0
     s.dev.atRest ∧
     s.dev.fetches f ∧
     s.dev.alone f.eng ∧
     s.dev.flag F.DBG_TRCFG_EN = false ∧
     BitVec.toNat ((s.dev.eng f.eng).reg ra) % 2 ^ inputsN f.eng = 0 ∧
     s.dev.reg (pendReg f.eng) ≠ 0) ∧
    (let s : State := ⟨[], { up with
         regs := [(F.SYS_MODE, 0x4101), (F.SYS_PADSTAT, 0x10000), (F.PWR_STAT, 111), (F.CLK_STAT, 25), (F.EVT_PENDL, 12), (F.EVT_OVFL, 0x80000002),
           (F.LOOP_STAT, 0x384000000001), (F.DBG_STAT, 18)]
         engL := { EngState.init 0 with ia := 0x120000, wait := Wait.waitev 3 6 } }⟩
     let x : Eng := Eng.left
     let rd : WReg := 3
     let m : Nat := 6
     let i : Nat := 1
     s.dev.atRest ∧
     s.dev.alone x ∧
     s.dev.asleep = false ∧
     s.dev.flag F.DBG_TRCFG_EN = false ∧
     s.dev.runOf x = Run.waiting ∧
     s.dev.haltBit x = false ∧
     (s.dev.eng x).wait = Wait.waitev rd m ∧
     i < inputsN x ∧
     m.testBit i = true ∧
     0 < s.dev.pendCount x i ∧
     (∀ (j : Nat), j < i → m.testBit j = true → s.dev.pendCount x j = 0)) ∧
    (let s : State := ⟨[], { up with
         regs := [(F.SYS_MODE, 0x4101), (F.SYS_PADSTAT, 0x10000), (F.PWR_STAT, 111), (F.CLK_STAT, 25), (F.EVT_PENDL, 1), (F.EVT_OVFL, 0x80000002),
           (F.LOOP_STAT, 0x384000000001), (F.DBG_STAT, 18)]
         engL := { EngState.init 0 with ia := 0x120000, wait := Wait.doze } }⟩
     let x : Eng := Eng.left
     s.dev.atRest ∧
     s.dev.alone x ∧
     s.dev.asleep = false ∧
     s.dev.flag F.DBG_TRCFG_EN = false ∧
     s.dev.runOf x = Run.waiting ∧
     s.dev.haltBit x = false ∧
     (s.dev.eng x).wait = Wait.doze ∧
     s.dev.reg (pendReg x) ≠ 0) ∧
    (let s : State := ⟨[], { up with
         regs := [(F.SYS_MODE, 0x4101), (F.SYS_PADSTAT, 0x10000), (F.PWR_STAT, 111), (F.CLK_STAT, 25), (F.EVT_OVFL, 0x80000002),
           (F.LOOP_STAT, 0x384000000001), (F.DBG_STAT, 18)]
         engL := { EngState.init 0 with ia := 0x120000, wait := Wait.doze } }⟩
     let x : Eng := Eng.left
     s.dev.atRest ∧
     s.dev.alone x ∧
     s.dev.asleep = false ∧
     s.dev.flag F.DBG_TRCFG_EN = false ∧
     s.dev.runOf x = Run.waiting ∧
     s.dev.haltBit x = false ∧
     (s.dev.eng x).wait = Wait.doze ∧
     s.dev.reg (pendReg x) = 0) := by
  unfold Dev.atRest Dev.untapped Dev.fetches Dev.alone
  decide +kernel

namespace RequestInstructions

def f : Fetch := ⟨Eng.left, Check.sound⟩
def sr : UsfReq := ⟨0, 3, 1, false, false, 0, 1, 1, 0, 1, false, 1, 0, []⟩
def cr : AdcReq := ⟨3, 1, 0, 1, 0, false, false, [], 0⟩
def w0 (d : Dev) : Dev := { d with engL := { EngState.init 0 with w := #v[0x56207300200000000, 0x57207300200000000, 0, 0, 0, 0, 0, 0, 0, 0, 0, 0, 0, 0, 0, 0], ia := 0x120000 } }
def ready : List (Fld × Nat) := [(⟨F.SEAM_REC 5, 71, 0⟩, 0x50000F1), (⟨F.USF_PATH_CFG 1, 71, 0⟩, 0x80481E3E8), (⟨F.ADC_IN 6, 71, 0⟩, 0xFFF000000001100000)]
def s1 : State := ⟨[], { (w0 (set up ready)) with
  regs := [(F.SYS_MODE, 0x4101), (F.SYS_PADSTAT, 0x10000), (F.PWR_STAT, 111), (F.CLK_STAT, 25), (F.SEAM_REC 5, 0x50000F1),
    (F.USF_PATH_CFG 1, 0x80481E3E8), (F.ADC_IN 6, 0xFFF000000001100000), (F.LOOP_STAT, 0x384000000001), (F.DBG_STAT, 17)] }⟩
def s2 : State := ⟨[], { (w0 up) with
  regs := [(F.SYS_MODE, 0x4101), (F.SYS_PADSTAT, 0x10000), (F.PWR_STAT, 111), (F.CLK_STAT, 25), (F.LOOP_STAT, 0x384000000001), (F.DBG_STAT, 17)] }⟩
def s3 : State := ⟨[], { (w0 { set up ready with usf := { Usf.init with queue := List.replicate 8 sr } }) with
  regs := [(F.SYS_MODE, 0x4101), (F.SYS_PADSTAT, 0x10000), (F.PWR_STAT, 111), (F.CLK_STAT, 25), (F.SEAM_REC 5, 0x50000F1),
    (F.USF_PATH_CFG 1, 0x80481E3E8), (F.USF_STAT, 0xF0018), (F.ADC_IN 6, 0xFFF000000001100000), (F.LOOP_STAT, 0x384000000001), (F.DBG_STAT, 17)] }⟩
def s4 : State := ⟨[], { (w0 { set up ready with adc := { Adc.init with queue := List.replicate 8 cr } }) with
  regs := [(F.SYS_MODE, 0x4101), (F.SYS_PADSTAT, 0x10000), (F.PWR_STAT, 111), (F.CLK_STAT, 25), (F.SEAM_REC 5, 0x50000F1),
    (F.USF_PATH_CFG 1, 0x80481E3E8), (F.ADC_IN 6, 0xFFF000000001100000), (F.ADC_STAT, 24), (F.LOOP_STAT, 0x384000000001), (F.DBG_STAT, 17)] }⟩

theorem test_witness_RequestInstructions :
    (s1.dev.atRest ∧ s1.dev.fetches f ∧ s1.dev.alone f.eng ∧
      (s1.dev.usfServed (usfWord ((s1.dev.eng f.eng).reg 0)) ∧ ¬s1.dev.usfFull (usfWord ((s1.dev.eng f.eng).reg 0)) ∧ s1.dev.headsSound ∧
        s1.dev.owner (usfWord ((s1.dev.eng f.eng).reg 0)).block = s1.dev.me f.eng) ∧
      (s1.dev.adcServed (adcWord ((s1.dev.eng f.eng).reg 0)) ∧ s1.dev.adc.queue.length < 8) ∧
      (¬s1.dev.adcServed (adcWord ((s1.dev.eng f.eng).reg 1)))) ∧
    (s2.dev.atRest ∧ s2.dev.fetches f ∧ s2.dev.alone f.eng ∧ ¬s2.dev.usfServed (usfWord ((s2.dev.eng f.eng).reg 0))) ∧
    (s3.dev.atRest ∧ s3.dev.fetches f ∧ s3.dev.alone f.eng ∧ s3.dev.usfServed (usfWord ((s3.dev.eng f.eng).reg 0)) ∧
      s3.dev.usfFull (usfWord ((s3.dev.eng f.eng).reg 0))) ∧
    (s4.dev.atRest ∧ s4.dev.fetches f ∧ s4.dev.alone f.eng ∧ s4.dev.adcServed (adcWord ((s4.dev.eng f.eng).reg 0)) ∧ 8 ≤ s4.dev.adc.queue.length) := by
  have h1 := heads_of s1.dev (by decide +kernel)
  unfold Dev.atRest Dev.untapped Dev.usfServed Dev.adcServed Dev.fetches Dev.alone
  simp only [h1, full_iff, serves_iff, true_and]
  decide +kernel

end RequestInstructions


theorem test_witness_ServiceCallsAndMarks :
    (let s : State := machine3
     s.dev.atRest ∧
     s.dev.paired = false ∧
     (let f : Fetch := ⟨Eng.left, Check.sound⟩
      s.dev.fetches f ∧
      (let n : BitVec 8 := 0
       s.dev.flag F.DBG_TRCFG_EN = false ∧
       f.eng ≠ Eng.collar ∧
       (svcCallers n.toNat).isSome = true ∧
       s.dev.col.svcQ = []) ∧
      ((f.eng = Eng.collar ∨ s.dev.flag F.DBG_TRCFG_EN = false)))) ∧
    (let s : State := ⟨[], { up with
         regs := [(F.SYS_MODE, 0x4101), (F.SYS_PADSTAT, 0x10000), (F.PWR_STAT, 111), (F.CLK_STAT, 25), (F.LOOP_STAT, 0x384000000001),
           (F.DBG_STAT, 17), (F.DBG_TRCFG, 1)]
         engL := { EngState.init 0 with w := #v[1, 2, 3, 4, 5, 6, 0, 0, 0, 0, 0, 0, 0, 0, 0, 0], ia := 0x120000 } }⟩
     let f : Fetch := ⟨Eng.left, Check.sound⟩
     s.dev.atRest ∧
     s.dev.fetches f ∧
     s.dev.paired = false ∧
     f.eng ≠ Eng.collar ∧
     s.dev.flag F.DBG_TRCFG_EN = true ∧
     s.dev.flag F.DBG_TRCFG_STREAM = false ∧
     s.dev.asleep = false ∧
     s.dev.traceN < 1024) := by
  unfold Dev.atRest Dev.untapped Dev.fetches
  decide +kernel

theorem test_witness_TrapsStopTheSleeve :
    (let s : State := machine3
     let f : Fetch := ⟨Eng.left, Check.sound⟩
     s.dev.atRest ∧
     s.dev.fetches f ∧
     f.eng ≠ Eng.collar ∧
     s.dev.flag F.DBG_TRCFG_EN = false) ∧
    (let s : State := ⟨[], { up with
         engL := { EngState.init 0 with w := #v[0x10103, 0x2000, 0, 0, 0, 0, 0, 0, 0, 0, 0, 0, 0, 0, 0, 0], ia := 0x120000 } }⟩
     s.dev.atRest ∧
     s.dev.flag F.DBG_TRCFG_EN = false ∧
     (let f : Fetch := ⟨Eng.left, Check.sound⟩
      f.eng ≠ Eng.collar ∧
      s.dev.runOf f.eng = Run.running ∧
      s.dev.fetches f ∧
      (let ra : WReg := 0
       let imm : BitVec 22 := 0
       let ea : Nat := 0x10103
       (↑(BitVec.toNat ((s.dev.eng f.eng).reg ra)) + imm.toInt) % 2 ^ 20 = ↑ea ∧
       s.dev.mayLoad f.eng ea = false ∧
       s.dev.mayStore f.eng ea = false) ∧
      (let p : BitVec 7 := 0
       let l : BitVec 7 := 0
       (l = 0 ∨ 72 < p.toNat + l.toNat)) ∧
      (let sh : BitVec 8 := 144
       142 < sh.toNat ∧
       143 < sh.toNat) ∧
      (let sh : BitVec 7 := 72
       71 < sh.toNat)) ∧
     (let f : Fetch := ⟨Eng.left, Check.double⟩
      f.eng ≠ Eng.collar ∧
      s.dev.runOf f.eng = Run.running ∧
      fetchSource f.eng ((s.dev.eng f.eng).ia.toNat / 2) = true ∧
      f.check = Check.double)) ∧
    (let s : State := ⟨[], { up with
         engL := { EngState.init 0 with
           w := #v[0x10103, 0x2000, 0, 0, 0, 0, 0, 0, 0, 0, 0, 0, 0, 0, 0, 0]
           ia := 0x120001
           loops := [⟨0, 0, 1⟩, ⟨0, 0, 1⟩, ⟨0, 0, 1⟩, ⟨0, 0, 1⟩] } }⟩
     s.dev.atRest ∧
     s.dev.flag F.DBG_TRCFG_EN = false ∧
     (let f : Fetch := ⟨Eng.left, Check.sound⟩
      f.eng ≠ Eng.collar ∧
      s.dev.runOf f.eng = Run.running ∧
      s.dev.fetches f ∧
      (let count : BitVec 12 := 1
       let len : BitVec 10 := 1
       0 < count.toNat ∧
       len ≠ 0 ∧
       4 ≤ (s.dev.eng f.eng).loops.length) ∧
      ((s.dev.eng f.eng).ia.getLsbD 0 = true))) ∧
    (let s : State := ⟨[], { up with
         engL := { EngState.init 0 with w := #v[0x10103, 0x2000, 0, 0, 0, 0, 0, 0, 0, 0, 0, 0, 0, 0, 0, 0], ia := 0x11FFFF } }⟩
     let f : Fetch := ⟨Eng.left, Check.sound⟩
     s.dev.atRest ∧
     f.eng ≠ Eng.collar ∧
     s.dev.flag F.DBG_TRCFG_EN = false ∧
     s.dev.runOf f.eng = Run.running ∧
     fetchSource f.eng ((s.dev.eng f.eng).ia.toNat / 2) = false ∧
     f.check = Check.sound) := by
  unfold Dev.atRest Dev.untapped Dev.fetches
  decide +kernel

theorem test_witness_PairedSleevesMeet :
    (let s : State := ⟨[], { up with
         regs := [(F.SYS_MODE, 0x4101), (F.SYS_RGNL 0, 0xE2BC00000), (F.SYS_RGNR 0, 0xE2BC00000), (F.SYS_PADSTAT, 0x10000), (F.PWR_STAT, 111),
           (F.CLK_STAT, 25), (F.LOOP_STAT, 0x384000000001), (F.DBG_STAT, 273), (F.COLLAR_CHTAB, 0x100000000)]
         mem := [(0x10100, 0xFFFFFFFFFFFFFFFFFB), (0x10101, 0x3005), (0x10102, 100), (0x10103, 900), (0x10104, 0xFFFFFFFFFFFFFFFFB3),
           (0x10105, 0x7FFFFFFFFFFFFFFFFF), (0x10106, 0x800000000000000000)]
         engL := { EngState.init 0 with w := #v[5, 0x4004, 0, 0, 0, 0, 0, 0, 0, 0, 0, 0, 0, 0, 0, 0], ia := 0x120000 } }⟩
     let f : Fetch := ⟨Eng.left, Check.sound⟩
     let ra : WReg := 1
     let imm : BitVec 22 := 0
     let ea : Nat := 0x4004
     s.dev.atRest ∧
     s.dev.fetches f ∧
     s.dev.paired = true ∧
     f.eng ≠ Eng.collar ∧
     (↑(BitVec.toNat ((s.dev.eng f.eng).reg ra)) + imm.toInt) % 2 ^ 20 = ↑ea ∧
     outsideHalf ea = true ∧
     s.dev.mayLoad f.eng ea = true ∧
     (isRegSpace ea = false → s.dev.eccMark (s.dev.physical f.eng ea) = none) ∧
     s.dev.mayStore f.eng ea = true) ∧
    (let s : State := ⟨[], { up with
         regs := [(F.SYS_MODE, 0x4101), (F.SYS_PADSTAT, 0x10000), (F.PWR_STAT, 111), (F.CLK_STAT, 25), (F.TMR_CAPSEL 64, 0x70000F1),
           (F.LOOP_STAT, 0x384000000001), (F.DBG_STAT, 290), (F.COLLAR_CHTAB, 0x100000000)]
         engL := { EngState.init 0 with
           w := #v[1, 7, 0, 0, 0, 0, 0, 0, 0, 0, 0, 0, 0, 0, 0, 0]
           ia := 0x120000
           wait := Wait.rendezvous (YOp.testown 0 1) }
         engR := { EngState.init 0 with
           w := #v[3, 7, 0, 0, 0, 0, 0, 0, 0, 0, 0, 0, 0, 0, 0, 0]
           ia := 0x120000
           wait := Wait.rendezvous (YOp.testown 0 1) } }⟩
     let l : YOp := YOp.testown 0 1
     let r : YOp := YOp.testown 0 1
     let rd : WReg := 0
     let ra : WReg := 1
     s.dev.atRest ∧
     s.dev.paired = true ∧
     s.dev.flag F.DBG_TRCFG_EN = false ∧
     s.dev.runOf Eng.left = Run.waiting ∧
     s.dev.runOf Eng.right = Run.waiting ∧
     s.dev.haltBit Eng.left = false ∧
     s.dev.haltBit Eng.right = false ∧
     s.dev.engL.wait = Wait.rendezvous l ∧
     s.dev.engR.wait = Wait.rendezvous r ∧
     l = YOp.testown rd ra ∧
     r = YOp.testown rd ra ∧
     s.dev.engL.ia = s.dev.engR.ia ∧
     BitVec.toNat (s.dev.engL.reg ra) % 256 = BitVec.toNat (s.dev.engR.reg ra) % 256) ∧
    (let s : State := ⟨[], { up with
         regs := [(F.SYS_MODE, 0x4101), (F.SYS_PADSTAT, 0x10000), (F.PWR_STAT, 111), (F.CLK_STAT, 25), (F.TMR_CAPSEL 64, 0x70000F1),
           (F.LOOP_STAT, 0x384000000001), (F.DBG_STAT, 290), (F.COLLAR_CHTAB, 0x100000000)]
         engL := { EngState.init 0 with
           w := #v[1, 7, 0, 0, 0, 0, 0, 0, 0, 0, 0, 0, 0, 0, 0, 0]
           ia := 0x120000
           wait := Wait.rendezvous (YOp.testown 0 1) }
         engR := { EngState.init 0 with
           w := #v[3, 7, 0, 0, 0, 0, 0, 0, 0, 0, 0, 0, 0, 0, 0, 0]
           ia := 0x120000
           wait := Wait.rendezvous (YOp.testown 0 2) } }⟩
     let l : YOp := YOp.testown 0 1
     let r : YOp := YOp.testown 0 2
     s.dev.atRest ∧
     s.dev.paired = true ∧
     s.dev.flag F.DBG_TRCFG_EN = false ∧
     s.dev.runOf Eng.left = Run.waiting ∧
     s.dev.runOf Eng.right = Run.waiting ∧
     s.dev.haltBit Eng.left = false ∧
     s.dev.haltBit Eng.right = false ∧
     s.dev.engL.wait = Wait.rendezvous l ∧
     s.dev.engR.wait = Wait.rendezvous r ∧
     (l ≠ r ∨ s.dev.engL.ia ≠ s.dev.engR.ia)) := by
  unfold Dev.atRest Dev.untapped Dev.fetches
  decide +kernel

namespace RegisterWritesStoreLegalValues

/-- Values that meet the hypotheses on ranges: a clamped field, a signed one, and an illegal code with its safe one. -/
theorem test_witness_RegisterWritesStoreLegalValues_ranges :
    (17 ≤ 36 ∧ 17 ≤ 36 ∧ 36 < 63) ∧ (0 < 10 ∧ -2 ^ (10 - 1) ≤ (-512 : Int) ∧ (-512 : Int) ≤ 511 ∧ (511 : Int) < 2 ^ (10 - 1) ∧ 1023 < 2 ^ 10) ∧
    (5 ≤ 6 ∧ 6 ≤ 7) ∧ (∀ a b c, Rng.safe 5 7 0 = .safe a b c → c < a ∨ b < c) ∧ (∀ a b, Rng.safe 5 7 0 ≠ .clampS a b) := by
  refine ⟨by decide, by decide, by decide, ?_, by simp⟩
  rintro a b c ⟨rfl, rfl, rfl⟩
  decide

def s1 : State := still { set up [(⟨F.PWR_EVT, 71, 0⟩, 0x1F)] with port := { Port.init with open_ := true } }

theorem test_witness_RegisterWritesStoreLegalValues :
    (s1.dev.atRest ∧
      (s1.dev.admits Master.collar F.SYS_PADCFG ∧ F.SYS_PADCFG ∈ plainRegs ∧ (F.SYS_PADCFG = F.DBG_TRCFG → s1.dev.traceN = 0)) ∧
      (s1.dev.admits Master.host F.LOOP_URV ∧ F.LOOP_URV ∈ waitingRegs) ∧
      (s1.dev.admits Master.host F.PWR_EVT ∧ F.PWR_EVT ∈ eventRegs) ∧
      (F.PWR_STAT ≠ F.SEAM_QCTL ∧
        (∀ (f : FieldDef), f ∈ fieldsAt F.PWR_STAT → BitVec.allOnes 72 &&& maskOf f.hi f.lo = 0 ∨ f.acc = Acc.ro ∨ f.acc = Acc.rwt ∧ Master.host ≠ Master.collar ∧ s1.dev.mode ≠ 5))) := by
  unfold Dev.atRest Dev.untapped Dev.admits
  decide +kernel

end RegisterWritesStoreLegalValues


namespace TimerAndTidelineWrites

def c0 : Cap := ⟨5, 3, 1⟩
def c1 : Cap := ⟨9, 4, 2⟩
def chan (n : Nat) (more : List (Fld × Nat)) : Dev :=
  { set up ([(⟨F.TMR_CNT n, 71, 0⟩, 12345), (⟨F.TMR_CMP0 n, 71, 0⟩, 99999)] ++ more) with tmr := [(n, ⟨77, [c0, c1], 5, false, 0, 0, 0, false, false, false, 0⟩)] }
def tide (ctl : Nat) : Dev := set up [(⟨F.TIDE_CTL, 71, 0⟩, ctl), (⟨F.TIDE_SEC, 71, 0⟩, 0xF4240000000), (⟨F.TIDE_WDAY, 71, 0⟩, 0x500006)]
def s1 : State := ⟨[], { (chan 3 [(⟨F.TMR_CFG 3, 71, 0⟩, 3), (F.TMR_STAT_RUN 3, 1)]) with
  regs := [(F.SYS_MODE, 0x4101), (F.SYS_PADSTAT, 0x10000), (F.PWR_STAT, 111), (F.CLK_STAT, 25), (F.TMR_CFG 3, 3), (F.TMR_CNT 3, 0x3039),
    (F.TMR_CMP0 3, 0x1869F), (F.TMR_STAT 3, 1), (F.LOOP_STAT, 0x384000000001), (F.DBG_STAT, 17)] }⟩
def s2 : State := ⟨[], { (chan 0 []) with
  regs := [(F.SYS_MODE, 0x4101), (F.SYS_PADSTAT, 0x10000), (F.PWR_STAT, 111), (F.CLK_STAT, 25), (F.TMR_CNT 0, 0x3039), (F.TMR_CMP0 0, 0x1869F),
    (F.LOOP_STAT, 0x384000000001), (F.DBG_STAT, 17)] }⟩
def s3 : State := ⟨[], { (chan 1 []) with
  regs := [(F.SYS_MODE, 0x4101), (F.SYS_PADSTAT, 0x10000), (F.PWR_STAT, 111), (F.CLK_STAT, 25), (F.TMR_CNT 1, 0x3039), (F.TMR_CMP0 1, 0x1869F),
    (F.LOOP_STAT, 0x384000000001), (F.DBG_STAT, 17)] }⟩
def s4 : State := ⟨[], { (chan 8 []) with
  regs := [(F.SYS_MODE, 0x4101), (F.SYS_PADSTAT, 0x10000), (F.PWR_STAT, 111), (F.CLK_STAT, 25), (F.TMR_CNT 8, 0x3039), (F.TMR_CMP0 8, 0x1869F),
    (F.LOOP_STAT, 0x384000000001), (F.DBG_STAT, 17)] }⟩
def s5 : State := ⟨[], { up with
  regs := [(F.SYS_MODE, 0x4101), (F.SYS_PADSTAT, 0x10000), (F.PWR_STAT, 111), (F.CLK_STAT, 25), (F.LOOP_STAT, 0x384000000001), (F.DBG_STAT, 17)] }⟩
def s6 : State := still { tide 0x3203 with tide := { Tide.init with haltOld := 0xF4240000000 } }
def s7 : State := ⟨[], { (tide 0) with
  regs := [(F.SYS_MODE, 0x4101), (F.SYS_PADSTAT, 0x10000), (F.PWR_STAT, 111), (F.CLK_STAT, 25), (F.TIDE_SEC, 0xF4240000000), (F.TIDE_WDAY, 0x500006),
    (F.TIDE_CTL, 0), (F.LOOP_STAT, 0x384000000001), (F.DBG_STAT, 17)] }⟩

theorem test_witness_TimerAndTidelineWrites :
    (s1.dev.atRest ∧ s1.dev.links = [] ∧
      ((3 ≠ 1 ∨ Master.collar = Master.collar ∨ s1.dev.mode = 5) ∧ s1.dev.admits Master.collar (F.TMR_CMD ↑3) ∧ bitsOf 260 2 2 = 1 ∧ 3 ≠ 1) ∧
      ((3 ≠ 1 ∨ Master.collar = Master.collar ∨ s1.dev.mode = 5) ∧ s1.dev.admits Master.collar (F.TMR_CFG ↑3) ∧
        bitsOf 260 0 0 ≠ s1.dev.get (F.TMR_CFG_EN ↑3)) ∧
      ((3 ≠ 1 ∨ Master.collar = Master.collar ∨ s1.dev.mode = 5) ∧ s1.dev.admits Master.collar (F.TMR_CNT ↑3)) ∧
      ((3 ≠ 1 ∨ Master.collar = Master.collar ∨ s1.dev.mode = 5) ∧ 3 < 8 ∧ s1.dev.admits Master.collar (F.TMR_CAPCTL ↑3) ∧
        (s1.dev.ch ↑3).queue = [c0, c1] ∧ bitsOf 260 8 8 = 1 ∧ bitsOf 260 7 0 ≠ c0.seq) ∧
      ((3 ≠ 1 ∨ Master.collar = Master.collar ∨ s1.dev.mode = 5) ∧ s1.dev.admits Master.collar (F.TMR_CMD ↑3) ∧ bitsOf 258 1 1 = 1 ∧
        bitsOf 258 2 2 = 0) ∧
      ((3 ≠ 1 ∨ Master.host = Master.collar ∨ s1.dev.mode = 5) ∧ s1.dev.admits Master.host (F.TMR_CMD ↑3) ∧ bitsOf 263 1 1 = 1 ∧ bitsOf 263 2 2 = 1 ∧
        3 ≠ 1) ∧
      ((3 ≠ 1 ∨ Master.host = Master.collar ∨ s1.dev.mode = 5) ∧ s1.dev.admits Master.host (F.TMR_CMD ↑3) ∧ bitsOf 263 0 0 = 1 ∧ bitsOf 263 2 2 = 1 ∧
        3 ≠ 1) ∧
      ((3 ≠ 1 ∨ Master.host = Master.collar ∨ s1.dev.mode = 5) ∧ s1.dev.admits Master.host (F.TMR_CMD ↑3) ∧ bitsOf 259 0 0 = 1 ∧ bitsOf 259 2 2 = 0) ∧
      ((3 ≠ 1 ∨ Master.host = Master.collar ∨ s1.dev.mode = 5) ∧ 3 < 8 ∧ s1.dev.admits Master.host (F.TMR_CAPCTL ↑3) ∧
        (s1.dev.ch ↑3).queue = [c0, c1] ∧ bitsOf 259 8 8 = 1 ∧ bitsOf 259 7 0 = c0.seq)) ∧
    (s3.dev.atRest ∧ s3.dev.links = [] ∧ (¬(1 ≠ 1 ∨ Master.host = Master.collar ∨ s3.dev.mode = 5))) ∧
    (s4.dev.atRest ∧ s4.dev.links = [] ∧ 8 ≤ 8) ∧
    (s5.dev.atRest ∧ s5.dev.links = [] ∧ (3 ≠ 1 ∨ Master.collar = Master.collar ∨ s5.dev.mode = 5) ∧ 3 < 8 ∧
      s5.dev.admits Master.collar (F.TMR_CAPCTL ↑3) ∧ (s5.dev.ch ↑3).queue = []) ∧
    (s6.dev.atRest ∧ (Master.collar = Master.collar ∨ s6.dev.mode = 5) ∧
      (s6.dev.admits Master.collar F.TIDE_CTL ∧ bitsOf 0 0 0 = 0 ∧ bitsOf 0 20 20 = 0 ∧ s6.dev.flag F.TIDE_CTL_HALTED = true) ∧
      (s6.dev.admits Master.collar F.TIDE_SEC ∧ s6.dev.flag F.TIDE_CTL_HALTED = true) ∧
      (s6.dev.admits Master.collar F.TIDE_CIVOFS) ∧
      (s6.dev.admits Master.collar F.TIDE_WDAY) ∧
      (s6.dev.admits Master.collar F.TIDE_CTL ∧ bitsOf 17592186044415 0 0 = 1 ∧ s6.dev.flag F.TIDE_CTL_HALTED = true) ∧
      (s6.dev.admits Master.collar F.TIDE_CTL ∧ bitsOf 1048576 0 0 = 0 ∧ bitsOf 1048576 20 20 = 1 ∧ s6.dev.flag F.TIDE_CTL_HALTED = true)) ∧
    (s7.dev.atRest ∧ (Master.collar = Master.collar ∨ s7.dev.mode = 5) ∧
      (s7.dev.admits Master.collar F.TIDE_CTL ∧ bitsOf 1 0 0 = 1 ∧ s7.dev.flag F.TIDE_CTL_HALTED = false) ∧
      (s7.dev.admits Master.collar F.TIDE_SEC ∧ s7.dev.flag F.TIDE_CTL_HALTED = false) ∧
      (s7.dev.admits Master.collar F.TIDE_CTL ∧ bitsOf 0 0 0 = 0 ∧ bitsOf 0 20 20 = 0 ∧ s7.dev.flag F.TIDE_CTL_HALTED = false)) := by
  unfold Dev.atRest Dev.untapped Dev.admits
  decide +kernel

end TimerAndTidelineWrites


namespace PowerAndSlackWrites

def s1 : State := ⟨[], { up with
  regs := [(F.SYS_MODE, 0x4101), (F.SYS_PADSTAT, 0x10000), (F.PWR_STAT, 111), (F.CLK_STAT, 25), (F.LOOP_STAT, 0x384000000001), (F.DBG_STAT, 17)] }⟩
def s2 : State := still { set up [(⟨F.CLK_SLKSTAT, 71, 0⟩, 3)] with slack := { Slack.init with cur := ⟨false, 777⟩ }, sup := { up.sup with savedSrc := 1 } }
def s3 : State := still { up with sup := { up.sup with vpool := 2399 } }
def s4 : State := ⟨[], { (set up [(⟨F.SYS_MODE, 71, 0⟩, 0x4105), (F.PWR_CELL_CHEM, 1)]) with
  regs := [(F.SYS_MODE, 0x4105), (F.SYS_PADSTAT, 0x10000), (F.PWR_STAT, 111), (F.PWR_CELL, 0x394001), (F.CLK_STAT, 25),
    (F.LOOP_STAT, 0x384000000001), (F.DBG_STAT, 17)] }⟩

theorem test_witness_PowerAndSlackWrites :
    (s1.dev.atRest ∧
      ((Master.collar = Master.collar ∨ s1.dev.mode = 5) ∧ s1.dev.admits Master.collar F.PWR_CELL) ∧
      ((Master.collar = Master.collar ∨ s1.dev.mode = 5) ∧ s1.dev.admits Master.collar F.PWR_CHG) ∧
      ((Master.collar = Master.collar ∨ s1.dev.mode = 5) ∧ s1.dev.admits Master.collar F.PWR_POOL) ∧
      (s1.dev.admits Master.collar F.CLK_SLKCMD ∧ bitsOf 4096 12 12 = 1 ∧
        (bitsOf 4096 13 13 = 1 → (s1.dev.flag F.CLK_SLKSTAT_OPEN && s1.dev.flag F.CLK_SLKSTAT_OPENER) = false) ∧
        s1.dev.held.contains (2, 0) = false ∧
        (¬(s1.dev.flag F.CLK_SLKSTAT_OPEN = true ∨ s1.dev.slack.opening ≠ none ∨ s1.dev.slack.gap = true ∨ s1.dev.clockMoving = true)) ∧
        2400 ≤ s1.dev.sup.vpool) ∧
      (s1.dev.admits Master.host F.CLK_SLKCMD ∧ bitsOf 8192 13 12 = 2 ∧ (s1.dev.flag F.CLK_SLKSTAT_OPEN && s1.dev.flag F.CLK_SLKSTAT_OPENER) = false)) ∧
    (s2.dev.atRest ∧
      (s2.dev.admits Master.collar F.CLK_SLKCMD ∧ bitsOf 12307 13 13 = 1 ∧
        (s2.dev.flag F.CLK_SLKSTAT_OPEN && s2.dev.flag F.CLK_SLKSTAT_OPENER) = true ∧ s2.dev.sup.savedSrc < 4) ∧
      (s2.dev.admits Master.host F.CLK_SLKCMD ∧ bitsOf 8191 12 12 = 1 ∧
        (bitsOf 8191 13 13 = 1 → (s2.dev.flag F.CLK_SLKSTAT_OPEN && s2.dev.flag F.CLK_SLKSTAT_OPENER) = false) ∧
        s2.dev.held.contains (2, 0) = false ∧
        (s2.dev.flag F.CLK_SLKSTAT_OPEN = true ∨ s2.dev.slack.opening ≠ none ∨ s2.dev.slack.gap = true ∨ s2.dev.clockMoving = true))) ∧
    (s3.dev.atRest ∧ s3.dev.admits Master.collar F.CLK_SLKCMD ∧ bitsOf 8191 12 12 = 1 ∧
      (bitsOf 8191 13 13 = 1 → (s3.dev.flag F.CLK_SLKSTAT_OPEN && s3.dev.flag F.CLK_SLKSTAT_OPENER) = false) ∧ s3.dev.held.contains (2, 0) = false ∧
      (¬(s3.dev.flag F.CLK_SLKSTAT_OPEN = true ∨ s3.dev.slack.opening ≠ none ∨ s3.dev.slack.gap = true ∨ s3.dev.clockMoving = true)) ∧
      s3.dev.sup.vpool < 2400) := by
  unfold Dev.atRest Dev.untapped Dev.admits
  decide +kernel

end PowerAndSlackWrites


namespace DebugControlAndRegisterFile

def left (d : Dev) (ia : BitVec 21) : Dev :=
  { d with mem := [(0x90000, 0x4C400000), (0x90001, 0xFC0000000)], engL := { EngState.init 0 with w := #v[5, 6, 7, 0, 0, 0, 0, 0, 0, 0, 0, 0, 0, 0, 0, 0], ia := ia }, dport := { Port.init with open_ := true } }
def halted (st wsel : Nat) : Dev := left (set up [(⟨F.DBG_STAT, 71, 0⟩, st), (⟨F.DBG_WSEL, 71, 0⟩, wsel), (F.DBG_CTL_HALTL, 1)]) 0x120000
def s1 : State := ⟨[], { (halted 19 0) with
  regs := [(F.SYS_MODE, 0x4101), (F.SYS_PADSTAT, 0x10000), (F.PWR_STAT, 111), (F.CLK_STAT, 25), (F.LOOP_STAT, 0x384000000001), (F.DBG_CTL, 1),
    (F.DBG_STAT, 19)] }⟩
def s2 : State := ⟨[], { (left up 0x120000) with
  regs := [(F.SYS_MODE, 0x4101), (F.SYS_PADSTAT, 0x10000), (F.PWR_STAT, 111), (F.CLK_STAT, 25), (F.LOOP_STAT, 0x384000000001), (F.DBG_STAT, 17)] }⟩
def s3 : State := ⟨[], { (left (set up [(⟨F.DBG_STAT, 71, 0⟩, 19), (F.DBG_CTL_HALTL, 1)]) 0x120002) with
  regs := [(F.SYS_MODE, 0x4101), (F.SYS_PADSTAT, 0x10000), (F.PWR_STAT, 111), (F.CLK_STAT, 25), (F.LOOP_STAT, 0x384000000001), (F.DBG_CTL, 1),
    (F.DBG_STAT, 19)] }⟩
def s4 : State := ⟨[], { (halted 20 16) with
  regs := [(F.SYS_MODE, 0x4101), (F.SYS_PADSTAT, 0x10000), (F.PWR_STAT, 111), (F.CLK_STAT, 25), (F.LOOP_STAT, 0x384000000001), (F.DBG_CTL, 1),
    (F.DBG_STAT, 20), (F.DBG_WSEL, 16)] }⟩
def s5 : State := ⟨[], { (halted 19 17) with
  regs := [(F.SYS_MODE, 0x4101), (F.SYS_PADSTAT, 0x10000), (F.PWR_STAT, 111), (F.CLK_STAT, 25), (F.LOOP_STAT, 0x384000000001), (F.DBG_CTL, 1),
    (F.DBG_STAT, 19), (F.DBG_WSEL, 17)] }⟩
def s6 : State := ⟨[], { (halted 19 18) with
  regs := [(F.SYS_MODE, 0x4101), (F.SYS_PADSTAT, 0x10000), (F.PWR_STAT, 111), (F.CLK_STAT, 25), (F.LOOP_STAT, 0x384000000001), (F.DBG_CTL, 1),
    (F.DBG_STAT, 19), (F.DBG_WSEL, 18)] }⟩
def s7 : State := ⟨[], { (halted 19 19) with
  regs := [(F.SYS_MODE, 0x4101), (F.SYS_PADSTAT, 0x10000), (F.PWR_STAT, 111), (F.CLK_STAT, 25), (F.LOOP_STAT, 0x384000000001), (F.DBG_CTL, 1),
    (F.DBG_STAT, 19), (F.DBG_WSEL, 19)] }⟩
def s8 : State := ⟨[], { (halted 19 20) with
  regs := [(F.SYS_MODE, 0x4101), (F.SYS_PADSTAT, 0x10000), (F.PWR_STAT, 111), (F.CLK_STAT, 25), (F.LOOP_STAT, 0x384000000001), (F.DBG_CTL, 1),
    (F.DBG_STAT, 19), (F.DBG_WSEL, 20)] }⟩
def s9 : State := ⟨[], { (halted 19 21) with
  regs := [(F.SYS_MODE, 0x4101), (F.SYS_PADSTAT, 0x10000), (F.PWR_STAT, 111), (F.CLK_STAT, 25), (F.LOOP_STAT, 0x384000000001), (F.DBG_CTL, 1),
    (F.DBG_STAT, 19), (F.DBG_WSEL, 21)] }⟩

theorem test_witness_DebugControlAndRegisterFile :
    (s1.dev.atRest ∧
      ((Master.collar = Master.collar ∨ Master.collar = Master.debug) ∧ s1.dev.admits Master.collar F.DBG_CTL ∧ Eng.left ≠ Eng.collar ∧
        (bitsOf 17 (1 - if Eng.left = Eng.left then 0 else 1) (1 - if Eng.left = Eng.left then 0 else 1) = bitsOf (s1.dev.reg F.DBG_CTL) (1 - if Eng.left = Eng.left then 0 else 1) (1 - if Eng.left = Eng.left then 0 else 1)) ∧
        (bitsOf 17 (5 - if Eng.left = Eng.left then 0 else 1) (5 - if Eng.left = Eng.left then 0 else 1) = 0) ∧
        bitsOf 17 (if Eng.left = Eng.left then 0 else 1) (if Eng.left = Eng.left then 0 else 1) = 1 ∧
        (bitsOf 17 (4 + if Eng.left = Eng.left then 0 else 1) (4 + if Eng.left = Eng.left then 0 else 1) = 1) ∧ s1.dev.haltBit Eng.left = true ∧
        s1.dev.runOf Eng.left = Run.halted ∧ fetchSource Eng.left ((s1.dev.eng Eng.left).ia.toNat / 2) = true ∧
        s1.dev.eccMark (s1.dev.fetchWord Eng.left) = none ∧
        ((s1.dev.eng Eng.left).ia.getLsbD 0 = true → bitsOf (s1.dev.load (s1.dev.fetchWord Eng.left)) 35 30 ≠ 3) ∧
        YOp.decode (halfOf (s1.dev.load (s1.dev.fetchWord Eng.left)) ((s1.dev.eng Eng.left).ia.getLsbD 0)) (halfOf (s1.dev.load (s1.dev.fetchWord Eng.left)) true) = some (YOp.mov 3 1) ∧
        plainOp (YOp.mov 3 1) = true) ∧
      ((Master.debug = Master.collar ∨ Master.debug = Master.debug) ∧ s1.dev.admits Master.debug F.DBG_CTL ∧ Eng.left ≠ Eng.collar ∧
        (bitsOf 0 (1 - if Eng.left = Eng.left then 0 else 1) (1 - if Eng.left = Eng.left then 0 else 1) = bitsOf (s1.dev.reg F.DBG_CTL) (1 - if Eng.left = Eng.left then 0 else 1) (1 - if Eng.left = Eng.left then 0 else 1)) ∧
        (bitsOf 0 (5 - if Eng.left = Eng.left then 0 else 1) (5 - if Eng.left = Eng.left then 0 else 1) = 0) ∧
        bitsOf 0 (if Eng.left = Eng.left then 0 else 1) (if Eng.left = Eng.left then 0 else 1) = 0 ∧
        (bitsOf 0 (4 + if Eng.left = Eng.left then 0 else 1) (4 + if Eng.left = Eng.left then 0 else 1) = 0) ∧ s1.dev.haltBit Eng.left = true ∧
        s1.dev.runOf Eng.left = Run.halted) ∧
      (s1.dev.admits Master.collar F.DBG_WDATA ∧ (Master.collar = Master.collar ∨ Master.collar = Master.debug ∧ s1.dev.mode = 5) ∧
        (Eng.left = if s1.dev.flag F.DBG_WSEL_ENG = true then Eng.right else Eng.left) ∧
        (s1.dev.runOf Eng.left = Run.halted ∨ s1.dev.runOf Eng.left = Run.trapped))) ∧
    (s2.dev.atRest ∧
      ((Master.collar = Master.collar ∨ Master.collar = Master.debug) ∧ s2.dev.admits Master.collar F.DBG_CTL ∧ Eng.left ≠ Eng.collar ∧
        (bitsOf 1 (1 - if Eng.left = Eng.left then 0 else 1) (1 - if Eng.left = Eng.left then 0 else 1) = bitsOf (s2.dev.reg F.DBG_CTL) (1 - if Eng.left = Eng.left then 0 else 1) (1 - if Eng.left = Eng.left then 0 else 1)) ∧
        (bitsOf 1 (5 - if Eng.left = Eng.left then 0 else 1) (5 - if Eng.left = Eng.left then 0 else 1) = 0) ∧
        bitsOf 1 (if Eng.left = Eng.left then 0 else 1) (if Eng.left = Eng.left then 0 else 1) = 1 ∧
        (bitsOf 1 (4 + if Eng.left = Eng.left then 0 else 1) (4 + if Eng.left = Eng.left then 0 else 1) = 0) ∧ s2.dev.haltBit Eng.left = false ∧
        s2.dev.runOf Eng.left = Run.running) ∧
      (s2.dev.admits Master.collar F.DBG_WDATA ∧ (Master.collar = Master.collar ∨ Master.collar = Master.debug ∧ s2.dev.mode = 5) ∧
        (Eng.left = if s2.dev.flag F.DBG_WSEL_ENG = true then Eng.right else Eng.left) ∧ s2.dev.runOf Eng.left ≠ Run.halted ∧
        s2.dev.runOf Eng.left ≠ Run.trapped)) ∧
    (s3.dev.atRest ∧ (Master.collar = Master.collar ∨ Master.collar = Master.debug) ∧ s3.dev.admits Master.collar F.DBG_CTL ∧ Eng.left ≠ Eng.collar ∧
      (bitsOf 17 (1 - if Eng.left = Eng.left then 0 else 1) (1 - if Eng.left = Eng.left then 0 else 1) = bitsOf (s3.dev.reg F.DBG_CTL) (1 - if Eng.left = Eng.left then 0 else 1) (1 - if Eng.left = Eng.left then 0 else 1)) ∧
      (bitsOf 17 (5 - if Eng.left = Eng.left then 0 else 1) (5 - if Eng.left = Eng.left then 0 else 1) = 0) ∧
      bitsOf 17 (if Eng.left = Eng.left then 0 else 1) (if Eng.left = Eng.left then 0 else 1) = 1 ∧
      (bitsOf 17 (4 + if Eng.left = Eng.left then 0 else 1) (4 + if Eng.left = Eng.left then 0 else 1) = 1) ∧ s3.dev.haltBit Eng.left = true ∧
      s3.dev.runOf Eng.left = Run.halted ∧ fetchSource Eng.left ((s3.dev.eng Eng.left).ia.toNat / 2) = true ∧
      s3.dev.eccMark (s3.dev.fetchWord Eng.left) = none ∧
      ((s3.dev.eng Eng.left).ia.getLsbD 0 = true → bitsOf (s3.dev.load (s3.dev.fetchWord Eng.left)) 35 30 ≠ 3) ∧
      YOp.decode (halfOf (s3.dev.load (s3.dev.fetchWord Eng.left)) ((s3.dev.eng Eng.left).ia.getLsbD 0)) (halfOf (s3.dev.load (s3.dev.fetchWord Eng.left)) true) = none) ∧
    ((s4.dev.runOf .left = Run.halted ∨ s4.dev.runOf .left = Run.trapped) ∧ s4.dev.atRest ∧ s4.dev.admits Master.collar F.DBG_WDATA ∧ s4.dev.get F.DBG_WSEL_REG = 16) ∧
    (s5.dev.runOf .left = Run.halted ∧ s5.dev.atRest ∧ s5.dev.admits Master.collar F.DBG_WDATA ∧ s5.dev.get F.DBG_WSEL_REG = 17) ∧
    (s6.dev.runOf .left = Run.halted ∧ s6.dev.atRest ∧ s6.dev.admits Master.collar F.DBG_WDATA ∧ s6.dev.get F.DBG_WSEL_REG = 18) ∧
    (s7.dev.runOf .left = Run.halted ∧ s7.dev.atRest ∧ s7.dev.admits Master.collar F.DBG_WDATA ∧ s7.dev.get F.DBG_WSEL_REG = 19) ∧
    (s8.dev.runOf .left = Run.halted ∧ s8.dev.atRest ∧ s8.dev.admits Master.collar F.DBG_WDATA ∧ s8.dev.get F.DBG_WSEL_REG = 20) ∧
    (s9.dev.runOf .left = Run.halted ∧ s9.dev.atRest ∧ s9.dev.admits Master.collar F.DBG_WDATA ∧ s9.dev.get F.DBG_WSEL_REG = 21) := by
  unfold Dev.atRest Dev.untapped Dev.admits
  decide +kernel

end DebugControlAndRegisterFile


namespace RegionTableKeepsWritesApart

def tables : List (Fld × Nat) := [(⟨F.SYS_RGNL 3, 71, 0⟩, 0xE00A00005), (⟨F.SYS_RGNR 2, 71, 0⟩, 0xE2FF002FF), (⟨F.SYS_RGNR 7, 71, 0⟩, 0xE0140000A)]
def s1 : State := ⟨[], { (set up tables) with
  regs := [(F.SYS_MODE, 0x4101), (F.SYS_RGNL 3, 0xE00A00005), (F.SYS_RGNR 2, 0xE2FF002FF), (F.SYS_RGNR 7, 0xE0140000A), (F.SYS_PADSTAT, 0x10000),
    (F.PWR_STAT, 111), (F.CLK_STAT, 25), (F.LOOP_STAT, 0x384000000001), (F.DBG_STAT, 17)] }⟩
def s2 : State := still { set up ((⟨F.SYS_MODE, 71, 0⟩, 0x4505) :: tables) with port := { Port.init with open_ := true } }

theorem test_witness_RegionTableKeepsWritesApart :
    (s1.dev.atRest ∧
      ((Master.collar = Master.collar ∨ s1.dev.mode = 5) ∧ s1.dev.admits Master.collar (if false = true then F.SYS_RGNR ↑0 else F.SYS_RGNL ↑0) ∧
        (s1.dev.paired = false ∧ bitsOf 61202236392 35 34 = 3 ∧ ∃ g, g ≤ min 767 (bitsOf 61202236392 29 20) ∧ min 767 (bitsOf 61202236392 9 0) ≤ g ∧ ∃ k, k < 8 ∧ (fun v g => bitsOf v 35 35 = 1 ∧ bitsOf v 34 34 = 1 ∧ bitsOf v 9 0 ≤ g ∧ g ≤ bitsOf v 29 20) ((fun k => s1.dev.reg (if false = true then F.SYS_RGNL k else F.SYS_RGNR k)) k) g)) ∧
      ((Master.collar = Master.collar ∨ s1.dev.mode = 5) ∧ s1.dev.admits Master.collar (if false = true then F.SYS_RGNR ↑7 else F.SYS_RGNL ↑7) ∧
        (¬(s1.dev.paired = false ∧ bitsOf 60134785030 35 34 = 3 ∧ ∃ g, g ≤ min 767 (bitsOf 60134785030 29 20) ∧ min 767 (bitsOf 60134785030 9 0) ≤ g ∧ ∃ k, k < 8 ∧ (fun v g => bitsOf v 35 35 = 1 ∧ bitsOf v 34 34 = 1 ∧ bitsOf v 9 0 ≤ g ∧ g ≤ bitsOf v 29 20) ((fun k => s1.dev.reg (if false = true then F.SYS_RGNL k else F.SYS_RGNR k)) k) g))) ∧
      (Master.host ≠ Master.collar ∧ s1.dev.mode ≠ 5)) := by
  unfold Dev.atRest Dev.untapped Dev.admits
  decide +kernel

end RegionTableKeepsWritesApart


namespace RouteAndSoftwareEventWrites

def s1 : State := ⟨[], { (set up [(⟨F.TMR_DIV 32, 71, 0⟩, 54), (⟨F.EVT_RTL 4, 71, 0⟩, 0x2036), (⟨F.TMR_CMP1 32, 71, 0⟩, 54), (⟨F.EVT_RTR 31, 71, 0⟩, 55), (⟨F.EVT_RTR 35, 71, 0⟩, 56), (⟨F.EVT_PENDL, 71, 0⟩, 0xFF), (⟨F.EVT_PENDR, 71, 0⟩, 128), (⟨F.EVT_OVFL, 71, 0⟩, 0xFF)]) with
  regs := [(F.SYS_MODE, 0x4101), (F.SYS_PADSTAT, 0x10000), (F.PWR_STAT, 111), (F.CLK_STAT, 25), (F.EVT_RTL 3, 54), (F.EVT_RTL 4, 0x2036),
    (F.EVT_RTL 5, 54), (F.EVT_RTR 31, 55), (F.EVT_RTC 3, 56), (F.EVT_PENDL, 255), (F.EVT_PENDR, 128), (F.EVT_OVFL, 255),
    (F.LOOP_STAT, 0x384000000001), (F.DBG_STAT, 17)] }⟩
def s2 : State := ⟨[], { (set up [(⟨F.SYS_MODE, 71, 0⟩, 0x4505)]) with
  regs := [(F.SYS_MODE, 0x4505), (F.SYS_PADSTAT, 0x10000), (F.PWR_STAT, 111), (F.CLK_STAT, 25), (F.LOOP_STAT, 0x384000000001), (F.DBG_STAT, 17)] }⟩

theorem test_witness_RouteAndSoftwareEventWrites :
    (s1.dev.atRest ∧
      (↑1 < inputsN Eng.left ∧ (¬(Master.collar = Master.sleeveL ∨ Master.collar = Master.sleeveR)) ∧
        (Eng.left ≠ Eng.collar ∨ Master.collar = Master.collar ∨ s1.dev.mode = 5) ∧ s1.dev.admits Master.collar (routeReg Eng.left ↑1) ∧
        s1.dev.paired = false) ∧
      (↑0 < inputsN Eng.collar ∧
        ((Master.host = Master.sleeveL ∨ Master.host = Master.sleeveR) ∨ ¬(Eng.collar ≠ Eng.collar ∨ Master.host = Master.collar ∨ s1.dev.mode = 5))) ∧
      (s1.dev.admits Master.sleeveR F.EVT_SWSET ∧ s1.dev.paired = false)) := by
  unfold Dev.atRest Dev.untapped Dev.admits
  decide +kernel

end RouteAndSoftwareEventWrites


namespace SeamAndQuiesceCommands

def open2 (d : Dev) : Dev := { d with port := { Port.init with open_ := true }, dport := { Port.init with open_ := true } }
def s1 : State := ⟨[], { (open2 (set up [(⟨F.SEAM_REC 0, 71, 0⟩, 0x90000)])) with
  regs := [(F.SYS_MODE, 0x4101), (F.SYS_PADSTAT, 0x10000), (F.PWR_STAT, 111), (F.CLK_STAT, 25), (F.SEAM_REC 0, 0x90000),
    (F.LOOP_STAT, 0x384000000001), (F.DBG_STAT, 17)] }⟩
def s2 : State := ⟨[], { (open2 (set up [(⟨F.SEAM_REC 0, 71, 0⟩, 0x9000F)])) with
  regs := [(F.SYS_MODE, 0x4101), (F.SYS_PADSTAT, 0x10000), (F.PWR_STAT, 111), (F.CLK_STAT, 25), (F.SEAM_REC 0, 0x9000F),
    (F.LOOP_STAT, 0x384000000001), (F.DBG_STAT, 17)] }⟩
def s3 : State := ⟨[], { up with
  regs := [(F.SYS_MODE, 0x4101), (F.SYS_PADSTAT, 0x10000), (F.PWR_STAT, 111), (F.CLK_STAT, 25), (F.LOOP_STAT, 0x384000000001), (F.DBG_STAT, 17)] }⟩
def s4 : State := still { set up [(⟨F.TDC_STAT 0, 71, 0⟩, 40)] with held := [(7, 0)], quiesce := ⟨some (7, 0), []⟩ }
def s5 : State := still { set up [(⟨F.TMR_CFG 3, 71, 0⟩, 3), (⟨F.LOOP_PV, 71, 0⟩, 5)] with held := [(1, 0)] }
def s6 : State := still { up with held := [(24, 0)], quiesce := ⟨some (24, 0), []⟩ }
def s7 : State := still { up with held := [(25, 0)], quiesce := ⟨some (25, 0), []⟩ }
def s8 : State := still { set up [(⟨F.USF_ZOFS 1, 71, 0⟩, 5)] with held := [(8, 1)] }

theorem test_witness_SeamAndQuiesceCommands :
    (s1.dev.atRest ∧
      (s1.dev.admits Master.collar F.SEAM_CMD ∧ (Master.collar = Master.collar ∨ Master.collar = Master.host ∨ Master.collar = Master.debug) ∧
        bitsOf 589826 2 0 = 2 ∧ s1.dev.get (F.SEAM_REC_SEQ (bitsOf 589826 31 24)) = bitsOf 589826 23 16 ∧
        (s1.dev.owner (bitsOf 589826 31 24) = if Master.collar = Master.collar then Own.collar else Own.host) ∧
        ¬(Master.collar = Master.collar ∧ bitsOf 589826 11 8 = Own.label ∧ bitsOf 589826 34 34 = 1)) ∧
      (s1.dev.admits Master.collar F.SEAM_CMD ∧ (Master.collar = Master.collar ∨ Master.collar = Master.host ∨ Master.collar = Master.debug) ∧
        ¬s1.dev.get (F.SEAM_REC_SEQ (bitsOf 19596380930 31 24)) = bitsOf 19596380930 23 16 ∧ bitsOf 19596380930 2 0 = 2) ∧
      (s1.dev.admits Master.collar F.SEAM_CMD ∧ (Master.collar = Master.collar ∨ Master.collar = Master.host ∨ Master.collar = Master.debug) ∧
        bitsOf 515396075525 2 0 = 5 ∧ Master.collar = Master.collar) ∧
      (s1.dev.admits Master.collar F.SEAM_CMD ∧ (Master.collar = Master.collar ∨ Master.collar = Master.host ∨ Master.collar = Master.debug) ∧
        bitsOf 589828 2 0 = 4 ∧ Master.collar = Master.collar ∧ s1.dev.get (F.SEAM_REC_SEQ (bitsOf 589828 31 24)) = bitsOf 589828 23 16) ∧
      (s1.dev.admits Master.collar F.SEAM_CMD ∧ (Master.collar = Master.collar ∨ Master.collar = Master.host ∨ Master.collar = Master.debug) ∧
        ¬s1.dev.get (F.SEAM_REC_SEQ (bitsOf 1 31 24)) = bitsOf 1 23 16 ∧ bitsOf 1 2 0 = 1) ∧
      (s1.dev.admits Master.collar F.SEAM_CMD ∧ (Master.collar = Master.collar ∨ Master.collar = Master.host ∨ Master.collar = Master.debug) ∧
        ¬s1.dev.get (F.SEAM_REC_SEQ (bitsOf 3 31 24)) = bitsOf 3 23 16 ∧ bitsOf 3 2 0 = 3) ∧
      (s1.dev.admits Master.collar F.SEAM_CMD ∧ (Master.collar = Master.collar ∨ Master.collar = Master.host ∨ Master.collar = Master.debug) ∧
        ¬s1.dev.get (F.SEAM_REC_SEQ (bitsOf 4 31 24)) = bitsOf 4 23 16 ∧ bitsOf 4 2 0 = 4 ∧ Master.collar = Master.collar) ∧
      (s1.dev.admits Master.collar F.SEAM_CMD ∧ (Master.collar = Master.collar ∨ Master.collar = Master.host ∨ Master.collar = Master.debug) ∧
        bitsOf 589825 2 0 = 1 ∧ s1.dev.get (F.SEAM_REC_SEQ (bitsOf 589825 31 24)) = bitsOf 589825 23 16 ∧
        s1.dev.owner (bitsOf 589825 31 24) ≠ Own.none) ∧
      (s1.dev.admits Master.collar F.SEAM_CMD ∧ (Master.collar = Master.collar ∨ Master.collar = Master.host ∨ Master.collar = Master.debug) ∧
        bitsOf 589827 2 0 = 3 ∧ s1.dev.get (F.SEAM_REC_SEQ (bitsOf 589827 31 24)) = bitsOf 589827 23 16) ∧
      (s1.dev.admits Master.host F.SEAM_CMD ∧ (Master.host = Master.collar ∨ Master.host = Master.host ∨ Master.host = Master.debug) ∧
        bitsOf 589826 2 0 = 2 ∧ s1.dev.get (F.SEAM_REC_SEQ (bitsOf 589826 31 24)) = bitsOf 589826 23 16 ∧
        (s1.dev.owner (bitsOf 589826 31 24) ≠ if Master.host = Master.collar then Own.collar else Own.host)) ∧
      (s1.dev.admits Master.host F.SEAM_CMD ∧ (Master.host = Master.collar ∨ Master.host = Master.host ∨ Master.host = Master.debug) ∧
        Master.host ≠ Master.collar ∧ bitsOf 589828 2 0 = 4) ∧
      (s1.dev.admits Master.debug F.SEAM_CMD ∧ (Master.debug = Master.collar ∨ Master.debug = Master.host ∨ Master.debug = Master.debug) ∧
        Master.debug ≠ Master.collar ∧ bitsOf 589829 2 0 = 5)) ∧
    (s2.dev.atRest ∧
      (s2.dev.admits Master.collar F.SEAM_CMD ∧ (Master.collar = Master.collar ∨ Master.collar = Master.host ∨ Master.collar = Master.debug) ∧
        bitsOf 589825 2 0 = 1 ∧ s2.dev.get (F.SEAM_REC_SEQ (bitsOf 589825 31 24)) = bitsOf 589825 23 16 ∧
        s2.dev.owner (bitsOf 589825 31 24) = Own.none) ∧
      (s2.dev.admits (Master.radio 3) F.SEAM_CMD ∧ (Master.radio 3 = Master.loop ∨ Master.radio 3 = Master.radio 3) ∧ bitsOf 589825 2 0 = 1) ∧
      (s2.dev.admits Master.loop F.SEAM_CMD ∧ (Master.loop = Master.loop ∨ Master.loop = Master.radio 0) ∧ bitsOf 589826 2 0 = 2) ∧
      (s2.dev.admits Master.loop F.SEAM_CMD ∧ (Master.loop = Master.loop ∨ Master.loop = Master.radio 0) ∧ bitsOf 589827 2 0 = 3) ∧
      (s2.dev.admits Master.loop F.SEAM_CMD ∧ (Master.loop = Master.loop ∨ Master.loop = Master.radio 0) ∧ bitsOf 589828 2 0 = 4) ∧
      (s2.dev.admits Master.loop F.SEAM_CMD ∧ (Master.loop = Master.loop ∨ Master.loop = Master.radio 0) ∧ bitsOf 589829 2 0 = 5) ∧
      (s2.dev.admits Master.sleeveR F.SEAM_CMD ∧ (Master.sleeveR = Master.sleeveL ∨ Master.sleeveR = Master.sleeveR))) ∧
    (s3.dev.atRest ∧ s3.dev.admits Master.collar F.SEAM_QCTL ∧
      ((Master.collar = Master.collar ∨ s3.dev.mode = 5 ∨ Master.collar = Master.debug ∧ (bitsOf 257 12 8 = 24 ∨ bitsOf 257 12 8 = 25)) ∧
        quiesceOk (bitsOf 257 12 8) = true ∧ bitsOf 257 1 0 = 1 ∧ s3.dev.held = [] ∧ s3.dev.quiesce = Quiesce.mk none []) ∧
      ((Master.collar = Master.collar ∨ s3.dev.mode = 5 ∨ Master.collar = Master.debug ∧ (bitsOf 7937 12 8 = 24 ∨ bitsOf 7937 12 8 = 25)) ∧
        quiesceOk (bitsOf 7937 12 8) = false ∧ bitsOf 7937 1 0 = 1)) ∧
    (s4.dev.atRest ∧ s4.dev.admits Master.collar F.SEAM_QCTL ∧
      ((Master.collar = Master.collar ∨ s4.dev.mode = 5 ∨ Master.collar = Master.debug ∧ (bitsOf 257 12 8 = 24 ∨ bitsOf 257 12 8 = 25)) ∧
        quiesceOk (bitsOf 257 12 8) = true ∧ bitsOf 257 1 0 = 1 ∧
        s4.dev.held.contains (bitsOf 257 12 8, unitOf (bitsOf 257 12 8) (bitsOf 257 6 5)) = false ∧ s4.dev.quiesce.now ≠ none) ∧
      ((Master.collar = Master.collar ∨ s4.dev.mode = 5 ∨ Master.collar = Master.debug ∧ (bitsOf 1793 12 8 = 24 ∨ bitsOf 1793 12 8 = 25)) ∧
        quiesceOk (bitsOf 1793 12 8) = true ∧ s4.dev.quiesce = Quiesce.mk (some (bitsOf 1793 12 8, unitOf (bitsOf 1793 12 8) (bitsOf 1793 6 5))) [] ∧
        s4.dev.held = [(bitsOf 1793 12 8, unitOf (bitsOf 1793 12 8) (bitsOf 1793 6 5))])) ∧
    (s5.dev.atRest ∧ s5.dev.admits Master.collar F.SEAM_QCTL ∧
      (Master.collar = Master.collar ∨ s5.dev.mode = 5 ∨ Master.collar = Master.debug ∧ (bitsOf 258 12 8 = 24 ∨ bitsOf 258 12 8 = 25)) ∧
      quiesceOk (bitsOf 258 12 8) = true ∧ bitsOf 258 1 0 = 2 ∧ s5.dev.held = [(bitsOf 258 12 8, unitOf (bitsOf 258 12 8) (bitsOf 258 6 5))] ∧
      s5.dev.quiesce = Quiesce.mk none []) := by
  unfold Dev.atRest Dev.untapped Dev.admits
  decide +kernel

end SeamAndQuiesceCommands


namespace FrontEndRequests

def sr : UsfReq := ⟨0, 3, 1, false, false, 0, 1, 1, 0, 1, false, 1, 0, []⟩
def cr : AdcReq := ⟨3, 1, 0, 1, 0, false, false, [], 0⟩
def jb : TdcJob := ⟨.extref, false, .extref, false, none, 0, false, 3, 4, 1, false, false, false, false, 0, [], [], 0, 0, 0, 0, 0, 0⟩
def ports (d : Dev) : Dev := { d with port := { Port.init with open_ := true }, dport := { Port.init with open_ := true } }
def ready : List (Fld × Nat) := [(⟨F.SEAM_REC 5, 71, 0⟩, 0x50000F3), (⟨F.USF_PATH_CFG 1, 71, 0⟩, 0x80481E3E8), (⟨F.ADC_IN 6, 71, 0⟩, 0xFFF000000001100000)]
def w : Word := 0x56207300200000000
def s1 : State := ⟨[], { (ports (set up ready)) with
  regs := [(F.SYS_MODE, 0x4101), (F.SYS_PADSTAT, 0x10000), (F.PWR_STAT, 111), (F.CLK_STAT, 25), (F.SEAM_REC 5, 0x50000F3),
    (F.USF_PATH_CFG 1, 0x80481E3E8), (F.ADC_IN 6, 0xFFF000000001100000), (F.LOOP_STAT, 0x384000000001), (F.DBG_STAT, 17)] }⟩
def s2 : State := ⟨[], { (ports { up with usf := { Usf.init with tagHost := some 7, tagDbg := some 5 }, adc := { Adc.init with tagHost := some 7, tagDbg := some 5 } }) with
  regs := [(F.SYS_MODE, 0x4101), (F.SYS_PADSTAT, 0x10000), (F.PWR_STAT, 111), (F.CLK_STAT, 25), (F.LOOP_STAT, 0x384000000001), (F.DBG_STAT, 17)] }⟩
def s3 : State := ⟨[], { (ports { set up ready with usf := { Usf.init with queue := List.replicate 8 sr } }) with
  regs := [(F.SYS_MODE, 0x4101), (F.SYS_PADSTAT, 0x10000), (F.PWR_STAT, 111), (F.CLK_STAT, 25), (F.SEAM_REC 5, 0x50000F3),
    (F.USF_PATH_CFG 1, 0x80481E3E8), (F.USF_STAT, 0xF0018), (F.ADC_IN 6, 0xFFF000000001100000), (F.LOOP_STAT, 0x384000000001), (F.DBG_STAT, 17)] }⟩
def s4 : State := ⟨[], { (ports { set up ready with adc := { Adc.init with queue := List.replicate 8 cr } }) with
  regs := [(F.SYS_MODE, 0x4101), (F.SYS_PADSTAT, 0x10000), (F.PWR_STAT, 111), (F.CLK_STAT, 25), (F.SEAM_REC 5, 0x50000F3),
    (F.USF_PATH_CFG 1, 0x80481E3E8), (F.ADC_IN 6, 0xFFF000000001100000), (F.ADC_STAT, 24), (F.LOOP_STAT, 0x384000000001), (F.DBG_STAT, 17)] }⟩
def s5 : State := ⟨[], { (ports { up with held := [(7, 0), (7, 1)] }) with
  regs := [(F.SYS_MODE, 0x4101), (F.SYS_PADSTAT, 0x10000), (F.PWR_STAT, 111), (F.CLK_STAT, 25), (F.TDC_STAT 0, 40), (F.TDC_STAT 1, 40),
    (F.LOOP_STAT, 0x384000000001), (F.DBG_STAT, 17)] }⟩
def s6 : State := ⟨[], { (ports { set up ready with held := [(7, 0)] }) with
  regs := [(F.SYS_MODE, 0x4101), (F.SYS_PADSTAT, 0x10000), (F.PWR_STAT, 111), (F.CLK_STAT, 25), (F.SEAM_REC 5, 0x50000F3), (F.TDC_STAT 0, 40),
    (F.USF_PATH_CFG 1, 0x80481E3E8), (F.ADC_IN 6, 0xFFF000000001100000), (F.LOOP_STAT, 0x384000000001), (F.DBG_STAT, 17)] }⟩
def s7 : State := ⟨[], { (ports { set up ready with tdcA := { TdcUnit.init with queue := List.replicate 8 jb } }) with
  regs := [(F.SYS_MODE, 0x4101), (F.SYS_PADSTAT, 0x10000), (F.PWR_STAT, 111), (F.CLK_STAT, 25), (F.SEAM_REC 5, 0x50000F3), (F.TDC_STAT 0, 51),
    (F.USF_PATH_CFG 1, 0x80481E3E8), (F.ADC_IN 6, 0xFFF000000001100000), (F.LOOP_STAT, 0x384000000001), (F.DBG_STAT, 17)] }⟩

theorem test_witness_FrontEndRequests :
    (s1.dev.atRest ∧ s1.dev.masterUp Master.host = true ∧ s1.dev.orders = [] ∧
      (s1.dev.heldMask F.USF_REQ = 0 ∧ s1.dev.pend F.USF_REQ = Pending.mk 0 0 ∧
        (∀ (k : Nat), (if Master.host = Master.host then some 0 else if Master.host = Master.debug then some 1 else none) = some k → s1.dev.usfTag k ≠ some (usfWord w).tag) ∧
        s1.dev.usfServed (usfWord w) ∧ ¬s1.dev.usfFull (usfWord w) ∧ s1.dev.headsSound ∧ s1.dev.owner (usfWord w).block = Master.own Master.host) ∧
      (s1.dev.heldMask F.ADC_REQ = 0 ∧ s1.dev.pend F.ADC_REQ = Pending.mk 0 0 ∧
        (∀ (k : Nat), (if Master.host = Master.host then some 0 else if Master.host = Master.debug then some 1 else none) = some k → s1.dev.adcTag k ≠ some (adcWord w).tag) ∧
        s1.dev.adcServed (adcWord w) ∧ s1.dev.adc.queue.length < 8) ∧
      (s1.dev.pend (F.TDC_JOB ↑0) = Pending.mk 0 0 ∧ bitsOf 1407415148871681 0 0 = 1 ∧ s1.dev.servesTdc (↑0) 0 ∧ (s1.dev.tdc 0).queue.length < 8 ∧
        s1.dev.headsSound ∧ s1.dev.owner (bitsOf 1407415148871681 55 48) = Master.own Master.host) ∧
      (s1.dev.pend (F.TDC_JOB ↑1) = Pending.mk 0 0 ∧ bitsOf 1688890125582337 0 0 = 1 ∧ s1.dev.servesTdc (↑1) 1 ∧ (s1.dev.tdc 1).queue = [] ∧
        s1.dev.owner (bitsOf 1688890125582337 55 48) ≠ Master.own Master.host)) ∧
    (s2.dev.atRest ∧
      (s2.dev.masterUp Master.host = true ∧ s2.dev.orders = [] ∧ s2.dev.heldMask F.USF_REQ = 0 ∧ s2.dev.pend F.USF_REQ = Pending.mk 0 0 ∧
        (¬∀ (k : Nat), (if Master.host = Master.host then some 0 else if Master.host = Master.debug then some 1 else none) = some k → s2.dev.usfTag k ≠ some (usfWord w).tag)) ∧
      (s2.dev.masterUp Master.host = true ∧ s2.dev.orders = [] ∧ s2.dev.heldMask F.ADC_REQ = 0 ∧ s2.dev.pend F.ADC_REQ = Pending.mk 0 0 ∧
        (¬∀ (k : Nat), (if Master.host = Master.host then some 0 else if Master.host = Master.debug then some 1 else none) = some k → s2.dev.adcTag k ≠ some (adcWord w).tag)) ∧
      (s2.dev.masterUp Master.debug = true ∧ s2.dev.orders = [] ∧ s2.dev.heldMask F.USF_REQ = 0 ∧ s2.dev.pend F.USF_REQ = Pending.mk 0 0 ∧
        (∀ (k : Nat), (if Master.debug = Master.host then some 0 else if Master.debug = Master.debug then some 1 else none) = some k → s2.dev.usfTag k ≠ some (usfWord w).tag) ∧
        ¬s2.dev.usfServed (usfWord w)) ∧
      (s2.dev.masterUp Master.debug = true ∧ s2.dev.orders = [] ∧ s2.dev.heldMask F.ADC_REQ = 0 ∧ s2.dev.pend F.ADC_REQ = Pending.mk 0 0 ∧
        (∀ (k : Nat), (if Master.debug = Master.host then some 0 else if Master.debug = Master.debug then some 1 else none) = some k → s2.dev.adcTag k ≠ some (adcWord w).tag) ∧
        ¬s2.dev.adcServed (adcWord w))) ∧
    (s3.dev.atRest ∧ s3.dev.masterUp Master.host = true ∧ s3.dev.orders = [] ∧ s3.dev.heldMask F.USF_REQ = 0 ∧
      s3.dev.pend F.USF_REQ = Pending.mk 0 0 ∧
      (∀ (k : Nat), (if Master.host = Master.host then some 0 else if Master.host = Master.debug then some 1 else none) = some k → s3.dev.usfTag k ≠ some (usfWord w).tag) ∧
      s3.dev.usfServed (usfWord w) ∧ s3.dev.usfFull (usfWord w)) ∧
    (s4.dev.atRest ∧ s4.dev.masterUp Master.host = true ∧ s4.dev.orders = [] ∧ s4.dev.heldMask F.ADC_REQ = 0 ∧
      s4.dev.pend F.ADC_REQ = Pending.mk 0 0 ∧
      (∀ (k : Nat), (if Master.host = Master.host then some 0 else if Master.host = Master.debug then some 1 else none) = some k → s4.dev.adcTag k ≠ some (adcWord w).tag) ∧
      s4.dev.adcServed (adcWord w) ∧ 8 ≤ s4.dev.adc.queue.length) ∧
    (s5.dev.atRest ∧ s5.dev.masterUp Master.debug = true ∧ s5.dev.orders = [] ∧ s5.dev.pend (F.TDC_JOB ↑1) = Pending.mk 0 0 ∧
      bitsOf 1688890125582337 0 0 = 1 ∧ (∀ (v : Nat), ¬s5.dev.servesTdc (↑1) v)) ∧
    (s7.dev.atRest ∧ s7.dev.masterUp Master.host = true ∧ s7.dev.orders = [] ∧ s7.dev.pend (F.TDC_JOB ↑0) = Pending.mk 0 0 ∧
      bitsOf 1407415148871681 0 0 = 1 ∧ s7.dev.servesTdc (↑0) 0 ∧ 8 ≤ (s7.dev.tdc 0).queue.length) := by
  have h1 := heads_of s1.dev (by decide +kernel)
  unfold Dev.atRest Dev.untapped Dev.usfServed Dev.adcServed
  simp only [h1, full_iff, serves_iff, serves_not, true_and]
  unfold Dev.servesTdc
  decide +kernel

end FrontEndRequests


namespace ServiceModeCommands

def s1 : State := still { set up [(⟨F.SYS_MODE, 71, 0⟩, 0xC105)] with port := { Port.init with open_ := true }, dport := { Port.init with open_ := true } }

theorem test_witness_ServiceModeCommands :
    (s1.dev.atRest ∧ s1.dev.mode = 5 ∧
      (s1.dev.admits Master.collar F.USF_ZCTL ∧ bitsOf 4111 3 0 ≠ 0) ∧
      (s1.dev.admits Master.collar F.LBL_CMD ∧ bitsOf 4111 0 0 = 1) ∧
      (s1.dev.admits Master.collar F.BIST_CMD ∧ bitsOf 4111 0 0 = 1 ∧ bitsOf 4111 12 8 < 17) ∧
      (s1.dev.admits Master.debug F.BIST_CMD ∧ bitsOf 4353 0 0 = 1 ∧ bitsOf 4353 12 8 = 17)) := by
  unfold Dev.atRest Dev.untapped Dev.admits
  decide +kernel

end ServiceModeCommands


namespace TimerEvents

def c : Cap := ⟨5, 3, 1⟩
def run (n src v c0 : Nat) (q : List Cap) : Dev :=
  { set up [(F.TMR_CFG_EN n, 1), (F.TMR_CFG_SRC n, src), (F.TMR_CFG_M0E n, 1), (F.TMR_CFG_CAPE n, 1), (F.TMR_CFG_OVFE n, 1), (⟨F.TMR_CNT n, 71, 0⟩, v), (⟨F.TMR_CMP0 n, 71, 0⟩, c0),
      (F.TMR_CAPSEL_CAPA n, 69), (F.TMR_STAT_RUN n, 1), (⟨F.EVT_RTR 35, 71, 0⟩, n + 1)] with tmr := [(n, ⟨77, q, 5, false, 0, 0, 0, false, false, false, 0⟩)] }
def held (n act : Nat) : Dev := { run n 0 5 9 [] with links := [⟨n, act⟩] }
def asleep (d : Dev) (n act : Nat) : Dev := { set d [(F.CLK_STAT_SRC, 0)] with busHeld := true, links := [⟨n, act⟩] }
def s1 : State := ⟨[], { (run 8 0 5 9 []) with
  regs := [(F.SYS_MODE, 0x4101), (F.SYS_PADSTAT, 0x10000), (F.PWR_STAT, 111), (F.CLK_STAT, 25), (F.TMR_CFG 8, 0xD0001), (F.TMR_CNT 8, 5),
    (F.TMR_CMP0 8, 9), (F.TMR_CAPSEL 8, 0x7F45), (F.TMR_STAT 8, 1), (F.EVT_RTC 3, 9), (F.LOOP_STAT, 0x384000000001), (F.DBG_STAT, 17)] }⟩
def s2 : State := ⟨[], { (set (run 8 0 5 9 []) [(F.TMR_ACT_M0S 8, 1), (F.TMR_STAT_CAPV 8, 1)]) with
  regs := [(F.SYS_MODE, 0x4101), (F.SYS_PADSTAT, 0x10000), (F.PWR_STAT, 111), (F.CLK_STAT, 25), (F.TMR_CFG 8, 0xD0001), (F.TMR_CNT 8, 5),
    (F.TMR_CMP0 8, 9), (F.TMR_ACT 8, 1), (F.TMR_CAPSEL 8, 0x7F45), (F.TMR_STAT 8, 17), (F.EVT_RTC 3, 9), (F.LOOP_STAT, 0x384000000001),
    (F.DBG_STAT, 17)] }⟩
def s3 : State := ⟨[], { (run 2 0 0xFFFFFFFFFFFD 0 [c]) with
  regs := [(F.SYS_MODE, 0x4101), (F.SYS_PADSTAT, 0x10000), (F.PWR_STAT, 111), (F.CLK_STAT, 25), (F.TMR_CFG 2, 0xD0003),
    (F.TMR_CNT 2, 0xFFFFFFFFFFFD), (F.TMR_CAPSEL 2, 0x7F45), (F.TMR_STAT 2, 1), (F.EVT_RTC 3, 3), (F.LOOP_STAT, 0x384000000001), (F.DBG_STAT, 17)] }⟩
def s4 : State := ⟨[], { (run 0 3 5 0 [c, c, c, c]) with
  regs := [(F.SYS_MODE, 0x4101), (F.SYS_PADSTAT, 0x10000), (F.PWR_STAT, 111), (F.CLK_STAT, 25), (F.TMR_CFG 0, 0xD000F), (F.TMR_CNT 0, 5),
    (F.TMR_CAPSEL 0, 0x7F45), (F.TMR_STAT 0, 1), (F.EVT_RTC 3, 1), (F.LOOP_STAT, 0x384000000001), (F.DBG_STAT, 17)] }⟩
def s5 : State := still { run 0 3 5 0 [] with links := [⟨0, 0⟩] }
def s6 : State := ⟨[], { (held 2 1) with
  regs := [(F.SYS_MODE, 0x4101), (F.SYS_PADSTAT, 0x10000), (F.PWR_STAT, 111), (F.CLK_STAT, 25), (F.TMR_CFG 2, 0xD0003), (F.TMR_CNT 2, 5),
    (F.TMR_CMP0 2, 9), (F.TMR_CAPSEL 2, 0x7F45), (F.TMR_STAT 2, 1), (F.EVT_RTC 3, 3), (F.LOOP_STAT, 0x384000000001), (F.DBG_STAT, 17)] }⟩
def s7 : State := ⟨[], { (held 2 2) with
  regs := [(F.SYS_MODE, 0x4101), (F.SYS_PADSTAT, 0x10000), (F.PWR_STAT, 111), (F.CLK_STAT, 25), (F.TMR_CFG 2, 0xD0003), (F.TMR_CNT 2, 5),
    (F.TMR_CMP0 2, 9), (F.TMR_CAPSEL 2, 0x7F45), (F.TMR_STAT 2, 1), (F.EVT_RTC 3, 3), (F.LOOP_STAT, 0x384000000001), (F.DBG_STAT, 17)] }⟩
def s8 : State := ⟨[], { (held 2 3) with
  regs := [(F.SYS_MODE, 0x4101), (F.SYS_PADSTAT, 0x10000), (F.PWR_STAT, 111), (F.CLK_STAT, 25), (F.TMR_CFG 2, 0xD0003), (F.TMR_CNT 2, 5),
    (F.TMR_CMP0 2, 9), (F.TMR_CAPSEL 2, 0x7F45), (F.TMR_STAT 2, 1), (F.EVT_RTC 3, 3), (F.LOOP_STAT, 0x384000000001), (F.DBG_STAT, 17)] }⟩
def s9 : State := ⟨[], { (held 15 3) with
  regs := [(F.SYS_MODE, 0x4101), (F.SYS_PADSTAT, 0x10000), (F.PWR_STAT, 111), (F.CLK_STAT, 25), (F.TMR_CFG 15, 0xD0001), (F.TMR_CNT 15, 5),
    (F.TMR_CMP0 15, 9), (F.TMR_CAPSEL 15, 0x7F45), (F.TMR_STAT 15, 1), (F.EVT_RTC 3, 16), (F.LOOP_STAT, 0x384000000001), (F.DBG_STAT, 17)] }⟩
def s10 : State := ⟨[], { (set up [(F.TMR_CFG_EN 3, 1), (F.TMR_CAPSEL_CAPA 3, 54)]) with
  regs := [(F.SYS_MODE, 0x4101), (F.SYS_PADSTAT, 0x10000), (F.PWR_STAT, 111), (F.CLK_STAT, 25), (F.TMR_CFG 3, 3), (F.TMR_CAPSEL 3, 0x7F36),
    (F.LOOP_STAT, 0x384000000001), (F.DBG_STAT, 17)] }⟩

theorem test_witness_TimerEvents :
    (s1.dev.atRest ∧ s1.dev.held = [] ∧ s1.dev.paired = false ∧ (s1.dev.ch ↑8).frac < 2 ^ 32 ∧
      (s1.dev.flag (F.TMR_STAT_RUN ↑8) = true ∧ s1.dev.frozen ↑8 = false ∧ s1.dev.busAsleep ↑8 = false ∧ 8 ≠ 1 ∧ (8 = 0 → s1.dev.seqActive = false) ∧
        bitsOf (s1.dev.reg (F.TMR_CMP1 ↑8)) ((if 8 < 8 then 48 else 32) - 1) 0 = 0 ∧ s1.dev.links = [] ∧ 0 < 4 ∧
        s1.dev.tmrCount ↑8 < bitsOf (s1.dev.reg (F.TMR_CMP0 ↑8)) ((if 8 < 8 then 48 else 32) - 1) 0 ∧
        s1.dev.tmrCount ↑8 * 2 ^ 32 + (s1.dev.ch ↑8).frac + (4 - 1) * (if s1.dev.onSysclk ↑8 = true then s1.dev.profileAt 0 else s1.dev).stepAdd (↑8) 0 < bitsOf (s1.dev.reg (F.TMR_CMP0 ↑8)) ((if 8 < 8 then 48 else 32) - 1) 0 * 2 ^ 32 ∧
        bitsOf (s1.dev.reg (F.TMR_CMP0 ↑8)) ((if 8 < 8 then 48 else 32) - 1) 0 * 2 ^ 32 ≤ s1.dev.tmrCount ↑8 * 2 ^ 32 + (s1.dev.ch ↑8).frac + 4 * (if s1.dev.onSysclk ↑8 = true then s1.dev.profileAt 0 else s1.dev).stepAdd (↑8) 0 ∧
        s1.dev.tmrCount ↑8 * 2 ^ 32 + (s1.dev.ch ↑8).frac + 4 * (if s1.dev.onSysclk ↑8 = true then s1.dev.profileAt 0 else s1.dev).stepAdd (↑8) 0 < 2 ^ ((if 8 < 8 then 48 else 32) + 32) ∧
        s1.dev.get (F.TMR_ACT_M0L ↑8) = 0 ∧ s1.dev.get (F.TMR_ACT_M0S ↑8) = 0) ∧
      (s1.dev.pads.lost = false ∧ s1.dev.get (F.TMR_CAPSEL_CAPA ↑8) = 64 + ↑5 ∧
        (s1.dev.get (F.TMR_CAPSEL_EDGEA ↑8) = 2 ∨ s1.dev.get (F.TMR_CAPSEL_EDGEA ↑8) = if true = true then 0 else 1) ∧ 8 ≤ 8 ∧
        s1.dev.busAsleep ↑8 = false)) ∧
    (s2.dev.atRest ∧ s2.dev.held = [] ∧ s2.dev.paired = false ∧ (s2.dev.ch ↑8).frac < 2 ^ 32 ∧
      (s2.dev.flag (F.TMR_STAT_RUN ↑8) = true ∧ s2.dev.frozen ↑8 = false ∧ s2.dev.busAsleep ↑8 = false ∧ 8 ≠ 1 ∧ (8 = 0 → s2.dev.seqActive = false) ∧
        bitsOf (s2.dev.reg (F.TMR_CMP1 ↑8)) ((if 8 < 8 then 48 else 32) - 1) 0 = 0 ∧ s2.dev.links = [] ∧ 0 < 4 ∧
        s2.dev.tmrCount ↑8 < bitsOf (s2.dev.reg (F.TMR_CMP0 ↑8)) ((if 8 < 8 then 48 else 32) - 1) 0 ∧
        s2.dev.tmrCount ↑8 * 2 ^ 32 + (s2.dev.ch ↑8).frac + (4 - 1) * (if s2.dev.onSysclk ↑8 = true then s2.dev.profileAt 0 else s2.dev).stepAdd (↑8) 0 < bitsOf (s2.dev.reg (F.TMR_CMP0 ↑8)) ((if 8 < 8 then 48 else 32) - 1) 0 * 2 ^ 32 ∧
        bitsOf (s2.dev.reg (F.TMR_CMP0 ↑8)) ((if 8 < 8 then 48 else 32) - 1) 0 * 2 ^ 32 ≤ s2.dev.tmrCount ↑8 * 2 ^ 32 + (s2.dev.ch ↑8).frac + 4 * (if s2.dev.onSysclk ↑8 = true then s2.dev.profileAt 0 else s2.dev).stepAdd (↑8) 0 ∧
        s2.dev.tmrCount ↑8 * 2 ^ 32 + (s2.dev.ch ↑8).frac + 4 * (if s2.dev.onSysclk ↑8 = true then s2.dev.profileAt 0 else s2.dev).stepAdd (↑8) 0 < 2 ^ ((if 8 < 8 then 48 else 32) + 32) ∧
        s2.dev.get (F.TMR_ACT_M0L ↑8) = 0 ∧ s2.dev.get (F.TMR_ACT_M0S ↑8) = 1) ∧
      (s2.dev.capAPin (↑8) (↑5) false = false ∧ s2.dev.capBPin (↑8) (↑5) false = false)) ∧
    (s3.dev.atRest ∧ s3.dev.held = [] ∧ s3.dev.paired = false ∧ (s3.dev.ch ↑2).frac < 2 ^ 32 ∧
      (s3.dev.pads.lost = false ∧ s3.dev.get (F.TMR_CAPSEL_CAPA ↑2) = 64 + ↑5 ∧
        (s3.dev.get (F.TMR_CAPSEL_EDGEA ↑2) = 2 ∨ s3.dev.get (F.TMR_CAPSEL_EDGEA ↑2) = if true = true then 0 else 1) ∧ 2 < 8 ∧
        s3.dev.capBPin (↑2) (↑5) true = false ∧ (s3.dev.ch ↑2).queue.length < 4) ∧
      (s3.dev.flag (F.TMR_STAT_RUN ↑2) = true ∧ s3.dev.frozen ↑2 = false ∧ s3.dev.busAsleep ↑2 = false ∧ 2 ≠ 1 ∧ (2 = 0 → s3.dev.seqActive = false) ∧
        bitsOf (s3.dev.reg (F.TMR_CMP1 ↑2)) ((if 2 < 8 then 48 else 32) - 1) 0 = 0 ∧ s3.dev.links = [] ∧ 0 < 3 ∧
        bitsOf (s3.dev.reg (F.TMR_CMP0 ↑2)) ((if 2 < 8 then 48 else 32) - 1) 0 = 0 ∧
        s3.dev.tmrCount ↑2 * 2 ^ 32 + (s3.dev.ch ↑2).frac + (3 - 1) * (if s3.dev.onSysclk ↑2 = true then s3.dev.profileAt 0 else s3.dev).stepAdd (↑2) 0 < 2 ^ ((if 2 < 8 then 48 else 32) + 32) ∧
        2 ^ ((if 2 < 8 then 48 else 32) + 32) ≤ s3.dev.tmrCount ↑2 * 2 ^ 32 + (s3.dev.ch ↑2).frac + 3 * (if s3.dev.onSysclk ↑2 = true then s3.dev.profileAt 0 else s3.dev).stepAdd (↑2) 0 ∧
        s3.dev.tmrCount ↑2 * 2 ^ 32 + (s3.dev.ch ↑2).frac + 3 * (if s3.dev.onSysclk ↑2 = true then s3.dev.profileAt 0 else s3.dev).stepAdd (↑2) 0 < 2 * 2 ^ ((if 2 < 8 then 48 else 32) + 32) ∧
        s3.dev.get (F.TMR_ACT_OVL ↑2) = 0 ∧ s3.dev.get (F.TMR_ACT_OVS ↑2) = 0)) ∧
    (s4.dev.atRest ∧ s4.dev.held = [] ∧ s4.dev.paired = false ∧ (s4.dev.ch ↑0).frac < 2 ^ 32 ∧
      (s4.dev.flag (F.TMR_STAT_RUN ↑0) = true ∧ s4.dev.frozen ↑0 = false ∧ s4.dev.busAsleep ↑0 = false ∧ 0 ≠ 1 ∧ (0 = 0 → s4.dev.seqActive = false) ∧
        bitsOf (s4.dev.reg (F.TMR_CMP1 ↑0)) ((if 0 < 8 then 48 else 32) - 1) 0 = 0 ∧ s4.dev.links = [] ∧ 0 < 8 ∧ s4.dev.pads.lost = false ∧
        (s4.dev.get (F.TMR_CFG_SRC ↑0) = 3 ∨ s4.dev.get (F.TMR_CFG_SRC ↑0) = 2 ∧ s4.dev.flag F.CLK_STAT_XREF_OK = true ∧ s4.dev.get F.CLK_STAT_SRC ≠ 0) ∧
        bitsOf (s4.dev.reg (F.TMR_CMP0 ↑0)) ((if 0 < 8 then 48 else 32) - 1) 0 = 0 ∧
        s4.dev.tmrCount ↑0 * 2 ^ 32 + (s4.dev.ch ↑0).frac + s4.dev.stepAdd (↑0) 0 < 2 ^ ((if 0 < 8 then 48 else 32) + 32)) ∧
      (s4.dev.pads.lost = false ∧ s4.dev.get (F.TMR_CAPSEL_CAPA ↑0) = 64 + ↑5 ∧
        (s4.dev.get (F.TMR_CAPSEL_EDGEA ↑0) = 2 ∨ s4.dev.get (F.TMR_CAPSEL_EDGEA ↑0) = if true = true then 0 else 1) ∧ 0 < 8 ∧
        s4.dev.capBPin (↑0) (↑5) true = false ∧ 4 ≤ (s4.dev.ch ↑0).queue.length)) ∧
    (s5.dev.atRest ∧ s5.dev.held = [] ∧ s5.dev.paired = false ∧ (s5.dev.ch ↑0).frac < 2 ^ 32 ∧ s5.dev.links = [Link.mk (↑0) 0]) ∧
    (s10.dev.calm = true ∧ s10.dev.settle = s10.dev ∧ Store.wf resetWord s10.dev.regs = true ∧ s10.dev.held = [] ∧ s10.dev.paired = false ∧
      s10.dev.admits Master.host F.EVT_SWSET ∧ s10.dev.get (F.TMR_CAPSEL_CAPA ↑3) = 54 + ↑0 ∧ 64 ≤ s10.dev.get (F.TMR_CAPSEL_CAPB ↑3) ∧
      (∀ (j : Nat), j < 16 → j ≠ ↑3 → 64 ≤ s10.dev.get (F.TMR_CAPSEL_CAPA j) ∧ 64 ≤ s10.dev.get (F.TMR_CAPSEL_CAPB j)) ∧
      s10.dev.flag (F.TMR_CFG_CAPE ↑3) = false ∧ (s10.dev.ch ↑3).queue.length < 4) := by
  unfold Dev.atRest Dev.untapped Dev.admits
  decide +kernel

end TimerEvents


namespace WindowEvents

def r1 : WinReq := ⟨false, 100⟩
def r2 : WinReq := ⟨true, 5000⟩
def s1 : State := ⟨[], { up with
  regs := [(F.SYS_MODE, 0x4101), (F.SYS_PADSTAT, 0x10000), (F.PWR_STAT, 111), (F.CLK_STAT, 25), (F.LOOP_STAT, 0x384000000001), (F.DBG_STAT, 17)] }⟩
def s2 : State := still { set up [(F.CLK_SLKSTAT_OPEN, 1), (F.CLK_SLKSTAT_OPENER, 1)] with slack := { Slack.init with cur := ⟨false, 777⟩ } }
def s3 : State := still { up with slack := { Slack.init with opening := some r1 } }
def s4 : State := still { up with slack := { Slack.init with opening := some r1 }, sup := { up.sup with vpool := 2399, savedSrc := 0 } }
def s5 : State := still { up with slack := { Slack.init with poolWait := [r2] } }
def s6 : State := still { up with slack := { Slack.init with waiting := [r2], gap := true } }

theorem test_witness_WindowEvents :
    (s1.dev.held.contains (2, 0) = false ∧ s1.dev.atRest ∧
      (s1.dev.windowFree) ∧
      (2399 < 2400) ∧
      (s1.dev.flag F.CLK_SLKSTAT_OPEN = false)) ∧
    (s2.dev.held.contains (2, 0) = false ∧ s2.dev.atRest ∧
      (s2.dev.asleep = false ∧ s2.dev.flag F.CLK_SLKSTAT_OPEN = true) ∧
      (s2.dev.flag F.CLK_SLKSTAT_OPEN = true ∧ s2.dev.slack.cur.len ≤ 2000) ∧
      (s2.dev.flag F.CLK_SLKSTAT_OPEN = true ∧ s2.dev.slack.cur.len ≤ 2000 ∧ 2250 ≤ 2250)) ∧
    (s3.dev.held.contains (2, 0) = false ∧ s3.dev.atRest ∧ s3.dev.slack.opening = some r1 ∧ 2400 ≤ s3.dev.sup.vpool) ∧
    (s4.dev.held.contains (2, 0) = false ∧ s4.dev.atRest ∧ s4.dev.slack.opening = some r1 ∧ s4.dev.sup.vpool < 2400 ∧ s4.dev.sup.savedSrc = 0) ∧
    (s5.dev.held.contains (2, 0) = false ∧ s5.dev.stepDue = [] ∧ s5.dev.col.bndDue = false ∧ s5.dev.busHeld = false ∧ s5.dev.loop.sending = none ∧
      s5.dev.flag F.CLK_SLKSTAT_OPEN = false ∧ s5.dev.slack.opening = none ∧ s5.dev.clockMoving = false ∧
      ((fun r => r.t0 = true → ∀ (n : Nat), s5.dev.txSlotIn n = false) r2) ∧ s5.dev.slack.gap = false ∧ s5.dev.slack.waiting = [] ∧
      s5.dev.slack.poolWait = [r2] ∧ 2400 ≤ 2400) ∧
    (s6.dev.held.contains (2, 0) = false ∧ s6.dev.stepDue = [] ∧ s6.dev.col.bndDue = false ∧ s6.dev.busHeld = false ∧ s6.dev.loop.sending = none ∧
      s6.dev.flag F.CLK_SLKSTAT_OPEN = false ∧ s6.dev.slack.opening = none ∧ s6.dev.clockMoving = false ∧
      ((fun r => r.t0 = true → ∀ (n : Nat), s6.dev.txSlotIn n = false) r2) ∧ s6.dev.slack.waiting = [r2] ∧ 2400 ≤ s6.dev.sup.vpool) := by
  have h1 := no_slot s1.dev (by decide +kernel)
  have h5 := no_slot s5.dev (by decide +kernel)
  have h6 := no_slot s6.dev (by decide +kernel)
  unfold Dev.atRest Dev.untapped Dev.windowFree
  simp only [h1, h5, h6, implies_true]
  decide +kernel

end WindowEvents


namespace ClockEvents

def o : Supplies := ⟨12000, 5000, 3300, 100, some 5, 300⟩
def asleep (d : Dev) : Dev := { set d [(F.CLK_STAT_SRC, 0)] with asleep := true, busHeld := true }
def waits (d : Dev) : Dev := { d with engC := { d.engC with wait := Wait.doze }, engL := { d.engL with wait := Wait.doze }, engR := { d.engR with wait := Wait.doze }, collarRun := 2 }
def s1 : State := ⟨[], { (set up [(F.CLK_XREF_EN, 1), (F.CLK_STAT_XREF_OK, 1), (F.CLK_XREF_FNOM, 100), (F.CLK_XERR_HFV, 1), (F.CLK_XERR_LFV, 1)]) with
  regs := [(F.SYS_MODE, 0x4101), (F.SYS_PADSTAT, 0x10000), (F.PWR_STAT, 111), (F.CLK_STAT, 537), (F.CLK_XREF, 0x6420001),
    (F.CLK_XERR, 0x3000000000000), (F.LOOP_STAT, 0x384000000001), (F.DBG_STAT, 17)] }⟩
def s2 : State := still { set up [(F.CLK_STAT_SRC, 2), (F.CLK_STAT_LOCK, 1), (F.CLK_STAT_RELOCK, 1)] with clk := { Clock.init with pendingSrc := some 1 } }
def s3 : State := still { set up [(F.CLK_STAT_SRC, 0)] with clk := { Clock.init with pendingSrc := some 1 } }
def s4 : State := still { set up [(F.CLK_STAT_RELOCK, 1), (F.CLK_STAT_LOCK, 1)] with clk := { Clock.init with pendingSrc := some 2 } }
def s5 : State := ⟨[], { (set up [(F.CLK_STAT_RELOCK, 1), (F.CLK_STAT_LOCK, 1), (F.CLK_SLKSTAT_OPEN, 1)]) with
  regs := [(F.SYS_MODE, 0x4101), (F.SYS_PADSTAT, 0x10000), (F.PWR_STAT, 111), (F.CLK_STAT, 121), (F.CLK_SLKSTAT, 1), (F.LOOP_STAT, 0x384000000001),
    (F.DBG_STAT, 17)] }⟩
def s6 : State := ⟨[], { (set up [(F.CLK_STAT_RELOCK, 1), (F.CLK_STAT_LOCK, 1), (F.CLK_STAT_PLL_FAIL, 1)]) with
  regs := [(F.SYS_MODE, 0x4101), (F.SYS_PADSTAT, 0x10000), (F.PWR_STAT, 111), (F.CLK_STAT, 0x879), (F.LOOP_STAT, 0x384000000001),
    (F.BIST_DEGR, 0x10000), (F.DBG_STAT, 17)] }⟩
def s7 : State := ⟨[], { (set up [(F.CLK_STAT_RELOCK, 1)]) with
  regs := [(F.SYS_MODE, 0x4101), (F.SYS_PADSTAT, 0x10000), (F.PWR_STAT, 111), (F.CLK_STAT, 57), (F.LOOP_STAT, 0x384000000001), (F.DBG_STAT, 17)] }⟩
def s8 : State := ⟨[], { (set up [(F.CLK_STAT_RELOCK, 1), (F.CLK_STAT_PLL_FAIL, 1)]) with
  regs := [(F.SYS_MODE, 0x4101), (F.SYS_PADSTAT, 0x10000), (F.PWR_STAT, 111), (F.CLK_STAT, 0x839), (F.LOOP_STAT, 0x384000000001),
    (F.BIST_DEGR, 0x10000), (F.DBG_STAT, 17)] }⟩
def s9 : State := still { set up [(F.CLK_STAT_SRC, 2), (F.CLK_STAT_LOCK, 1)] with clk := { Clock.init with trips := [0, 0] } }
def s10 : State := still { set up [(F.CLK_XREF_EN, 1), (F.CLK_XREF_FNOM, 100)] with clk := { Clock.init with xrefGood := 3 } }
def s11 : State := still { set up [(F.CLK_XREF_EN, 1), (F.CLK_XREF_FNOM, 100)] with clk := { Clock.init with xrefGood := 2 } }
def s12 : State := ⟨[], { (asleep up) with
  regs := [(F.SYS_MODE, 0x4101), (F.SYS_PADSTAT, 0x10000), (F.PWR_STAT, 111), (F.CLK_STAT, 24), (F.LOOP_STAT, 0x384000000001), (F.DBG_STAT, 17)] }⟩
def s13 : State := ⟨[], { (waits (set up [(⟨F.DBG_STAT, 71, 0⟩, 34)])) with
  regs := [(F.SYS_MODE, 0x4101), (F.SYS_PADSTAT, 0x10000), (F.PWR_STAT, 111), (F.CLK_STAT, 25), (F.LOOP_STAT, 0x384000000001), (F.DBG_STAT, 34)] }⟩
def s15 : State := still { set up [(F.CLK_STAT_SRC, 0), (⟨F.SYS_MODE, 71, 0⟩, 0x4202)] with clk := { Clock.init with pendingSrc := some 1 } }

theorem test_witness_ClockEvents :
    (s1.dev.noWork = true ∧ Store.wf resetWord s1.dev.regs = true ∧ s1.dev.busHeld = false ∧
      ((s1.dev.clk.pendingSrc = none ∨ s1.dev.flag F.CLK_SLKSTAT_OPEN = true)) ∧
      ((0 < 99 ∨ s1.dev.get F.CLK_STAT_SRC ≠ 2)) ∧
      (s1.dev.flag F.CLK_XREF_EN = true ∧ s1.dev.get F.CLK_STAT_SRC ≠ 0 ∧
        (80 * 0 < 19 * (125 * s1.dev.get F.CLK_XREF_FNOM) ∨ 21 * (125 * s1.dev.get F.CLK_XREF_FNOM) < 80 * 0)) ∧
      (s1.dev.flag F.CLK_XREF_EN = true ∧ s1.dev.get F.CLK_STAT_SRC ≠ 0) ∧
      (s1.dev.flag F.CLK_STAT_XREF_OK = true ∧ s1.dev.get F.CLK_STAT_SRC ≠ 0 ∧ -2 ^ 23 ≤ 5 ∧ 5 < 2 ^ 23 ∧ -2 ^ 23 ≤ -3 ∧ -3 < 2 ^ 23) ∧
      (s1.dev.maySleep = false)) ∧
    (s2.dev.noWork = true ∧ Store.wf resetWord s2.dev.regs = true ∧ s2.dev.busHeld = false ∧
      (s2.dev.clk.pendingSrc = some 1 ∧ s2.dev.flag F.CLK_SLKSTAT_OPEN = false) ∧
      (s2.dev.flag F.CLK_STAT_RELOCK = true) ∧
      (s2.dev.flag F.CLK_STAT_RELOCK = true ∧ s2.dev.flag F.CLK_STAT_LOCK = true ∧ s2.dev.flag F.CLK_STAT_PLL_FAIL = false ∧
        s2.dev.flag F.CLK_SLKSTAT_OPEN = false) ∧
      (99 ≤ 99 ∧ s2.dev.get F.CLK_STAT_SRC = 2)) ∧
    (s3.dev.noWork = true ∧ Store.wf resetWord s3.dev.regs = true ∧ s3.dev.busHeld = false ∧ s3.dev.get F.CLK_STAT_SRC = 0) ∧
    (s4.dev.noWork = true ∧ Store.wf resetWord s4.dev.regs = true ∧ s4.dev.busHeld = false ∧ s4.dev.clk.pendingSrc = some 2 ∧
      s4.dev.flag F.CLK_STAT_LOCK = true ∧ s4.dev.flag F.CLK_SLKSTAT_OPEN = false) ∧
    (s5.dev.noWork = true ∧ Store.wf resetWord s5.dev.regs = true ∧ s5.dev.busHeld = false ∧ s5.dev.flag F.CLK_STAT_RELOCK = true ∧
      s5.dev.flag F.CLK_STAT_LOCK = true ∧ s5.dev.flag F.CLK_STAT_PLL_FAIL = false ∧ s5.dev.flag F.CLK_SLKSTAT_OPEN = true) ∧
    (s6.dev.noWork = true ∧ Store.wf resetWord s6.dev.regs = true ∧ s6.dev.busHeld = false ∧ s6.dev.flag F.CLK_STAT_RELOCK = true ∧
      s6.dev.flag F.CLK_STAT_LOCK = true ∧ s6.dev.flag F.CLK_STAT_PLL_FAIL = true) ∧
    (s7.dev.noWork = true ∧ Store.wf resetWord s7.dev.regs = true ∧ s7.dev.busHeld = false ∧ s7.dev.flag F.CLK_STAT_RELOCK = true ∧
      s7.dev.flag F.CLK_STAT_LOCK = false ∧ s7.dev.get F.CLK_STAT_SRC ≠ 2 ∧ s7.dev.flag F.CLK_STAT_PLL_FAIL = false) ∧
    (s8.dev.noWork = true ∧ Store.wf resetWord s8.dev.regs = true ∧ s8.dev.busHeld = false ∧ s8.dev.flag F.CLK_STAT_RELOCK = true ∧
      s8.dev.flag F.CLK_STAT_LOCK = false ∧ s8.dev.get F.CLK_STAT_SRC ≠ 2 ∧ s8.dev.flag F.CLK_STAT_PLL_FAIL = true) ∧
    (s10.dev.noWork = true ∧ Store.wf resetWord s10.dev.regs = true ∧ s10.dev.busHeld = false ∧ s10.dev.flag F.CLK_XREF_EN = true ∧
      s10.dev.get F.CLK_STAT_SRC ≠ 0 ∧ 49 * (125 * s10.dev.get F.CLK_XREF_FNOM) ≤ 200 * (125 * 100 * 51 / 200) ∧
      200 * (125 * 100 * 51 / 200) ≤ 51 * (125 * s10.dev.get F.CLK_XREF_FNOM) ∧ 3 ≤ s10.dev.clk.xrefGood) ∧
    (s11.dev.noWork = true ∧ Store.wf resetWord s11.dev.regs = true ∧ s11.dev.busHeld = false ∧ s11.dev.flag F.CLK_XREF_EN = true ∧
      s11.dev.get F.CLK_STAT_SRC ≠ 0 ∧ 49 * (125 * s11.dev.get F.CLK_XREF_FNOM) ≤ 200 * (125 * 100 * 51 / 200) ∧
      200 * (125 * 100 * 51 / 200) ≤ 51 * (125 * s11.dev.get F.CLK_XREF_FNOM) ∧ s11.dev.clk.xrefGood < 3) ∧
    (s12.dev.noWork = true ∧ Store.wf resetWord s12.dev.regs = true ∧ s12.dev.asleep = true ∧ s12.dev.get F.CLK_STAT_SRC = 0) ∧
    (s13.dev.noWork = true ∧ Store.wf resetWord s13.dev.regs = true ∧ s13.dev.maySleep = true) := by
  decide +kernel

end ClockEvents


namespace TidelineEvents

def tick1 (d : Dev) : Dev := { set d [] with regs := (set d [(⟨F.TMR_CMP0 1, 71, 0⟩, 10000000)]).regs }
def s2 : State := still { tick1 (set up [(⟨F.TIDE_SEC, 71, 0⟩, 0x0FFFFFC00)]) with tide := { Tide.init with phase := 12345, e := -300000 } }
def s3 : State := ⟨[], { (set up [(F.CLK_STAT_LF_SUB, 1)]) with
  regs := [(F.SYS_MODE, 0x4101), (F.SYS_PADSTAT, 0x10000), (F.PWR_STAT, 111), (F.CLK_STAT, 0x419), (F.LOOP_STAT, 0x384000000001), (F.DBG_STAT, 17)] }⟩
def s4 : State := still { set up [(F.TIDE_CTL_HALTED, 1), (F.TIDE_CTL_RELPIN, 15), (F.TIDE_CTL_HALT, 1)] with tide := { Tide.init with relArmed := true } }
def s5 : State := still { set up [(F.TIDE_CTL_HALTED, 1), (F.TIDE_TICKS_TICKS, 32768)] with tide := { Tide.init with relArmed := false } }
def s6 : State := still { set up [(F.TIDE_CTL_HALTED, 1), (F.TIDE_TICKS_TICKS, 32767)] with tide := { Tide.init with relArmed := true } }

theorem test_witness_TidelineEvents :
    (s2.dev.atRest ∧
      (s2.dev.flag F.TIDE_CTL_STOPPED = false ∧ s2.dev.flag F.TIDE_CTL_HALTED = false ∧ s2.dev.tide.firstStep = none ∧ s2.dev.tide.phase < 2 ^ 32 ∧
        -300000 ≤ s2.dev.tide.e ∧ s2.dev.tide.e ≤ 300000 ∧ s2.dev.links = [] ∧
        (∀ (k : Nat), k < 8 → k ≠ 1 → s2.dev.flag (F.TMR_STAT_RUN k) = false) ∧ bitsOf (s2.dev.reg (F.TMR_CMP1 1)) 47 0 = 0 ∧
        s2.dev.tmrCount 1 < bitsOf (s2.dev.reg (F.TMR_CMP0 1)) 47 0 ∧ (s2.dev.ch 1).frac < 2 ^ 32 ∧ BitVec.toNat (s2.dev.reg F.TIDE_SEC) < 2 ^ 71 ∧
        (BitVec.toNat (s2.dev.reg F.TIDE_SEC) : Int) + 512 + ((s2.dev.tide.phase : Int) - tideK s2.dev.tide.e) / (2 ^ 32 : Int) < (((BitVec.toNat (s2.dev.reg F.TIDE_SEC) / 2 ^ 24 + 1) * 2 ^ 24 : Nat) : Int)) ∧
      (s2.dev.flag F.CLK_STAT_LF_SUB = false) ∧
      (s2.dev.flag F.TIDE_CTL_HALTED = false)) ∧
    (s3.dev.atRest ∧ s3.dev.flag F.CLK_STAT_LF_SUB = true) ∧
    (s4.dev.atRest ∧ s4.dev.flag F.TIDE_CTL_HALTED = true ∧
      (s4.dev.tide.relArmed = true ∧ s4.dev.pads.lost = false ∧ 15 = s4.dev.get F.TIDE_CTL_RELPIN) ∧
      (s4.dev.get F.TIDE_TICKS_TICKS < s4.dev.tide.haltTick + 32768)) ∧
    (s5.dev.atRest ∧ s5.dev.flag F.TIDE_CTL_HALTED = true ∧
      ((s5.dev.tide.relArmed = false ∨ s5.dev.pads.lost = true ∨ 15 ≠ s5.dev.get F.TIDE_CTL_RELPIN)) ∧
      (s5.dev.tide.haltTick + 32768 ≤ s5.dev.get F.TIDE_TICKS_TICKS)) := by
  unfold Dev.atRest Dev.untapped
  decide +kernel

end TidelineEvents


namespace SupplyEvents

def lean : Dev := { set up [(⟨F.SYS_MODE, 71, 0⟩, 0x4202), (⟨F.PWR_NEED, 71, 0⟩, 100)] with sup := { Supply.init with loopp := 12000, vpool := 5000, vcell := 3600 } }
def s1 : State := ⟨[], { lean with
  regs := [(F.SYS_MODE, 0x4202), (F.SYS_PADSTAT, 0x10000), (F.PWR_STAT, 111), (F.PWR_NEED, 100), (F.CLK_STAT, 25), (F.LOOP_STAT, 0x384000000001),
    (F.DBG_STAT, 17)] }⟩
def s2 : State := ⟨[], { (set up [(⟨F.PWR_CELL, 71, 0⟩, 0x394001), (⟨F.PWR_CHG, 71, 0⟩, 0x3C001)]) with
  regs := [(F.SYS_MODE, 0x4101), (F.SYS_PADSTAT, 0x10000), (F.PWR_STAT, 127), (F.PWR_CELL, 0x394001), (F.PWR_CHG, 0x3C001), (F.CLK_STAT, 25),
    (F.LOOP_STAT, 0x384000000001), (F.DBG_STAT, 17)] }⟩
def s3 : State := ⟨[], { (set up [(F.SYS_MODE_SEAL, 1), (F.LOOP_FIX_EN, 1)]) with
  regs := [(F.SYS_MODE, 0xC101), (F.SYS_PADSTAT, 0x10000), (F.PWR_STAT, 111), (F.CLK_STAT, 25), (F.LOOP_FIX, 0x10000), (F.LOOP_STAT, 0x384000000001),
    (F.DBG_STAT, 17)] }⟩
def s4 : State := ⟨[], { (set up [(⟨F.PWR_NEED, 71, 0⟩, 100)]) with
  regs := [(F.SYS_MODE, 0x4101), (F.SYS_PADSTAT, 0x10000), (F.PWR_STAT, 111), (F.PWR_NEED, 100), (F.CLK_STAT, 25), (F.LOOP_STAT, 0x384000000001),
    (F.DBG_STAT, 17)] }⟩
def s5 : State := still { set up [(⟨F.PWR_CFG, 71, 0⟩, 257)] with loop := Loop.init }
def s6 : State := still { up with pads := { Pads.init with lost := true } }
def s7 : State := still { up with sup := { up.sup with vpool := 2199 } }
def s8 : State := still { set up [(F.PWR_STAT_SLACK, 1)] with sup := { up.sup with savedSrc := 0 } }
def s9 : State := ⟨[], { (set up [(⟨F.SYS_MODE, 71, 0⟩, 0x4104)]) with
  regs := [(F.SYS_MODE, 0x4104), (F.SYS_PADSTAT, 0x10000), (F.PWR_STAT, 111), (F.CLK_STAT, 25), (F.LOOP_STAT, 0x384000000001), (F.DBG_STAT, 17)] }⟩

theorem test_witness_SupplyEvents :
    (s1.dev.atRest ∧
      (125 < (fun n => 2200 + 50 * n) (s1.dev.get F.PWR_CELL_LOW)) ∧
      (125 < 2000 ∧ s1.dev.sup.deepLogged = false) ∧
      ((125 < 3000 ∨ s1.dev.sup.filled = true ∨ s1.dev.get F.SYS_MODE_STAGE < 3)) ∧
      (125 < 3000) ∧
      (125 < (fun n => 2200 + 50 * n) (s1.dev.get F.PWR_POOL_LOW)) ∧
      (s1.dev.regime = 2 ∧ 5 * s1.dev.needNow ≤ 4 * 125 ∧ (fun n => 2200 + 50 * n) (s1.dev.get F.PWR_POOL_RESUME) ≤ s1.dev.sup.vpool) ∧
      (125 + 100 ≤ s1.dev.vend) ∧
      (s1.dev.flag F.PWR_STAT_VIN_OK = true ∧ 125 < 7500 ∧ s1.dev.flag F.PWR_STAT_SLACK = false ∧ s1.dev.get F.PWR_STAT_SRC ≠ 2) ∧
      ((s1.dev.battery = false ∨ 125 ≤ 8000 ∨ s1.dev.sup.mismatchLogged = true)) ∧
      (s1.dev.flag F.SYS_MODE_SEAL = false ∧ s1.dev.mode ≠ 4 ∧ s1.dev.mode ≠ 6 ∧ s1.dev.mode ≠ 7) ∧
      (s1.dev.pads.lost = false) ∧
      (s1.dev.flag F.SYS_MODE_SEAL = false)) ∧
    (s2.dev.atRest ∧
      (3000 ≤ 3000 ∧ s2.dev.sup.filled = false ∧ 3 ≤ s2.dev.get F.SYS_MODE_STAGE) ∧
      (s2.dev.charging = true ∧ s2.dev.vend ≤ 3000) ∧
      ((fun n => 2200 + 50 * n) (s2.dev.get F.PWR_CELL_LOW) ≤ 4500 ∧ 2000 ≤ 4500)) ∧
    (s3.dev.atRest ∧ s3.dev.flag F.SYS_MODE_SEAL = true) ∧
    (s4.dev.atRest ∧ s4.dev.regime = 1 ∧ s4.dev.needKnown = true ∧ 0 < s4.dev.needNow) ∧
    (s5.dev.atRest ∧ s5.dev.battery = true ∧ 8000 < 8001 ∧ s5.dev.sup.mismatchLogged = false) ∧
    (s6.dev.atRest ∧ s6.dev.pads.lost = true ∧ (s6.dev.traceN = 0 ∨ s6.dev.flag F.DBG_TRCFG_STREAM = false)) ∧
    (s8.dev.atRest ∧ s8.dev.flag F.PWR_STAT_VIN_OK = true ∧ 7499 < 7500 ∧ s8.dev.flag F.PWR_STAT_SLACK = true ∧ s8.dev.sup.savedSrc ≠ 2) ∧
    (s9.dev.atRest ∧ s9.dev.flag F.SYS_MODE_SEAL = false ∧ (s9.dev.mode = 4 ∨ s9.dev.mode = 6 ∨ s9.dev.mode = 7) ∧ s9.dev.sup.sealLogged = false) := by
  unfold Dev.atRest Dev.untapped
  decide +kernel

end SupplyEvents


namespace MailboxServices

def fb : FbMeas := ⟨[], []⟩
def words : List (Nat × Word) := [(0x1C1C0, 1), (0x1C1C1, 2), (0x1C1C2, 3), (0x1C1C3, 4), (0x1C1C4, 5), (0x1C1C5, 6), (0x1C1C6, 7), (0x1C1C7, 8), (0x1C240, 9), (0x1C241, 8), (0x1C242, 7)]
def log : List (Nat × Word) :=
  [(0x88000, 0x40F27F000000000000), (0x88003, 0xB211532), (0x88004, 0x41F27F000000000001), (0x88007, 0x159139B7), (0x88008, 0x42F27F000000000002), (0x8800B, 0x51DD8FFD)]
def x1 : Session := ⟨1, false, 100, 3, 0, false, .mailbox 7 false⟩
def x2 : Session := ⟨1, true, 100, 3, 0, false, .mailbox 7 false⟩
def x3 : Session := ⟨1, false, 100, 3, 0, true, .mailbox 7 false⟩
def x4 : Session := ⟨2, false, 100, 3, 0, true, .mailbox 7 false⟩
def call (mode n : Nat) (args : List Word) (more : List (Fld × Nat)) : Dev :=
  { set up ([(⟨F.SYS_MODE, 71, 0⟩, 0x4100 + mode), (⟨F.SEAM_REC 7, 71, 0⟩, 0x70001F0), (⟨F.SEAM_REC 9, 71, 0⟩, 0x90005F0), (F.COLLAR_MBXSTAT_BUSY, 1)] ++ more) with
    mem := words, col := { Col.init with svcQ := [⟨n, .mailbox 200 false, args⟩], aonLost := false } }
def a0 : List Word := []
def s0 : State := ⟨[], { (call 1 0 [] []) with
  regs := [(F.SYS_MODE, 0x4101), (F.SYS_PADSTAT, 0x10000), (F.PWR_STAT, 111), (F.CLK_STAT, 25), (F.SEAM_REC 7, 0x70001F0), (F.SEAM_REC 9, 0x90005F0),
    (F.LOOP_STAT, 0x384000000001), (F.DBG_STAT, 17), (F.COLLAR_MBXSTAT, 0x20000)] }⟩
def a1 : List Word := []
def s1 : State := ⟨[], { (call 1 1 [] []) with
  regs := [(F.SYS_MODE, 0x4101), (F.SYS_PADSTAT, 0x10000), (F.PWR_STAT, 111), (F.CLK_STAT, 25), (F.SEAM_REC 7, 0x70001F0), (F.SEAM_REC 9, 0x90005F0),
    (F.LOOP_STAT, 0x384000000001), (F.DBG_STAT, 17), (F.COLLAR_MBXSTAT, 0x20000)] }⟩
def a2 : List Word := []
def s2 : State := ⟨[], { (call 1 2 [] []) with
  regs := [(F.SYS_MODE, 0x4101), (F.SYS_PADSTAT, 0x10000), (F.PWR_STAT, 111), (F.CLK_STAT, 25), (F.SEAM_REC 7, 0x70001F0), (F.SEAM_REC 9, 0x90005F0),
    (F.LOOP_STAT, 0x384000000001), (F.DBG_STAT, 17), (F.COLLAR_MBXSTAT, 0x20000)] }⟩
def a3 : List Word := [0xFFFFFFFFFF9C000000, 0x5000000]
def s3 : State := ⟨[], { (call 1 3 [0xFFFFFFFFFF9C000000, 0x5000000] []) with
  regs := [(F.SYS_MODE, 0x4101), (F.SYS_PADSTAT, 0x10000), (F.PWR_STAT, 111), (F.CLK_STAT, 25), (F.SEAM_REC 7, 0x70001F0), (F.SEAM_REC 9, 0x90005F0),
    (F.LOOP_STAT, 0x384000000001), (F.DBG_STAT, 17), (F.COLLAR_MBXSTAT, 0x20000)] }⟩
def a4 : List Word := [0xFFF]
def s4 : State := ⟨[], { (call 1 4 [0xFFF] []) with
  regs := [(F.SYS_MODE, 0x4101), (F.SYS_PADSTAT, 0x10000), (F.PWR_STAT, 111), (F.CLK_STAT, 25), (F.SEAM_REC 7, 0x70001F0), (F.SEAM_REC 9, 0x90005F0),
    (F.LOOP_STAT, 0x384000000001), (F.DBG_STAT, 17), (F.COLLAR_MBXSTAT, 0x20000)] }⟩
def a5 : List Word := [0x1000]
def s5 : State := ⟨[], { (call 1 4 [0x1000] []) with
  regs := [(F.SYS_MODE, 0x4101), (F.SYS_PADSTAT, 0x10000), (F.PWR_STAT, 111), (F.CLK_STAT, 25), (F.SEAM_REC 7, 0x70001F0), (F.SEAM_REC 9, 0x90005F0),
    (F.LOOP_STAT, 0x384000000001), (F.DBG_STAT, 17), (F.COLLAR_MBXSTAT, 0x20000)] }⟩
def a6 : List Word := [0xFFF, 77]
def s6 : State := ⟨[], { (call 5 5 [0xFFF, 77] []) with
  regs := [(F.SYS_MODE, 0x4105), (F.SYS_PADSTAT, 0x10000), (F.PWR_STAT, 111), (F.CLK_STAT, 25), (F.SEAM_REC 7, 0x70001F0), (F.SEAM_REC 9, 0x90005F0),
    (F.LOOP_STAT, 0x384000000001), (F.DBG_STAT, 17), (F.COLLAR_MBXSTAT, 0x20000)] }⟩
def a7 : List Word := [5, 77]
def s7 : State := ⟨[], { (call 1 5 [5, 77] []) with
  regs := [(F.SYS_MODE, 0x4101), (F.SYS_PADSTAT, 0x10000), (F.PWR_STAT, 111), (F.CLK_STAT, 25), (F.SEAM_REC 7, 0x70001F0), (F.SEAM_REC 9, 0x90005F0),
    (F.LOOP_STAT, 0x384000000001), (F.DBG_STAT, 17), (F.COLLAR_MBXSTAT, 0x20000)] }⟩
def a8 : List Word := [0x1000, 77]
def s8 : State := ⟨[], { (call 5 5 [0x1000, 77] []) with
  regs := [(F.SYS_MODE, 0x4105), (F.SYS_PADSTAT, 0x10000), (F.PWR_STAT, 111), (F.CLK_STAT, 25), (F.SEAM_REC 7, 0x70001F0), (F.SEAM_REC 9, 0x90005F0),
    (F.LOOP_STAT, 0x384000000001), (F.DBG_STAT, 17), (F.COLLAR_MBXSTAT, 0x20000)] }⟩
def a9 : List Word := [0]
def s9 : State := ⟨[], { (call 1 6 [0] []) with
  regs := [(F.SYS_MODE, 0x4101), (F.SYS_PADSTAT, 0x10000), (F.PWR_STAT, 111), (F.CLK_STAT, 25), (F.SEAM_REC 7, 0x70001F0), (F.SEAM_REC 9, 0x90005F0),
    (F.LOOP_STAT, 0x384000000001), (F.DBG_STAT, 17), (F.COLLAR_MBXSTAT, 0x20000)] }⟩
def a10 : List Word := [1]
def s10 : State := ⟨[], { (call 1 6 [1] []) with
  regs := [(F.SYS_MODE, 0x4101), (F.SYS_PADSTAT, 0x10000), (F.PWR_STAT, 111), (F.CLK_STAT, 25), (F.SEAM_REC 7, 0x70001F0), (F.SEAM_REC 9, 0x90005F0),
    (F.LOOP_STAT, 0x384000000001), (F.DBG_STAT, 17), (F.COLLAR_MBXSTAT, 0x20000)] }⟩
def a11 : List Word := [2]
def s11 : State := ⟨[], { (call 1 6 [2] []) with
  regs := [(F.SYS_MODE, 0x4101), (F.SYS_PADSTAT, 0x10000), (F.PWR_STAT, 111), (F.CLK_STAT, 25), (F.SEAM_REC 7, 0x70001F0), (F.SEAM_REC 9, 0x90005F0),
    (F.LOOP_STAT, 0x384000000001), (F.DBG_STAT, 17), (F.COLLAR_MBXSTAT, 0x20000)] }⟩
def a12 : List Word := [1]
def s12 : State := ⟨[], { (call 1 6 [1] [(F.DBG_STAT_STATEL, 4)]) with
  regs := [(F.SYS_MODE, 0x4101), (F.SYS_PADSTAT, 0x10000), (F.PWR_STAT, 111), (F.CLK_STAT, 25), (F.SEAM_REC 7, 0x70001F0), (F.SEAM_REC 9, 0x90005F0),
    (F.LOOP_STAT, 0x384000000001), (F.DBG_STAT, 20), (F.COLLAR_MBXSTAT, 0x20000)] }⟩
def a13 : List Word := [1]
def s13 : State := ⟨[], { ((call 1 6 [1] []).onCol (fun c => { c with actStep := some 1 })) with
  regs := [(F.SYS_MODE, 0x4101), (F.SYS_PADSTAT, 0x10000), (F.PWR_STAT, 111), (F.CLK_STAT, 25), (F.SEAM_REC 7, 0x70001F0), (F.SEAM_REC 9, 0x90005F0),
    (F.LOOP_STAT, 0x384000000001), (F.DBG_STAT, 17), (F.COLLAR_MBXSTAT, 0x20000)] }⟩
def a14 : List Word := []
def s14 : State := ⟨[], { (call 1 7 [] []) with
  regs := [(F.SYS_MODE, 0x4101), (F.SYS_PADSTAT, 0x10000), (F.PWR_STAT, 111), (F.CLK_STAT, 25), (F.SEAM_REC 7, 0x70001F0), (F.SEAM_REC 9, 0x90005F0),
    (F.LOOP_STAT, 0x384000000001), (F.DBG_STAT, 17), (F.COLLAR_MBXSTAT, 0x20000)] }⟩
def a15 : List Word := []
def s15 : State := ⟨[], { ({ call 1 7 [] [] with sup := { up.sup with vpool := 2201, loopp := 5000 } }) with
  regs := [(F.SYS_MODE, 0x4101), (F.SYS_PADSTAT, 0x10000), (F.PWR_STAT, 109), (F.CLK_STAT, 25), (F.SEAM_REC 7, 0x70001F0), (F.SEAM_REC 9, 0x90005F0),
    (F.LOOP_STAT, 0x384000000001), (F.DBG_STAT, 17), (F.COLLAR_MBXSTAT, 0x20000)] }⟩
def a16 : List Word := [3]
def s16 : State := ⟨[], { (call 5 8 [3] []) with
  regs := [(F.SYS_MODE, 0x4105), (F.SYS_PADSTAT, 0x10000), (F.PWR_STAT, 111), (F.CLK_STAT, 25), (F.SEAM_REC 7, 0x70001F0), (F.SEAM_REC 9, 0x90005F0),
    (F.LOOP_STAT, 0x384000000001), (F.DBG_STAT, 17), (F.COLLAR_MBXSTAT, 0x20000)] }⟩
def a17 : List Word := [4]
def s17 : State := ⟨[], { (call 5 8 [4] []) with
  regs := [(F.SYS_MODE, 0x4105), (F.SYS_PADSTAT, 0x10000), (F.PWR_STAT, 111), (F.CLK_STAT, 25), (F.SEAM_REC 7, 0x70001F0), (F.SEAM_REC 9, 0x90005F0),
    (F.LOOP_STAT, 0x384000000001), (F.DBG_STAT, 17), (F.COLLAR_MBXSTAT, 0x20000)] }⟩
def a18 : List Word := [3]
def s18 : State := ⟨[], { (call 1 8 [3] []) with
  regs := [(F.SYS_MODE, 0x4101), (F.SYS_PADSTAT, 0x10000), (F.PWR_STAT, 111), (F.CLK_STAT, 25), (F.SEAM_REC 7, 0x70001F0), (F.SEAM_REC 9, 0x90005F0),
    (F.LOOP_STAT, 0x384000000001), (F.DBG_STAT, 17), (F.COLLAR_MBXSTAT, 0x20000)] }⟩
def a19 : List Word := [7, 0, 16]
def s19 : State := ⟨[], { ({ call 1 9 [7, 0, 16] [(⟨F.COLLAR_LOGSTAT, 71, 0⟩, 3)] with mem := words ++ log }) with
  regs := [(F.SYS_MODE, 0x4101), (F.SYS_PADSTAT, 0x10000), (F.PWR_STAT, 111), (F.CLK_STAT, 25), (F.SEAM_REC 7, 0x70001F0), (F.SEAM_REC 9, 0x90005F0),
    (F.LOOP_STAT, 0x384000000001), (F.DBG_STAT, 17), (F.COLLAR_MBXSTAT, 0x20000), (F.COLLAR_LOGSTAT, 3)] }⟩
def a20 : List Word := [8, 0, 16]
def s20 : State := ⟨[], { (call 1 9 [8, 0, 16] []) with
  regs := [(F.SYS_MODE, 0x4101), (F.SYS_PADSTAT, 0x10000), (F.PWR_STAT, 111), (F.CLK_STAT, 25), (F.SEAM_REC 7, 0x70001F0), (F.SEAM_REC 9, 0x90005F0),
    (F.LOOP_STAT, 0x384000000001), (F.DBG_STAT, 17), (F.COLLAR_MBXSTAT, 0x20000)] }⟩
def a21 : List Word := [0, 100]
def s21 : State := ⟨[], { (call 1 10 [0, 100] []) with
  regs := [(F.SYS_MODE, 0x4101), (F.SYS_PADSTAT, 0x10000), (F.PWR_STAT, 111), (F.CLK_STAT, 25), (F.SEAM_REC 7, 0x70001F0), (F.SEAM_REC 9, 0x90005F0),
    (F.LOOP_STAT, 0x384000000001), (F.DBG_STAT, 17), (F.COLLAR_MBXSTAT, 0x20000)] }⟩
def a22 : List Word := [1, 100]
def s22 : State := ⟨[], { (call 5 10 [1, 100] []) with
  regs := [(F.SYS_MODE, 0x4105), (F.SYS_PADSTAT, 0x10000), (F.PWR_STAT, 111), (F.CLK_STAT, 25), (F.SEAM_REC 7, 0x70001F0), (F.SEAM_REC 9, 0x90005F0),
    (F.LOOP_STAT, 0x384000000001), (F.DBG_STAT, 17), (F.COLLAR_MBXSTAT, 0x20000)] }⟩
def a23 : List Word := [1, 100]
def s23 : State := ⟨[], { (call 1 10 [1, 100] []) with
  regs := [(F.SYS_MODE, 0x4101), (F.SYS_PADSTAT, 0x10000), (F.PWR_STAT, 111), (F.CLK_STAT, 25), (F.SEAM_REC 7, 0x70001F0), (F.SEAM_REC 9, 0x90005F0),
    (F.LOOP_STAT, 0x384000000001), (F.DBG_STAT, 17), (F.COLLAR_MBXSTAT, 0x20000)] }⟩
def a24 : List Word := [0, 100]
def s24 : State := ⟨[], { ((call 1 10 [0, 100] []).onCol (fun c => { c with session := some x1 })) with
  regs := [(F.SYS_MODE, 0x4101), (F.SYS_PADSTAT, 0x10000), (F.PWR_STAT, 111), (F.CLK_STAT, 25), (F.SEAM_REC 7, 0x70001F0), (F.SEAM_REC 9, 0x90005F0),
    (F.LOOP_STAT, 0x384000000001), (F.DBG_STAT, 17), (F.COLLAR_MBXSTAT, 0x20000)] }⟩
def a25 : List Word := [2, 100]
def s25 : State := ⟨[], { (call 1 10 [2, 100] []) with
  regs := [(F.SYS_MODE, 0x4101), (F.SYS_PADSTAT, 0x10000), (F.PWR_STAT, 111), (F.CLK_STAT, 25), (F.SEAM_REC 7, 0x70001F0), (F.SEAM_REC 9, 0x90005F0),
    (F.LOOP_STAT, 0x384000000001), (F.DBG_STAT, 17), (F.COLLAR_MBXSTAT, 0x20000)] }⟩
def a26 : List Word := [8, 0, 8]
def s26 : State := ⟨[], { (call 1 11 [8, 0, 8] []) with
  regs := [(F.SYS_MODE, 0x4101), (F.SYS_PADSTAT, 0x10000), (F.PWR_STAT, 111), (F.CLK_STAT, 25), (F.SEAM_REC 7, 0x70001F0), (F.SEAM_REC 9, 0x90005F0),
    (F.LOOP_STAT, 0x384000000001), (F.DBG_STAT, 17), (F.COLLAR_MBXSTAT, 0x20000)] }⟩
def a27 : List Word := [7, 0, 8]
def s27 : State := ⟨[], { (call 1 11 [7, 0, 8] []) with
  regs := [(F.SYS_MODE, 0x4101), (F.SYS_PADSTAT, 0x10000), (F.PWR_STAT, 111), (F.CLK_STAT, 25), (F.SEAM_REC 7, 0x70001F0), (F.SEAM_REC 9, 0x90005F0),
    (F.LOOP_STAT, 0x384000000001), (F.DBG_STAT, 17), (F.COLLAR_MBXSTAT, 0x20000)] }⟩
def a28 : List Word := []
def s28 : State := ⟨[], { (call 1 12 [] []) with
  regs := [(F.SYS_MODE, 0x4101), (F.SYS_PADSTAT, 0x10000), (F.PWR_STAT, 111), (F.CLK_STAT, 25), (F.SEAM_REC 7, 0x70001F0), (F.SEAM_REC 9, 0x90005F0),
    (F.LOOP_STAT, 0x384000000001), (F.DBG_STAT, 17), (F.COLLAR_MBXSTAT, 0x20000)] }⟩
def a29 : List Word := [7, 0, 8]
def s29 : State := ⟨[], { ((call 1 11 [7, 0, 8] []).onCol (fun c => { c with session := some x1 })) with
  regs := [(F.SYS_MODE, 0x4101), (F.SYS_PADSTAT, 0x10000), (F.PWR_STAT, 111), (F.CLK_STAT, 25), (F.SEAM_REC 7, 0x70001F0), (F.SEAM_REC 9, 0x90005F0),
    (F.LOOP_STAT, 0x384000000001), (F.DBG_STAT, 17), (F.COLLAR_MBXSTAT, 0x20000)] }⟩
def a30 : List Word := [8, 0, 8]
def s30 : State := ⟨[], { ((call 1 11 [8, 0, 8] []).onCol (fun c => { c with session := some x1 })) with
  regs := [(F.SYS_MODE, 0x4101), (F.SYS_PADSTAT, 0x10000), (F.PWR_STAT, 111), (F.CLK_STAT, 25), (F.SEAM_REC 7, 0x70001F0), (F.SEAM_REC 9, 0x90005F0),
    (F.LOOP_STAT, 0x384000000001), (F.DBG_STAT, 17), (F.COLLAR_MBXSTAT, 0x20000)] }⟩
def a31 : List Word := [7, 0, 8]
def s31 : State := ⟨[], { ((call 1 11 [7, 0, 8] []).onCol (fun c => { c with session := some x3 })) with
  regs := [(F.SYS_MODE, 0x4101), (F.SYS_PADSTAT, 0x10000), (F.PWR_STAT, 111), (F.CLK_STAT, 25), (F.SEAM_REC 7, 0x70001F0), (F.SEAM_REC 9, 0x90005F0),
    (F.LOOP_STAT, 0x384000000001), (F.DBG_STAT, 17), (F.COLLAR_MBXSTAT, 0x20000)] }⟩
def a32 : List Word := [7, 0, 8]
def s32 : State := ⟨[], { ((call 1 11 [7, 0, 8] []).onCol (fun c => { c with session := some x4 })) with
  regs := [(F.SYS_MODE, 0x4101), (F.SYS_PADSTAT, 0x10000), (F.PWR_STAT, 111), (F.CLK_STAT, 25), (F.SEAM_REC 7, 0x70001F0), (F.SEAM_REC 9, 0x90005F0),
    (F.LOOP_STAT, 0x384000000001), (F.DBG_STAT, 17), (F.COLLAR_MBXSTAT, 0x20000)] }⟩
def a33 : List Word := []
def s33 : State := ⟨[], { ((call 1 12 [] []).onCol (fun c => { c with session := some x4 })) with
  regs := [(F.SYS_MODE, 0x4101), (F.SYS_PADSTAT, 0x10000), (F.PWR_STAT, 111), (F.CLK_STAT, 25), (F.SEAM_REC 7, 0x70001F0), (F.SEAM_REC 9, 0x90005F0),
    (F.LOOP_STAT, 0x384000000001), (F.DBG_STAT, 17), (F.COLLAR_MBXSTAT, 0x20000)] }⟩
def a34 : List Word := []
def s34 : State := ⟨[], { ((call 1 12 [] []).onCol (fun c => { c with session := some x1 })) with
  regs := [(F.SYS_MODE, 0x4101), (F.SYS_PADSTAT, 0x10000), (F.PWR_STAT, 111), (F.CLK_STAT, 25), (F.SEAM_REC 7, 0x70001F0), (F.SEAM_REC 9, 0x90005F0),
    (F.LOOP_STAT, 0x384000000001), (F.DBG_STAT, 17), (F.COLLAR_MBXSTAT, 0x20000)] }⟩
def a35 : List Word := []
def s35 : State := ⟨[], { ((call 1 12 [] []).onCol (fun c => { c with session := some x3 })) with
  regs := [(F.SYS_MODE, 0x4101), (F.SYS_PADSTAT, 0x10000), (F.PWR_STAT, 111), (F.CLK_STAT, 25), (F.SEAM_REC 7, 0x70001F0), (F.SEAM_REC 9, 0x90005F0),
    (F.LOOP_STAT, 0x384000000001), (F.DBG_STAT, 17), (F.COLLAR_MBXSTAT, 0x20000)] }⟩
def a36 : List Word := []
def s36 : State := ⟨[], { ((call 1 12 [] []).onCol (fun c => { c with session := some x2 })) with
  regs := [(F.SYS_MODE, 0x4101), (F.SYS_PADSTAT, 0x10000), (F.PWR_STAT, 111), (F.CLK_STAT, 25), (F.SEAM_REC 7, 0x70001F0), (F.SEAM_REC 9, 0x90005F0),
    (F.LOOP_STAT, 0x384000000001), (F.DBG_STAT, 17), (F.COLLAR_MBXSTAT, 0x20000)] }⟩
def a37 : List Word := []
def s37 : State := ⟨[], { (call 1 13 [] [(F.COLLAR_IMG_VALB, 1)]) with
  regs := [(F.SYS_MODE, 0x4101), (F.SYS_PADSTAT, 0x10000), (F.PWR_STAT, 111), (F.CLK_STAT, 25), (F.SEAM_REC 7, 0x70001F0), (F.SEAM_REC 9, 0x90005F0),
    (F.LOOP_STAT, 0x384000000001), (F.DBG_STAT, 17), (F.COLLAR_MBXSTAT, 0x20000), (F.COLLAR_IMG, 16)] }⟩
def a38 : List Word := []
def s38 : State := ⟨[], { (call 1 13 [] []) with
  regs := [(F.SYS_MODE, 0x4101), (F.SYS_PADSTAT, 0x10000), (F.PWR_STAT, 111), (F.CLK_STAT, 25), (F.SEAM_REC 7, 0x70001F0), (F.SEAM_REC 9, 0x90005F0),
    (F.LOOP_STAT, 0x384000000001), (F.DBG_STAT, 17), (F.COLLAR_MBXSTAT, 0x20000)] }⟩
def a39 : List Word := []
def s39 : State := ⟨[], { (call 1 14 [] []) with
  regs := [(F.SYS_MODE, 0x4101), (F.SYS_PADSTAT, 0x10000), (F.PWR_STAT, 111), (F.CLK_STAT, 25), (F.SEAM_REC 7, 0x70001F0), (F.SEAM_REC 9, 0x90005F0),
    (F.LOOP_STAT, 0x384000000001), (F.DBG_STAT, 17), (F.COLLAR_MBXSTAT, 0x20000)] }⟩
def a40 : List Word := [15]
def s40 : State := ⟨[], { (call 1 16 [15] []) with
  regs := [(F.SYS_MODE, 0x4101), (F.SYS_PADSTAT, 0x10000), (F.PWR_STAT, 111), (F.CLK_STAT, 25), (F.SEAM_REC 7, 0x70001F0), (F.SEAM_REC 9, 0x90005F0),
    (F.LOOP_STAT, 0x384000000001), (F.DBG_STAT, 17), (F.COLLAR_MBXSTAT, 0x20000)] }⟩
def a41 : List Word := [16]
def s41 : State := ⟨[], { (call 1 16 [16] []) with
  regs := [(F.SYS_MODE, 0x4101), (F.SYS_PADSTAT, 0x10000), (F.PWR_STAT, 111), (F.CLK_STAT, 25), (F.SEAM_REC 7, 0x70001F0), (F.SEAM_REC 9, 0x90005F0),
    (F.LOOP_STAT, 0x384000000001), (F.DBG_STAT, 17), (F.COLLAR_MBXSTAT, 0x20000)] }⟩
def a42 : List Word := [7, 9]
def s42 : State := ⟨[], { (call 5 17 [7, 9] []) with
  regs := [(F.SYS_MODE, 0x4105), (F.SYS_PADSTAT, 0x10000), (F.PWR_STAT, 111), (F.CLK_STAT, 25), (F.SEAM_REC 7, 0x70001F0), (F.SEAM_REC 9, 0x90005F0),
    (F.LOOP_STAT, 0x384000000001), (F.DBG_STAT, 17), (F.COLLAR_MBXSTAT, 0x20000)] }⟩
def a43 : List Word := [2, 9]
def s43 : State := ⟨[], { (call 5 17 [2, 9] []) with
  regs := [(F.SYS_MODE, 0x4105), (F.SYS_PADSTAT, 0x10000), (F.PWR_STAT, 111), (F.CLK_STAT, 25), (F.SEAM_REC 7, 0x70001F0), (F.SEAM_REC 9, 0x90005F0),
    (F.LOOP_STAT, 0x384000000001), (F.DBG_STAT, 17), (F.COLLAR_MBXSTAT, 0x20000)] }⟩
def a44 : List Word := [7, 8]
def s44 : State := ⟨[], { (call 5 17 [7, 8] []) with
  regs := [(F.SYS_MODE, 0x4105), (F.SYS_PADSTAT, 0x10000), (F.PWR_STAT, 111), (F.CLK_STAT, 25), (F.SEAM_REC 7, 0x70001F0), (F.SEAM_REC 9, 0x90005F0),
    (F.LOOP_STAT, 0x384000000001), (F.DBG_STAT, 17), (F.COLLAR_MBXSTAT, 0x20000)] }⟩
def a45 : List Word := [5, 8]
def s45 : State := ⟨[], { (call 5 17 [5, 8] []) with
  regs := [(F.SYS_MODE, 0x4105), (F.SYS_PADSTAT, 0x10000), (F.PWR_STAT, 111), (F.CLK_STAT, 25), (F.SEAM_REC 7, 0x70001F0), (F.SEAM_REC 9, 0x90005F0),
    (F.LOOP_STAT, 0x384000000001), (F.DBG_STAT, 17), (F.COLLAR_MBXSTAT, 0x20000)] }⟩
def a46 : List Word := [7]
def s46 : State := ⟨[], { (call 5 18 [7] []) with
  regs := [(F.SYS_MODE, 0x4105), (F.SYS_PADSTAT, 0x10000), (F.PWR_STAT, 111), (F.CLK_STAT, 25), (F.SEAM_REC 7, 0x70001F0), (F.SEAM_REC 9, 0x90005F0),
    (F.LOOP_STAT, 0x384000000001), (F.DBG_STAT, 17), (F.COLLAR_MBXSTAT, 0x20000)] }⟩
def a47 : List Word := [7]
def s47 : State := ⟨[], { (call 1 18 [7] []) with
  regs := [(F.SYS_MODE, 0x4101), (F.SYS_PADSTAT, 0x10000), (F.PWR_STAT, 111), (F.CLK_STAT, 25), (F.SEAM_REC 7, 0x70001F0), (F.SEAM_REC 9, 0x90005F0),
    (F.LOOP_STAT, 0x384000000001), (F.DBG_STAT, 17), (F.COLLAR_MBXSTAT, 0x20000)] }⟩
def a48 : List Word := [8, 7, 3]
def s48 : State := ⟨[], { ({ call 1 19 [8, 7, 3] [(⟨F.COLLAR_POCKET, 71, 0⟩, 0x1000A)] with pocket := [(8, ⟨0, [1, 2, 3]⟩)] }) with
  regs := [(F.SYS_MODE, 0x4101), (F.SYS_PADSTAT, 0x10000), (F.PWR_STAT, 111), (F.CLK_STAT, 25), (F.SEAM_REC 7, 0x70001F0), (F.SEAM_REC 9, 0x90005F0),
    (F.LOOP_STAT, 0x384000000001), (F.DBG_STAT, 17), (F.COLLAR_MBXSTAT, 0x20000), (F.COLLAR_POCKET, 0x1000A)] }⟩
def a49 : List Word := [8, 8, 3]
def s49 : State := ⟨[], { (call 1 19 [8, 8, 3] []) with
  regs := [(F.SYS_MODE, 0x4101), (F.SYS_PADSTAT, 0x10000), (F.PWR_STAT, 111), (F.CLK_STAT, 25), (F.SEAM_REC 7, 0x70001F0), (F.SEAM_REC 9, 0x90005F0),
    (F.LOOP_STAT, 0x384000000001), (F.DBG_STAT, 17), (F.COLLAR_MBXSTAT, 0x20000)] }⟩
def a50 : List Word := [6, 7, 3]
def s50 : State := ⟨[], { (call 1 19 [6, 7, 3] []) with
  regs := [(F.SYS_MODE, 0x4101), (F.SYS_PADSTAT, 0x10000), (F.PWR_STAT, 111), (F.CLK_STAT, 25), (F.SEAM_REC 7, 0x70001F0), (F.SEAM_REC 9, 0x90005F0),
    (F.LOOP_STAT, 0x384000000001), (F.DBG_STAT, 17), (F.COLLAR_MBXSTAT, 0x20000)] }⟩

theorem test_witness_MailboxServices :
    (s0.dev.atRest ∧ s0.dev.col.svcQ = [SvcReq.mk 0 (Caller.mailbox 200 false) a0] ∧ s0.dev.collarRun ≠ Run.notStarted ∧ 200 < 256 ∧
      s0.dev.held = [] ∧ s0.dev.ecc = [] ∧
      ((Instr.macSvc, 19) ∈ [(Instr.info, 0), (Instr.post, 1), (Instr.assign, 2), (Instr.timeSet, 3), (Instr.paramRead, 4), (Instr.paramWrite, 5), (Instr.modeReq, 6), (Instr.restart fb, 7), (Instr.fuse, 8), (Instr.logRead, 9), (Instr.imgBegin, 10), (Instr.imgWrite, 11), (Instr.imgVerify, 12), (Instr.imgActivate, 13), (Instr.imgStatus, 14), (Instr.keyInfo, 16), (Instr.keyLoad, 17), (Instr.keyErase, 18), (Instr.macSvc, 19)] ∧
        (Instr.macSvc, 19).snd ≠ 0) ∧
      (0 = 0)) ∧
    (s1.dev.atRest ∧ s1.dev.col.svcQ = [SvcReq.mk 1 (Caller.mailbox 200 false) a1] ∧ s1.dev.collarRun ≠ Run.notStarted ∧ 200 < 256 ∧
      s1.dev.held = [] ∧ s1.dev.ecc = [] ∧ 1 = 1) ∧
    (s2.dev.atRest ∧ s2.dev.col.svcQ = [SvcReq.mk 2 (Caller.mailbox 200 false) a2] ∧ s2.dev.collarRun ≠ Run.notStarted ∧ 200 < 256 ∧
      s2.dev.held = [] ∧ s2.dev.ecc = [] ∧ 2 = 2) ∧
    (s3.dev.atRest ∧ s3.dev.col.svcQ = [SvcReq.mk 3 (Caller.mailbox 200 false) a3] ∧ s3.dev.collarRun ≠ Run.notStarted ∧ 200 < 256 ∧
      s3.dev.held = [] ∧ s3.dev.ecc = [] ∧ 3 = 3 ∧ s3.dev.orders = []) ∧
    (s4.dev.atRest ∧ s4.dev.col.svcQ = [SvcReq.mk 4 (Caller.mailbox 200 false) a4] ∧ s4.dev.collarRun ≠ Run.notStarted ∧ 200 < 256 ∧
      s4.dev.held = [] ∧ s4.dev.ecc = [] ∧ 4 = 4 ∧ BitVec.toNat (a4.getD 0 0) ≤ 4095) ∧
    (s5.dev.atRest ∧ s5.dev.col.svcQ = [SvcReq.mk 4 (Caller.mailbox 200 false) a5] ∧ s5.dev.collarRun ≠ Run.notStarted ∧ 200 < 256 ∧
      s5.dev.held = [] ∧ s5.dev.ecc = [] ∧ 4 = 4 ∧ 4095 < BitVec.toNat (a5.getD 0 0)) ∧
    (s6.dev.atRest ∧ s6.dev.col.svcQ = [SvcReq.mk 5 (Caller.mailbox 200 false) a6] ∧ s6.dev.collarRun ≠ Run.notStarted ∧ 200 < 256 ∧
      s6.dev.held = [] ∧ s6.dev.ecc = [] ∧ 5 = 5 ∧ s6.dev.mode = 5 ∧ BitVec.toNat (a6.getD 0 0) ≤ 4095) ∧
    (s7.dev.atRest ∧ s7.dev.col.svcQ = [SvcReq.mk 5 (Caller.mailbox 200 false) a7] ∧ s7.dev.collarRun ≠ Run.notStarted ∧ 200 < 256 ∧
      s7.dev.held = [] ∧ s7.dev.ecc = [] ∧ 5 = 5 ∧ (s7.dev.mode ≠ 5 ∨ 4095 < BitVec.toNat (a7.getD 0 0))) ∧
    (s9.dev.atRest ∧ s9.dev.col.svcQ = [SvcReq.mk 6 (Caller.mailbox 200 false) a9] ∧ s9.dev.collarRun ≠ Run.notStarted ∧ 200 < 256 ∧
      s9.dev.held = [] ∧ s9.dev.ecc = [] ∧ 6 = 6 ∧ BitVec.toNat (a9.getD 0 0) ≤ 1 ∧ s9.dev.migrating = false ∧
      (BitVec.toNat (a9.getD 0 0) = 1 → s9.dev.sleeveUp Eng.left = true ∧ s9.dev.sleeveUp Eng.right = true ∧ s9.dev.activeOf false = s9.dev.activeOf true)) ∧
    (s11.dev.atRest ∧ s11.dev.col.svcQ = [SvcReq.mk 6 (Caller.mailbox 200 false) a11] ∧ s11.dev.collarRun ≠ Run.notStarted ∧ 200 < 256 ∧
      s11.dev.held = [] ∧ s11.dev.ecc = [] ∧ 6 = 6 ∧ 1 < BitVec.toNat (a11.getD 0 0)) ∧
    (s12.dev.atRest ∧ s12.dev.col.svcQ = [SvcReq.mk 6 (Caller.mailbox 200 false) a12] ∧ s12.dev.collarRun ≠ Run.notStarted ∧ 200 < 256 ∧
      s12.dev.held = [] ∧ s12.dev.ecc = [] ∧ 6 = 6 ∧ BitVec.toNat (a12.getD 0 0) = 1 ∧ s12.dev.migrating = false ∧
      (s12.dev.sleeveUp Eng.left = false ∨ s12.dev.sleeveUp Eng.right = false ∨ s12.dev.activeOf false ≠ s12.dev.activeOf true)) ∧
    (s13.dev.atRest ∧ s13.dev.col.svcQ = [SvcReq.mk 6 (Caller.mailbox 200 false) a13] ∧ s13.dev.collarRun ≠ Run.notStarted ∧ 200 < 256 ∧
      s13.dev.held = [] ∧ s13.dev.ecc = [] ∧ 6 = 6 ∧ BitVec.toNat (a13.getD 0 0) ≤ 1 ∧ s13.dev.migrating = true) ∧
    (s14.dev.atRest ∧ s14.dev.col.svcQ = [SvcReq.mk 7 (Caller.mailbox 200 false) a14] ∧ s14.dev.collarRun ≠ Run.notStarted ∧ 200 < 256 ∧
      s14.dev.held = [] ∧ s14.dev.ecc = [] ∧ 7 = 7 ∧ s14.dev.reserveAt 16000 = true ∧ s14.dev.col.shut = none) ∧
    (s15.dev.atRest ∧ s15.dev.col.svcQ = [SvcReq.mk 7 (Caller.mailbox 200 false) a15] ∧ s15.dev.collarRun ≠ Run.notStarted ∧ 200 < 256 ∧
      s15.dev.held = [] ∧ s15.dev.ecc = [] ∧ 7 = 7 ∧ (s15.dev.reserveAt 16000 = false ∨ s15.dev.col.shut ≠ none)) ∧
    (s16.dev.atRest ∧ s16.dev.col.svcQ = [SvcReq.mk 8 (Caller.mailbox 200 false) a16] ∧ s16.dev.collarRun ≠ Run.notStarted ∧ 200 < 256 ∧
      s16.dev.held = [] ∧ s16.dev.ecc = [] ∧ 8 = 8 ∧ s16.dev.mode = 5 ∧ s16.dev.flag F.SYS_FUSE_LOCKED = false ∧ BitVec.toNat (a16.getD 0 0) ≤ 3) ∧
    (s17.dev.atRest ∧ s17.dev.col.svcQ = [SvcReq.mk 8 (Caller.mailbox 200 false) a17] ∧ s17.dev.collarRun ≠ Run.notStarted ∧ 200 < 256 ∧
      s17.dev.held = [] ∧ s17.dev.ecc = [] ∧ 8 = 8 ∧ (s17.dev.mode ≠ 5 ∨ s17.dev.flag F.SYS_FUSE_LOCKED = true ∨ 3 < BitVec.toNat (a17.getD 0 0))) ∧
    (s19.dev.atRest ∧ s19.dev.col.svcQ = [SvcReq.mk 9 (Caller.mailbox 200 false) a19] ∧ s19.dev.collarRun ≠ Run.notStarted ∧ 200 < 256 ∧
      s19.dev.held = [] ∧ s19.dev.ecc = [] ∧ 9 = 9 ∧ s19.dev.blockReady (BitVec.toNat (a19.getD 0 0) % 256) = true) ∧
    (s20.dev.atRest ∧ s20.dev.col.svcQ = [SvcReq.mk 9 (Caller.mailbox 200 false) a20] ∧ s20.dev.collarRun ≠ Run.notStarted ∧ 200 < 256 ∧
      s20.dev.held = [] ∧ s20.dev.ecc = [] ∧ 9 = 9 ∧ s20.dev.blockReady (BitVec.toNat (a20.getD 0 0) % 256) = false) ∧
    (s21.dev.atRest ∧ s21.dev.col.svcQ = [SvcReq.mk 10 (Caller.mailbox 200 false) a21] ∧ s21.dev.collarRun ≠ Run.notStarted ∧ 200 < 256 ∧
      s21.dev.held = [] ∧ s21.dev.ecc = [] ∧ 10 = 10 ∧ s21.dev.col.session = none ∧ s21.dev.col.actStep = none ∧
      (BitVec.toNat (a21.getD 0 0) = 0 ∨ BitVec.toNat (a21.getD 0 0) = 1 ∧ s21.dev.mode = 5)) ∧
    (s23.dev.atRest ∧ s23.dev.col.svcQ = [SvcReq.mk 10 (Caller.mailbox 200 false) a23] ∧ s23.dev.collarRun ≠ Run.notStarted ∧ 200 < 256 ∧
      s23.dev.held = [] ∧ s23.dev.ecc = [] ∧ 10 = 10 ∧ s23.dev.col.session = none ∧ s23.dev.col.actStep = none ∧
      (1 < BitVec.toNat (a23.getD 0 0) ∨ BitVec.toNat (a23.getD 0 0) = 1 ∧ s23.dev.mode ≠ 5)) ∧
    (s24.dev.atRest ∧ s24.dev.col.svcQ = [SvcReq.mk 10 (Caller.mailbox 200 false) a24] ∧ s24.dev.collarRun ≠ Run.notStarted ∧ 200 < 256 ∧
      s24.dev.held = [] ∧ s24.dev.ecc = [] ∧ 10 = 10 ∧ (s24.dev.col.session ≠ none ∨ s24.dev.col.actStep ≠ none)) ∧
    (s26.dev.atRest ∧ s26.dev.col.svcQ = [SvcReq.mk 11 (Caller.mailbox 200 false) a26] ∧ s26.dev.collarRun ≠ Run.notStarted ∧ 200 < 256 ∧
      s26.dev.held = [] ∧ s26.dev.ecc = [] ∧ s26.dev.col.session = none ∧ 11 = 11 ∧ s26.dev.blockReady (BitVec.toNat (a26.getD 0 0) % 256) = false) ∧
    (s27.dev.atRest ∧ s27.dev.col.svcQ = [SvcReq.mk 11 (Caller.mailbox 200 false) a27] ∧ s27.dev.collarRun ≠ Run.notStarted ∧ 200 < 256 ∧
      s27.dev.held = [] ∧ s27.dev.ecc = [] ∧ s27.dev.col.session = none ∧ 11 = 11 ∧ s27.dev.blockReady (BitVec.toNat (a27.getD 0 0) % 256) = true) ∧
    (s28.dev.atRest ∧ s28.dev.col.svcQ = [SvcReq.mk 12 (Caller.mailbox 200 false) a28] ∧ s28.dev.collarRun ≠ Run.notStarted ∧ 200 < 256 ∧
      s28.dev.held = [] ∧ s28.dev.ecc = [] ∧ s28.dev.col.session = none ∧ 12 = 12) ∧
    (s29.dev.atRest ∧ s29.dev.col.svcQ = [SvcReq.mk 11 (Caller.mailbox 200 false) a29] ∧ s29.dev.collarRun ≠ Run.notStarted ∧ 200 < 256 ∧
      s29.dev.held = [] ∧ s29.dev.ecc = [] ∧ s29.dev.col.session = some x1 ∧ x1.iface = 1 ∧ 11 = 11 ∧ x1.verifying = false ∧
      (x1.trusted = true → s29.dev.mode = 5) ∧ x1.total ≤ 131072 ∧ s29.dev.blockReady (BitVec.toNat (a29.getD 0 0) % 256) = true) ∧
    (s30.dev.atRest ∧ s30.dev.col.svcQ = [SvcReq.mk 11 (Caller.mailbox 200 false) a30] ∧ s30.dev.collarRun ≠ Run.notStarted ∧ 200 < 256 ∧
      s30.dev.held = [] ∧ s30.dev.ecc = [] ∧ s30.dev.col.session = some x1 ∧ x1.iface = 1 ∧ 11 = 11 ∧ x1.verifying = false ∧
      (x1.trusted = true → s30.dev.mode = 5) ∧ x1.total ≤ 131072 ∧ s30.dev.blockReady (BitVec.toNat (a30.getD 0 0) % 256) = false) ∧
    (s31.dev.atRest ∧ s31.dev.col.svcQ = [SvcReq.mk 11 (Caller.mailbox 200 false) a31] ∧ s31.dev.collarRun ≠ Run.notStarted ∧ 200 < 256 ∧
      s31.dev.held = [] ∧ s31.dev.ecc = [] ∧ s31.dev.col.session = some x3 ∧ x3.iface = 1 ∧ 11 = 11 ∧ x3.verifying = true ∧
      s31.dev.blockReady (BitVec.toNat (a31.getD 0 0) % 256) = true) ∧
    (s32.dev.atRest ∧ s32.dev.col.svcQ = [SvcReq.mk 11 (Caller.mailbox 200 false) a32] ∧ s32.dev.collarRun ≠ Run.notStarted ∧ 200 < 256 ∧
      s32.dev.held = [] ∧ s32.dev.ecc = [] ∧ s32.dev.col.session = some x4 ∧ x4.iface ≠ 1 ∧ 11 = 11 ∧
      s32.dev.blockReady (BitVec.toNat (a32.getD 0 0) % 256) = true) ∧
    (s33.dev.atRest ∧ s33.dev.col.svcQ = [SvcReq.mk 12 (Caller.mailbox 200 false) a33] ∧ s33.dev.collarRun ≠ Run.notStarted ∧ 200 < 256 ∧
      s33.dev.held = [] ∧ s33.dev.ecc = [] ∧ s33.dev.col.session = some x4 ∧ x4.iface ≠ 1 ∧ 12 = 12) ∧
    (s34.dev.atRest ∧ s34.dev.col.svcQ = [SvcReq.mk 12 (Caller.mailbox 200 false) a34] ∧ s34.dev.collarRun ≠ Run.notStarted ∧ 200 < 256 ∧
      s34.dev.held = [] ∧ s34.dev.ecc = [] ∧ s34.dev.col.session = some x1 ∧ x1.iface = 1 ∧ 12 = 12 ∧ x1.verifying = false ∧
      (x1.trusted = true → s34.dev.mode = 5)) ∧
    (s35.dev.atRest ∧ s35.dev.col.svcQ = [SvcReq.mk 12 (Caller.mailbox 200 false) a35] ∧ s35.dev.collarRun ≠ Run.notStarted ∧ 200 < 256 ∧
      s35.dev.held = [] ∧ s35.dev.ecc = [] ∧ s35.dev.col.session = some x3 ∧ x3.iface = 1 ∧ 12 = 12 ∧ x3.verifying = true) ∧
    (s36.dev.atRest ∧ s36.dev.col.svcQ = [SvcReq.mk 12 (Caller.mailbox 200 false) a36] ∧ s36.dev.collarRun ≠ Run.notStarted ∧ 200 < 256 ∧
      s36.dev.held = [] ∧ s36.dev.ecc = [] ∧ s36.dev.col.session = some x2 ∧ x2.iface = 1 ∧ 12 = 12 ∧ x2.verifying = false ∧ x2.trusted = true ∧
      s36.dev.mode ≠ 5) ∧
    (s37.dev.atRest ∧ s37.dev.col.svcQ = [SvcReq.mk 13 (Caller.mailbox 200 false) a37] ∧ s37.dev.collarRun ≠ Run.notStarted ∧ 200 < 256 ∧
      s37.dev.held = [] ∧ s37.dev.ecc = [] ∧ 13 = 13 ∧ s37.dev.imgVal s37.dev.inactive = true ∧ s37.dev.imgRej s37.dev.inactive = false ∧
      s37.dev.col.actStep = none ∧ s37.dev.mode ≠ 7) ∧
    (s38.dev.atRest ∧ s38.dev.col.svcQ = [SvcReq.mk 13 (Caller.mailbox 200 false) a38] ∧ s38.dev.collarRun ≠ Run.notStarted ∧ 200 < 256 ∧
      s38.dev.held = [] ∧ s38.dev.ecc = [] ∧ 13 = 13 ∧
      (s38.dev.imgVal s38.dev.inactive = false ∨ s38.dev.imgRej s38.dev.inactive = true ∨ s38.dev.col.actStep ≠ none ∨ s38.dev.mode = 7)) ∧
    (s39.dev.atRest ∧ s39.dev.col.svcQ = [SvcReq.mk 14 (Caller.mailbox 200 false) a39] ∧ s39.dev.collarRun ≠ Run.notStarted ∧ 200 < 256 ∧
      s39.dev.held = [] ∧ s39.dev.ecc = [] ∧ 14 = 14) ∧
    (s40.dev.atRest ∧ s40.dev.col.svcQ = [SvcReq.mk 16 (Caller.mailbox 200 false) a40] ∧ s40.dev.collarRun ≠ Run.notStarted ∧ 200 < 256 ∧
      s40.dev.held = [] ∧ s40.dev.ecc = [] ∧ 16 = 16 ∧ BitVec.toNat (a40.getD 0 0) ≤ 15) ∧
    (s41.dev.atRest ∧ s41.dev.col.svcQ = [SvcReq.mk 16 (Caller.mailbox 200 false) a41] ∧ s41.dev.collarRun ≠ Run.notStarted ∧ 200 < 256 ∧
      s41.dev.held = [] ∧ s41.dev.ecc = [] ∧ 16 = 16 ∧ 15 < BitVec.toNat (a41.getD 0 0)) ∧
    (s42.dev.atRest ∧ s42.dev.col.svcQ = [SvcReq.mk 17 (Caller.mailbox 200 false) a42] ∧ s42.dev.collarRun ≠ Run.notStarted ∧ 200 < 256 ∧
      s42.dev.held = [] ∧ s42.dev.ecc = [] ∧ 17 = 17 ∧ s42.dev.mode = 5 ∧ s42.dev.blockReady (BitVec.toNat (a42.getD 1 0) % 256) = true ∧
      s42.dev.priv (BitVec.toNat (a42.getD 1 0) % 256) = true) ∧
    (s43.dev.atRest ∧ s43.dev.col.svcQ = [SvcReq.mk 17 (Caller.mailbox 200 false) a43] ∧ s43.dev.collarRun ≠ Run.notStarted ∧ 200 < 256 ∧
      s43.dev.held = [] ∧ s43.dev.ecc = [] ∧ 17 = 17 ∧ s43.dev.mode = 5 ∧ s43.dev.blockReady (BitVec.toNat (a43.getD 1 0) % 256) = true ∧
      s43.dev.priv (BitVec.toNat (a43.getD 1 0) % 256) = true ∧
      (BitVec.toNat (a43.getD 0 0) = 2 ∨ BitVec.toNat (a43.getD 0 0) = 3 ∨ BitVec.toNat (a43.getD 0 0) = 4 ∨ 7 ≤ BitVec.toNat (a43.getD 0 0) ∧ BitVec.toNat (a43.getD 0 0) ≤ 14)) ∧
    (s44.dev.atRest ∧ s44.dev.col.svcQ = [SvcReq.mk 17 (Caller.mailbox 200 false) a44] ∧ s44.dev.collarRun ≠ Run.notStarted ∧ 200 < 256 ∧
      s44.dev.held = [] ∧ s44.dev.ecc = [] ∧ 17 = 17 ∧ s44.dev.mode = 5 ∧ s44.dev.blockReady (BitVec.toNat (a44.getD 1 0) % 256) = false ∧
      (BitVec.toNat (a44.getD 0 0) = 2 ∨ BitVec.toNat (a44.getD 0 0) = 3 ∨ BitVec.toNat (a44.getD 0 0) = 4 ∨ 7 ≤ BitVec.toNat (a44.getD 0 0) ∧ BitVec.toNat (a44.getD 0 0) ≤ 14)) ∧
    (s45.dev.atRest ∧ s45.dev.col.svcQ = [SvcReq.mk 17 (Caller.mailbox 200 false) a45] ∧ s45.dev.collarRun ≠ Run.notStarted ∧ 200 < 256 ∧
      s45.dev.held = [] ∧ s45.dev.ecc = [] ∧ 17 = 17 ∧ s45.dev.mode = 5 ∧ s45.dev.blockReady (BitVec.toNat (a45.getD 1 0) % 256) = false ∧
      (¬(BitVec.toNat (a45.getD 0 0) = 2 ∨ BitVec.toNat (a45.getD 0 0) = 3 ∨ BitVec.toNat (a45.getD 0 0) = 4 ∨ 7 ≤ BitVec.toNat (a45.getD 0 0) ∧ BitVec.toNat (a45.getD 0 0) ≤ 14))) ∧
    (s46.dev.atRest ∧ s46.dev.col.svcQ = [SvcReq.mk 18 (Caller.mailbox 200 false) a46] ∧ s46.dev.collarRun ≠ Run.notStarted ∧ 200 < 256 ∧
      s46.dev.held = [] ∧ s46.dev.ecc = [] ∧ 18 = 18 ∧ s46.dev.mode = 5 ∧
      (BitVec.toNat (a46.getD 0 0) = 2 ∨ BitVec.toNat (a46.getD 0 0) = 3 ∨ BitVec.toNat (a46.getD 0 0) = 4 ∨ 7 ≤ BitVec.toNat (a46.getD 0 0) ∧ BitVec.toNat (a46.getD 0 0) ≤ 14)) ∧
    (s47.dev.atRest ∧ s47.dev.col.svcQ = [SvcReq.mk 18 (Caller.mailbox 200 false) a47] ∧ s47.dev.collarRun ≠ Run.notStarted ∧ 200 < 256 ∧
      s47.dev.held = [] ∧ s47.dev.ecc = [] ∧ 18 = 18 ∧
      (s47.dev.mode ≠ 5 ∨ ¬(BitVec.toNat (a47.getD 0 0) = 2 ∨ BitVec.toNat (a47.getD 0 0) = 3 ∨ BitVec.toNat (a47.getD 0 0) = 4 ∨ 7 ≤ BitVec.toNat (a47.getD 0 0) ∧ BitVec.toNat (a47.getD 0 0) ≤ 14))) ∧
    (s48.dev.atRest ∧ s48.dev.col.svcQ = [SvcReq.mk 19 (Caller.mailbox 200 false) a48] ∧ s48.dev.collarRun ≠ Run.notStarted ∧ 200 < 256 ∧
      s48.dev.held = [] ∧ s48.dev.ecc = [] ∧ 19 = 19 ∧ 7 ≤ BitVec.toNat (a48.getD 0 0) ∧ BitVec.toNat (a48.getD 0 0) ≤ 14 ∧
      s48.dev.blockReady (BitVec.toNat (a48.getD 1 0) % 256) = true ∧ s48.dev.keyUsable (BitVec.toNat (a48.getD 0 0)) 0 = true) ∧
    (s49.dev.atRest ∧ s49.dev.col.svcQ = [SvcReq.mk 19 (Caller.mailbox 200 false) a49] ∧ s49.dev.collarRun ≠ Run.notStarted ∧ 200 < 256 ∧
      s49.dev.held = [] ∧ s49.dev.ecc = [] ∧ 19 = 19 ∧ s49.dev.blockReady (BitVec.toNat (a49.getD 1 0) % 256) = false) ∧
    (s50.dev.atRest ∧ s50.dev.col.svcQ = [SvcReq.mk 19 (Caller.mailbox 200 false) a50] ∧ s50.dev.collarRun ≠ Run.notStarted ∧ 200 < 256 ∧
      s50.dev.held = [] ∧ s50.dev.ecc = [] ∧ 19 = 19 ∧ s50.dev.blockReady (BitVec.toNat (a50.getD 1 0) % 256) = true ∧
      (BitVec.toNat (a50.getD 0 0) < 7 ∨ 14 < BitVec.toNat (a50.getD 0 0) ∨ s50.dev.keyUsable (BitVec.toNat (a50.getD 0 0)) 0 = false)) := by
  unfold Dev.atRest Dev.untapped
  decide +kernel

/-- The last hypotheses of KEY_LOAD are of a free function: the key fits slot 7 where the block holds a symmetric key, and not slot 2. -/
theorem test_witness_MailboxServices_keys (h : ∀ l, Config.keyOfBlock l = (0, [])) :
    (let key := Config.keyOfBlock (s42.dev.loadAll (blockAddr 9) 64)
     a42 = [7, 9] ∧ (7 ≤ 7 ∧ 7 ≤ 14 ∧ key.1 ≤ 1)) ∧
    (let key := Config.keyOfBlock (s43.dev.loadAll (blockAddr 9) 64)
     a43 = [2, 9] ∧ ¬ (2 = 2 ∧ key.1 = 2 ∧ Config.certOk (s43.dev.keyAt 1).key key.2 = true ∨ 2 = 3 ∧ key.1 = 0 ∨ 2 = 4 ∧ key.1 = 1 ∨
       7 ≤ 2 ∧ 2 ≤ 14 ∧ key.1 ≤ 1)) := by
  simp [h, a42, a43]

end MailboxServices


namespace SleeveServices

def wait (d : Dev) : Dev := { d with engL := { EngState.init 0 with w := #v[9, 9, 9, 9, 9, 0, 0, 0, 0, 0, 0, 0, 0, 0, 0, 0], ia := 0x120000, wait := Wait.svc } }
def asks (d : Dev) (svc : Nat) (args : List Word) : Dev := { wait d with col := { Col.init with svcQ := [⟨svc, Caller.sleeve false, args⟩], aonLost := false } }
def posts (chtab : Nat) : Dev :=
  { asks (set up [(⟨F.SEAM_REC 7, 71, 0⟩, 0x70001F0), (⟨F.MET_CH_DESC 5, 71, 0⟩, 1), (⟨F.MET_CH_CV 5, 71, 0⟩, 0x1003039), (⟨F.DBG_STAT, 71, 0⟩, 18),
      (⟨F.COLLAR_CHTAB, 71, 0⟩, chtab), (⟨F.COLLAR_CYCLE, 71, 0⟩, 77)]) 1 [7] with
    sup := { up.sup with filled := true }
    loop := { Loop.init with y := (4000, 1) }
    mem := [(0x1C1C0, 0x1510000000000004D), (0x1C1C1, 0x1000000100000), (0x1C1C2, 1000), (0x1C1C3, 2000)] }
def a7 : List Word := [7]
def none_ : List Word := []
def s1 : State := ⟨[], { (posts 1024) with
  regs := [(F.SYS_MODE, 0x4101), (F.SYS_PADSTAT, 0x10000), (F.PWR_STAT, 111), (F.CLK_STAT, 25), (F.SEAM_REC 7, 0x70001F0), (F.MET_CH_DESC 5, 1),
    (F.MET_CH_CV 5, 0x1003039), (F.LOOP_STAT, 0x3E8000000005), (F.DBG_STAT, 18), (F.COLLAR_CHTAB, 0x400), (F.COLLAR_CYCLE, 77)] }⟩
def s2 : State := ⟨[], { (posts 2048) with
  regs := [(F.SYS_MODE, 0x4101), (F.SYS_PADSTAT, 0x10000), (F.PWR_STAT, 111), (F.CLK_STAT, 25), (F.SEAM_REC 7, 0x70001F0), (F.MET_CH_DESC 5, 1),
    (F.MET_CH_CV 5, 0x1003039), (F.LOOP_STAT, 0x3E8000000005), (F.DBG_STAT, 18), (F.COLLAR_CHTAB, 0x800), (F.COLLAR_CYCLE, 77)] }⟩
def s3 : State := ⟨[], { (asks (set up [(⟨F.DBG_STAT, 71, 0⟩, 18), (⟨F.COLLAR_CHTAB, 71, 0⟩, 19)]) 2 []) with
  regs := [(F.SYS_MODE, 0x4101), (F.SYS_PADSTAT, 0x10000), (F.PWR_STAT, 111), (F.CLK_STAT, 25), (F.LOOP_STAT, 0x384000000001), (F.DBG_STAT, 18),
    (F.COLLAR_CHTAB, 19)] }⟩
def s4 : State := still { posts 1024 with mem := [], regs := (asks (set up [(⟨F.DBG_STAT, 71, 0⟩, 18)]) 1 [7]).regs }

theorem test_witness_SleeveServices :
    (s1.dev.atRest ∧ s1.dev.collarRun ≠ Run.notStarted ∧ s1.dev.paired = false ∧ s1.dev.held = [] ∧ s1.dev.ecc = [] ∧
      (s1.dev.eng (if false = true then Eng.right else Eng.left)).wait = Wait.svc ∧
      s1.dev.runOf (if false = true then Eng.right else Eng.left) = Run.waiting ∧
      s1.dev.haltBit (if false = true then Eng.right else Eng.left) = false ∧ s1.dev.col.svcQ = [SvcReq.mk 1 (Caller.sleeve false) a7] ∧
      s1.dev.mode ≠ 4 ∧ s1.dev.blockReady (BitVec.toNat (a7.getD 0 0) % 256) = true ∧
      s1.dev.postStatus false (s1.dev.loadAll (blockAddr (BitVec.toNat (a7.getD 0 0) % 256)) 33) = 0 ∧
      bitsOf ((fun i => s1.dev.load (blockAddr (BitVec.toNat (a7.getD 0 0) % 256) + i)) 0) 59 56 = 1 ∧
      (fun i => 0 ≤ BitVec.toInt ((fun i => s1.dev.load (blockAddr (BitVec.toNat (a7.getD 0 0) % 256) + i)) (1 + i)) ∧ (fun i => BitVec.toNat ((fun i => s1.dev.load (blockAddr (BitVec.toNat (a7.getD 0 0) % 256) + i)) (1 + i))) i ≤ s1.dev.amountLimit (bitsOf ((fun i => s1.dev.load (blockAddr (BitVec.toNat (a7.getD 0 0) % 256) + i)) 0) 63 60) i (bitsOf ((fun i => s1.dev.load (blockAddr (BitVec.toNat (a7.getD 0 0) % 256) + i)) 1) 47 0)) 1 ∧
      (fun i => 0 ≤ BitVec.toInt ((fun i => s1.dev.load (blockAddr (BitVec.toNat (a7.getD 0 0) % 256) + i)) (1 + i)) ∧ (fun i => BitVec.toNat ((fun i => s1.dev.load (blockAddr (BitVec.toNat (a7.getD 0 0) % 256) + i)) (1 + i))) i ≤ s1.dev.amountLimit (bitsOf ((fun i => s1.dev.load (blockAddr (BitVec.toNat (a7.getD 0 0) % 256) + i)) 0) 63 60) i (bitsOf ((fun i => s1.dev.load (blockAddr (BitVec.toNat (a7.getD 0 0) % 256) + i)) 1) 47 0)) 2 ∧
      (fun i => 0 ≤ BitVec.toInt ((fun i => s1.dev.load (blockAddr (BitVec.toNat (a7.getD 0 0) % 256) + i)) (1 + i)) ∧ (fun i => BitVec.toNat ((fun i => s1.dev.load (blockAddr (BitVec.toNat (a7.getD 0 0) % 256) + i)) (1 + i))) i ≤ s1.dev.amountLimit (bitsOf ((fun i => s1.dev.load (blockAddr (BitVec.toNat (a7.getD 0 0) % 256) + i)) 0) 63 60) i (bitsOf ((fun i => s1.dev.load (blockAddr (BitVec.toNat (a7.getD 0 0) % 256) + i)) 1) 47 0)) 3) ∧
    (s2.dev.atRest ∧ s2.dev.collarRun ≠ Run.notStarted ∧ s2.dev.paired = false ∧ s2.dev.held = [] ∧ s2.dev.ecc = [] ∧
      (s2.dev.eng (if false = true then Eng.right else Eng.left)).wait = Wait.svc ∧
      s2.dev.runOf (if false = true then Eng.right else Eng.left) = Run.waiting ∧
      s2.dev.haltBit (if false = true then Eng.right else Eng.left) = false ∧ s2.dev.col.svcQ = [SvcReq.mk 1 (Caller.sleeve false) a7] ∧
      s2.dev.blockReady (BitVec.toNat (a7.getD 0 0) % 256) = true ∧
      s2.dev.postStatus false (s2.dev.loadAll (blockAddr (BitVec.toNat (a7.getD 0 0) % 256)) 33) ≠ 0) ∧
    (s3.dev.atRest ∧ s3.dev.collarRun ≠ Run.notStarted ∧ s3.dev.paired = false ∧ s3.dev.held = [] ∧ s3.dev.ecc = [] ∧
      (s3.dev.eng (if false = true then Eng.right else Eng.left)).wait = Wait.svc ∧
      s3.dev.runOf (if false = true then Eng.right else Eng.left) = Run.waiting ∧
      s3.dev.haltBit (if false = true then Eng.right else Eng.left) = false ∧ s3.dev.col.svcQ = [SvcReq.mk 2 (Caller.sleeve false) none_]) ∧
    (s4.dev.atRest ∧ s4.dev.collarRun ≠ Run.notStarted ∧ s4.dev.paired = false ∧ s4.dev.held = [] ∧ s4.dev.ecc = [] ∧
      (s4.dev.eng (if false = true then Eng.right else Eng.left)).wait = Wait.svc ∧
      s4.dev.runOf (if false = true then Eng.right else Eng.left) = Run.waiting ∧
      s4.dev.haltBit (if false = true then Eng.right else Eng.left) = false ∧ s4.dev.col.svcQ = [SvcReq.mk 1 (Caller.sleeve false) a7] ∧
      s4.dev.blockReady (BitVec.toNat (a7.getD 0 0) % 256) = false) := by
  unfold Dev.atRest Dev.untapped
  decide +kernel

end SleeveServices


namespace CollarEvents

def image : List (Nat × Word) :=
  [(0xB0000, 0x1A6E01000000000003), (0xB0001, 32), (0xB0002, 0x120040), (0xB0004, 0x67C4B5C181B0E43A), (0xB0005, 0x4CC281931A61F4E0),
   (0xB0006, 0x5645045315693AA6), (0xB0007, 0x9030CDE43BAF0429), (0xB0010, 5), (0xB0011, 0x12FD6), (0xB0012, 0x25FA7), (0xB0013, 0x38F78),
   (0xB0014, 0x4BF49), (0xB0015, 0x5EF1A), (0xB0016, 0x71EEB), (0xB0017, 0x84EBC), (0xB0018, 0x97E8D), (0xB0019, 0xAAE5E), (0xB001A, 0xBDE2F),
   (0xB001B, 0xD0E00), (0xB001C, 0xE3DD1), (0xB001D, 0xF6DA2), (0xB001E, 0x109D73), (0xB001F, 0x11CD44)]
def staged (d : Dev) (x : Session) : Dev := { d with mem := image, pocket := [(2, ⟨2, [1, 2, 3]⟩)], col := { Col.init with session := some x, aonLost := false } }
def x1 : Session := ⟨1, false, 100, 3, 0, true, .mailbox 255 false⟩
def x2 : Session := ⟨1, true, 32, 3, 0, true, .mailbox 7 true⟩
def x3 : Session := ⟨1, true, 100, 3, 0, true, .mailbox 7 false⟩
def x4 : Session := ⟨1, false, 100, 3, 0, false, .mailbox 7 false⟩
def tr : TrapRec := ⟨7, 5, 0, 0, 0, 0⟩
def s1 : State := ⟨[], { (staged (set up [(⟨F.COLLAR_POCKET, 71, 0⟩, 26)]) x1) with
  regs := [(F.SYS_MODE, 0x4101), (F.SYS_PADSTAT, 0x10000), (F.PWR_STAT, 111), (F.CLK_STAT, 25), (F.LOOP_STAT, 0x384000000001), (F.DBG_STAT, 17),
    (F.COLLAR_POCKET, 26)] }⟩
def s2 : State := still { staged (set up [(⟨F.COLLAR_POCKET, 71, 0⟩, 26)]) x1 with mem := [] }
def s3 : State := ⟨[], { (staged (set up [(⟨F.SYS_MODE, 71, 0⟩, 0x4105)]) x2) with
  regs := [(F.SYS_MODE, 0x4105), (F.SYS_PADSTAT, 0x10000), (F.PWR_STAT, 111), (F.CLK_STAT, 25), (F.LOOP_STAT, 0x384000000001), (F.DBG_STAT, 17)] }⟩
def s4 : State := ⟨[], { (staged (set up [(⟨F.SYS_MODE, 71, 0⟩, 0x4101)]) x3) with
  regs := [(F.SYS_MODE, 0x4101), (F.SYS_PADSTAT, 0x10000), (F.PWR_STAT, 111), (F.CLK_STAT, 25), (F.LOOP_STAT, 0x384000000001), (F.DBG_STAT, 17)] }⟩
def s5 : State := ⟨[], { (staged (set up [(⟨F.TIDE_SEC, 71, 0⟩, 0xE10000000)]) x4) with
  regs := [(F.SYS_MODE, 0x4101), (F.SYS_PADSTAT, 0x10000), (F.PWR_STAT, 111), (F.CLK_STAT, 25), (F.TIDE_SEC, 0xE10000000),
    (F.LOOP_STAT, 0x384000000001), (F.DBG_STAT, 17)] }⟩
def s6 : State := still { set up [(⟨F.DBG_STAT, 71, 0⟩, 20), (⟨F.COLLAR_CHTAB, 71, 0⟩, 57)] with engL := { EngState.init 0 with ia := 0x120000, trap := some tr } }
def s7 : State := still { set up [(⟨F.SEAM_REC 9, 71, 0⟩, 0x9000016)] with revertDue := [9], held := [(7, 0), (7, 1)] }

theorem test_witness_CollarEvents :
    (s1.dev.atRest ∧
      (s1.dev.col.session = some x1 ∧ x1.verifying = true ∧ x1.trusted = false) ∧
      (s1.dev.col.session = some x1 ∧ s1.dev.seconds < x1.last + 3600) ∧
      (s1.dev.revertDue = [])) ∧
    (s2.dev.atRest ∧ s2.dev.col.session = some x1 ∧ x1.verifying = true ∧ x1.trusted = false ∧ s2.dev.imgFails s2.dev.inactive true ≠ none) ∧
    (s3.dev.atRest ∧ s3.dev.col.session = some x2 ∧ x2.verifying = true ∧ x2.trusted = true ∧ s3.dev.mode = 5) ∧
    (s4.dev.atRest ∧ s4.dev.col.session = some x3 ∧ x3.verifying = true ∧ x3.trusted = true ∧
      (if s4.dev.mode = 5 then Config.trustedImage (s4.dev.keyAt 1).key (s4.dev.loadAll (imgBase s4.dev.inactive) x3.total) else none) = none) ∧
    (s5.dev.atRest ∧
      ((∀ (x : Session), s5.dev.col.session = some x → x.verifying = false)) ∧
      (s5.dev.col.session = some x4 ∧ x4.last + 3600 ≤ s5.dev.seconds)) ∧
    (s6.dev.atRest ∧ s6.dev.mode ≠ 7 ∧ (s6.dev.eng (if false = true then Eng.right else Eng.left)).trap = some tr ∧
      s6.dev.runOf (if false = true then Eng.right else Eng.left) = Run.trapped ∧ tr.cause ∈ [1, 2, 3, 4, 6, 7, 8] ∧
      s6.dev.sleeveUp (Eng.twin (if false = true then Eng.right else Eng.left)) = true ∧ s6.dev.held = [] ∧ s6.dev.quiesce.now = none ∧
      s6.dev.paired = false ∧ s6.dev.col.actStep = none ∧ s6.dev.col.actCycle = none ∧ s6.dev.col.faults = [] ∧ s6.dev.col.retireDue = []) ∧
    (s7.dev.atRest ∧ 9 < 256 ∧ s7.dev.revertDue = [9] ∧ s7.dev.heldOwner (s7.dev.owner 9) = true) := by
  have e : s5.dev.col.session = some x4 := by decide +kernel
  unfold Dev.atRest Dev.untapped
  simp only [e, Option.some.injEq, forall_eq']
  decide +kernel

/-- The other two hypotheses are of free functions: the image in `s1` verifies where its signature does and the image floor stands at its first
word, and the trusted image in `s3` where the free function gives it a version. -/
theorem test_witness_CollarEvents_verified
    (h : Config.ecdsaOk (s1.dev.keyAt 2).key (sha256 (wordsBytes (s1.dev.loadAll (imgBase s1.dev.inactive) 8))) (s1.dev.imgBytes s1.dev.inactive 8 8) = true)
    (f : Config.imageFloorAt = 0) : s1.dev.imgFails s1.dev.inactive true = none := by
  simp only [Dev.imgFails, h, f]
  decide +kernel

theorem test_witness_CollarEvents_trusted (h : Config.trustedImage (s3.dev.keyAt 1).key (s3.dev.loadAll (imgBase s3.dev.inactive) x2.total) = some 7) :
    (if s3.dev.mode = 5 then Config.trustedImage (s3.dev.keyAt 1).key (s3.dev.loadAll (imgBase s3.dev.inactive) x2.total) else none) ≠ none := by
  rw [h]
  decide +kernel

end CollarEvents


namespace StartStages

def obs : LabelObs := ⟨0, List.replicate 64 0, List.replicate 64 0, List.replicate 32 0, List.replicate 32 0⟩
def b : BoundaryObs := ⟨⟨12000, 5000, 3300, 100, some 5, 300⟩, 10, 20, 4000, ⟨[], []⟩⟩
def fb : FbMeas := ⟨[], []⟩
def image : List (Nat × Word) :=
  [(0x90000, 0x1A6E01000000000003), (0x90001, 32), (0x90002, 0x120040), (0x90004, 0x67C4B5C181B0E43A), (0x90005, 0x4CC281931A61F4E0),
   (0x90006, 0x5645045315693AA6), (0x90007, 0x9030CDE43BAF0429), (0x90010, 5), (0x90011, 0x12FD6), (0x90012, 0x25FA7), (0x90013, 0x38F78),
   (0x90014, 0x4BF49), (0x90015, 0x5EF1A), (0x90016, 0x71EEB), (0x90017, 0x84EBC), (0x90018, 0x97E8D), (0x90019, 0xAAE5E), (0x9001A, 0xBDE2F),
   (0x9001B, 0xD0E00), (0x9001C, 0xE3DD1), (0x9001D, 0xF6DA2), (0x9001E, 0x109D73), (0x9001F, 0x11CD44)]
def cold : Dev := { up with regs := [], sup := Supply.init, engC := EngState.init 0, engL := EngState.init 0, engR := EngState.init 0, collarRun := 0, loop := Loop.init }
def three (start : Nat) : Dev := set up [(⟨F.SYS_MODE, 71, 0⟩, 0x3101), (⟨F.SYS_START, 71, 0⟩, start), (⟨F.COLLAR_POCKET, 71, 0⟩, 26)]
def s1 : State := ⟨[], { cold with
  regs := [] }⟩
def s2 : State := still { set cold [(⟨F.SYS_MODE, 71, 0⟩, 0x1000), (⟨F.SYS_PADSTAT, 71, 0⟩, 0x10000), (⟨F.PWR_STAT, 71, 0⟩, 5), (⟨F.CLK_STAT, 71, 0⟩, 16)] with sup := { Supply.init with loopp := 12000, vpool := 2500 }, loop := up.loop }
def s3 : State := still { three 0x300000000 with mem := image, pocket := [(2, ⟨2, [1, 2, 3]⟩)], col := { up.col with fb := true } }
def s4 : State := ⟨[], { (set (three 0x300000000) [(F.COLLAR_IMG_VALA, 1)]) with
  regs := [(F.SYS_MODE, 0x3101), (F.SYS_START, 0x300000000), (F.SYS_PADSTAT, 0x10000), (F.PWR_STAT, 111), (F.CLK_STAT, 25),
    (F.LOOP_STAT, 0x384000000001), (F.DBG_STAT, 17), (F.COLLAR_IMG, 8), (F.COLLAR_POCKET, 26)] }⟩
def s5 : State := still { three 0x340000000 with col := { up.col with fb := true } }

theorem test_witness_StartStages :
    (s1.dev.atRest ∧ s1.dev.get F.SYS_MODE_STAGE = 0 ∧
      (s1.dev.battery = false ∧ 8000 ≤ 8000 ∧ s1.dev.sup.latch ≠ some true) ∧
      (2900 < 8000 ∧ s1.dev.sup.latch ≠ some false ∧ s1.dev.sup.cellStart = false)) ∧
    (s2.dev.atRest ∧ s2.dev.stageTwoReady = true ∧ (s2.dev.sup.cellStart = true → s2.dev.sup.latch ≠ none)) ∧
    (s3.dev.atRest ∧ s3.dev.get F.SYS_MODE_STAGE = 3 ∧
      (s3.dev.loop.firstFb = false ∧ s3.dev.col.fb = true) ∧
      (s3.dev.mode ≠ 7 ∧ s3.dev.col.shut = none ∧ s3.dev.ecc = []) ∧
      (s3.dev.mode ≠ 7 ∧ s3.dev.get F.SYS_START_QSR ≠ 0 ∧ s3.dev.sup.startLoss = none ∧ s3.dev.ecc = [])) ∧
    (s4.dev.atRest ∧
      (s4.dev.get F.SYS_MODE_STAGE = 3 ∧ s4.dev.mode ≠ 7 ∧ s4.dev.col.shut = none ∧ s4.dev.ecc = [] ∧
        s4.dev.imgFails (if s4.dev.imgFails s4.dev.col.marked false = none then s4.dev.col.marked else !s4.dev.col.marked) false ≠ none) ∧
      (s4.dev.boundaryOk = true ∧ s4.dev.get F.SYS_MODE_STAGE = 3 ∧ s4.dev.mode ≠ 7 ∧ s4.dev.imgVal (s4.dev.activeOf false) = true ∧
        s4.dev.sup.startLoss = none)) := by
  unfold Dev.atRest Dev.untapped
  decide +kernel

/-- The last hypothesis is of a free function: the image in `s3` verifies where its signature does. -/
theorem test_witness_StartStages_verified
    (h : Config.ecdsaOk (s3.dev.keyAt 2).key (sha256 (wordsBytes (s3.dev.loadAll (imgBase s3.dev.col.marked) 8))) (s3.dev.imgBytes s3.dev.col.marked 8 8)
      = true) :
    s3.dev.imgFails (if s3.dev.imgFails s3.dev.col.marked false = none then s3.dev.col.marked else !s3.dev.col.marked) false = none := by
  have e : s3.dev.imgFails s3.dev.col.marked false = none := by
    simp only [Dev.imgFails, h]
    decide +kernel
  rw [if_pos e, e]

end StartStages


namespace ResetsAndShutdownEnd

def x0 : Shutdown := ⟨3, 1, false, 4, true⟩
def x1 : Shutdown := ⟨2, 4, false, 4, false⟩
def more : Dev := { set up [(⟨F.SYS_RST, 71, 0⟩, 512), (⟨F.TIDE_TICKS, 71, 0⟩, 0x60000), (⟨F.TIDE_SEC, 71, 0⟩, 0xE10000000), (⟨F.MET_CH_DESC 1, 71, 0⟩, 1)] with
  mem := [(0x10005, 77), (0x80005, 88)], pocket := [(0, ⟨0, [1, 2, 3]⟩)] }
def s1 : State := still { more with col := { Col.init with shut := some x0, aonLost := false } }
def s2 : State := still { more with col := { Col.init with shut := some x1, aonLost := false }, sup := { Supply.init with loopp := 5000, vpool := 3600, vcell := 3600 } }
def s3 : State := still { more with col := { Col.init with shut := some x1, aonLost := false } }

theorem test_witness_ResetsAndShutdownEnd :
    (s1.dev.atRest ∧
      (s1.dev.get F.SYS_MODE_STAGE ≠ 0) ∧
      (s1.dev.get F.SYS_MODE_STAGE ≠ 0 ∧ 2 ≤ s1.dev.get F.SYS_MODE_STAGE ∧ s1.dev.col.wdTick + 393216 ≤ s1.dev.get F.TIDE_TICKS_TICKS) ∧
      (s1.dev.col.shut = some x0 ∧ (∀ (i : Nat), i ∈ [] → ¬i ∈ s1.dev.shutItems) ∧ x0.noD = false ∧ x0.cause < 256 ∧ x0.mode < 256)) ∧
    (s2.dev.atRest ∧ s2.dev.col.shut = some x1 ∧ x1.noD = false ∧ x1.restart = false ∧ s2.dev.sup.loopp < 8000) ∧
    (s3.dev.atRest ∧ s3.dev.col.shut = some x1 ∧ 8000 ≤ s3.dev.sup.loopp ∧ s3.dev.sup.latch ≠ some true) := by
  unfold Dev.atRest Dev.untapped
  decide +kernel

end ResetsAndShutdownEnd


namespace SupplyLossesAndBoundaries

def fb : FbMeas := ⟨[], []⟩
def b : BoundaryObs := ⟨⟨12000, 5000, 3300, 100, some 5, 300⟩, 10, 20, 4000, ⟨[], []⟩⟩
def t1 (d : Dev) (src cnt : Nat) : Dev := set d [(F.TMR_CFG_EN 1, 1), (F.TMR_CFG_SRC 1, src), (F.TMR_STAT_RUN 1, 1), (⟨F.TMR_CNT 1, 71, 0⟩, cnt)]
def s1 : State := ⟨[], { (t1 (set up [(⟨F.COLLAR_CYCLE, 71, 0⟩, 0xFFFFFFFFFFFF)]) 1 0) with
  regs := [(F.SYS_MODE, 0x4101), (F.SYS_PADSTAT, 0x10000), (F.PWR_STAT, 111), (F.CLK_STAT, 25), (F.TMR_CFG 1, 7), (F.TMR_STAT 1, 1),
    (F.LOOP_STAT, 0x384000000001), (F.DBG_STAT, 17), (F.COLLAR_CYCLE, 0xFFFFFFFFFFFF)] }⟩
def s2 : State := still { set up [(⟨F.SYS_MODE, 71, 0⟩, 0x4404)] with loop := Loop.init }
def s3 : State := ⟨[], { (set up [(⟨F.PWR_CFG, 71, 0⟩, 272)]) with
  regs := [(F.SYS_MODE, 0x4101), (F.SYS_PADSTAT, 0x10000), (F.PWR_CFG, 272), (F.PWR_STAT, 111), (F.CLK_STAT, 25), (F.LOOP_STAT, 0x384000000001),
    (F.DBG_STAT, 17)] }⟩
def s4 : State := ⟨[], { (set up [(⟨F.SYS_MODE, 71, 0⟩, 0x3101), (⟨F.SYS_START, 71, 0⟩, 0x300000000)]) with
  regs := [(F.SYS_MODE, 0x3101), (F.SYS_START, 0x300000000), (F.SYS_PADSTAT, 0x10000), (F.PWR_STAT, 111), (F.CLK_STAT, 25),
    (F.LOOP_STAT, 0x384000000001), (F.DBG_STAT, 17)] }⟩
def s5 : State := still { set up [(⟨F.SYS_MODE, 71, 0⟩, 0x4404), (⟨F.PWR_STAT, 71, 0⟩, 110)] with loop := Loop.init }
def s6 : State := ⟨[], { (t1 up 1 131071) with
  regs := [(F.SYS_MODE, 0x4101), (F.SYS_PADSTAT, 0x10000), (F.PWR_STAT, 111), (F.CLK_STAT, 25), (F.TMR_CFG 1, 7), (F.TMR_CNT 1, 0x1FFFF),
    (F.TMR_STAT 1, 1), (F.LOOP_STAT, 0x384000000001), (F.DBG_STAT, 17)] }⟩

theorem test_witness_SupplyLossesAndBoundaries :
    (s6.dev.atRest ∧ s6.dev.col.shut = none ∧
      (s6.dev.flag F.PWR_STAT_VIN_OK = true ∧ 0 < 7500 ∧ 2 ≤ s6.dev.get F.SYS_MODE_STAGE ∧ s6.dev.get F.SYS_MODE_STAGE = 4 ∧
        (s6.dev.mode = 1 ∨ s6.dev.mode = 2) ∧ s6.dev.usableCell = false ∧ s6.dev.reserveAt 16000 = true) ∧
      (0 < 2200 + 50 * s6.dev.get F.PWR_CELL_DEAD ∧ s6.dev.onCell = false) ∧
      (s6.dev.boundaryOk = true ∧ s6.dev.flag (F.TMR_STAT_RUN 1) = true ∧ s6.dev.get (F.TMR_ACT_M0S 1) = 1 ∧
        bitsOf (s6.dev.reg (F.TMR_CMP1 1)) 47 0 = 0 ∧ 0 < s6.dev.wake.stepAdd 1 0) ∧
      (s6.dev.boundaryOk = true ∧ s6.dev.flag (F.TMR_STAT_RUN 1) = true ∧ s6.dev.get (F.TMR_ACT_M0S 1) = 1 ∧
        bitsOf (s6.dev.reg (F.TMR_CMP1 1)) 47 0 = 0 ∧ s6.dev.get (F.TMR_CFG_SRC 1) = 1 ∧ s6.dev.links = [] ∧
        s6.dev.tmrCount 1 < bitsOf (s6.dev.reg (F.TMR_CMP0 1)) 47 0 ∧
        bitsOf (s6.dev.reg (F.TMR_CMP0 1)) 47 0 * 2 ^ 32 ≤ s6.dev.tmrCount 1 * 2 ^ 32 + (s6.dev.ch 1).frac + 1 * s6.dev.stepAdd 1 1)) ∧
    (s1.dev.atRest ∧ s1.dev.col.shut = none ∧ s1.dev.boundaryOk = true ∧ (Master.collar = Master.collar ∨ s1.dev.mode = 5) ∧
      s1.dev.admits Master.collar (F.TMR_CMD 1) ∧ bitsOf 7 2 2 = 1) ∧
    (s2.dev.atRest ∧ s2.dev.col.shut = none ∧
      (0 < 2200 + 50 * s2.dev.get F.PWR_CELL_DEAD ∧ s2.dev.onCell = true ∧ s2.dev.get F.SYS_MODE_STAGE = 4 ∧ s2.dev.reserveAt 16000 = true) ∧
      (s2.dev.mode = 4 ∧ s2.dev.flag F.PWR_STAT_VIN_OK = true)) ∧
    (s3.dev.atRest ∧ s3.dev.col.shut = none ∧ s3.dev.flag F.PWR_STAT_VIN_OK = true ∧ 7499 < 7500 ∧ 2 ≤ s3.dev.get F.SYS_MODE_STAGE ∧
      s3.dev.get F.SYS_MODE_STAGE = 4 ∧ (s3.dev.mode = 1 ∨ s3.dev.mode = 2) ∧ s3.dev.usableCell = true) ∧
    (s4.dev.atRest ∧ s4.dev.col.shut = none ∧ s4.dev.flag F.PWR_STAT_VIN_OK = true ∧ 7499 < 7500 ∧ 2 ≤ s4.dev.get F.SYS_MODE_STAGE ∧
      s4.dev.get F.SYS_MODE_STAGE < 4 ∧ s4.dev.mode ≠ 7) ∧
    (s5.dev.atRest ∧ s5.dev.col.shut = none ∧ s5.dev.mode = 4 ∧ s5.dev.flag F.PWR_STAT_VIN_OK = false ∧ 8000 ≤ 8000) := by
  unfold Dev.atRest Dev.untapped Dev.admits
  decide +kernel

end SupplyLossesAndBoundaries


namespace TdcEvents

def win : Dev := set { up with slack := { Slack.init with cur := ⟨false, 777⟩ } } [(⟨F.CLK_SLKSTAT, 71, 0⟩, 3)]
def job : TdcJob := ⟨.tp 3, false, .extref, true, none, 0, false, 1, 7, 3, true, true, false, false, 0, [], [], 0, 0, 0, 0, 0, 0⟩
def job2 : TdcJob := { job with block := 8, n := 1, list := false }
def tried : TdcJob := { job with tries := 1 }
def flowJob : TdcJob := ⟨.tp 3, false, .extref, true, none, 0, false, 1, 0, 2, true, false, false, false, 2, [], [], 0, 0, 0, 0, 0, 0⟩
def cald : TdcUnit := { TdcUnit.init with cal := true, lamS := (5000, 7), lamP := (5000, 7), t := (10416, 1) }
def noJobs : List TdcJob := []
def o : CalObs := ⟨List.replicate 20 (5, 6010), List.replicate 20 (5, 6020), none⟩
def s1 : State := still { win with tdcA := { TdcUnit.init with queue := [job] } }
def s2 : State := still { win with tdcA := { cald with queue := [job] } }
def s3 : State := still { win with tdcA := { cald with queue := [tried, job2], pair := some 17, startT := (10416, 1), hist := [win.clkSet] } }
def s4 : State := still { (set up [(F.SEAM_REC_OWNER 0, Own.tdc)]) with tdcA := { TdcUnit.init with queue := [flowJob], pair := some 17, hist := [up.clkSet] } }
def s5 : State := still { win with tdcA := { cald with dpS := (2000, 3), dpP := (650, 1) } }

theorem test_witness_TdcEvents :
    (s1.dev.atRest ∧ s1.dev.held = [] ∧ s1.dev.flag F.CLK_SLKSTAT_OPEN = true ∧ (s1.dev.tdc ↑0).cal = false ∧ (s1.dev.tdc ↑0).fenced = false ∧
      s1.dev.tdcBusy ↑0 = true ∧ s1.dev.bist.calBad = [] ∧ ¬9 + ↑0 ∈ s1.dev.bist.qcal ∧ s1.dev.get (F.TDC_CFG_CALN ↑0) ≤ o.start.length ∧
      s1.dev.get (F.TDC_CFG_CALN ↑0) ≤ o.stop.length ∧ ((s1.dev.flag (F.TDC_CFG_TBASE ↑0) && s1.dev.clk.xrefTdc) = true → o.xref ≠ none)) ∧
    (s2.dev.atRest ∧ s2.dev.held = [] ∧ (s2.dev.tdc ↑0).queue = job :: noJobs ∧ s2.dev.tdcReady ↑0 = true ∧
      ((EdgeSrc.tp 3 = EdgeSrc.usf ∨ s2.dev.pads.lost = false) ∧
        ((fun want fall => EdgeSrc.tp 3 = want ∧ (EdgeSrc.tp 3 = EdgeSrc.usf ∨ true = !fall)) job.startSrc job.startFall)) ∧
      ((¬(fun want fall => EdgeSrc.extref = want ∧ (EdgeSrc.extref = EdgeSrc.usf ∨ false = !fall)) job.startSrc job.startFall)) ∧
      ((EdgeSrc.extref = EdgeSrc.usf ∨ s2.dev.pads.lost = false) ∧
        ((fun want fall => EdgeSrc.extref = want ∧ (EdgeSrc.extref = EdgeSrc.usf ∨ false = !fall)) job.stopSrc job.stopFall))) ∧
    (s3.dev.atRest ∧ s3.dev.held = [] ∧ (s3.dev.tdc ↑0).queue = [tried, job2] ∧ (s3.dev.tdc ↑0).pair = some 17 ∧
      ((EdgeSrc.extref = EdgeSrc.usf ∨ s3.dev.pads.lost = false) ∧
        ((fun want fall => EdgeSrc.extref = want ∧ (EdgeSrc.extref = EdgeSrc.usf ∨ false = !fall)) tried.stopSrc tried.stopFall) ∧
        (s3.dev.flag F.CLK_SLKSTAT_OPEN = true → (s3.dev.tdc ↑0).cal = true) ∧ tried.win = true ∧ tried.tries < tried.n ∧ tried.usf = none ∧
        (s3.dev.tdc ↑0).act = none ∧ (s3.dev.tdc ↑0).lamS = (s3.dev.tdc ↑0).lamP ∧
        (fun n m l => 0 < l.fst ∧ 0 < l.snd ∧ (2 * n + 1) * l.snd < 2048 * l.fst ∧ (2 * m + 1) * l.snd < 2048 * l.fst) 17 0 (s3.dev.tdc ↑0).lamS ∧
        0 < (s3.dev.tdc ↑0).t.snd ∧ 0 < 5 ∧ 5 < 2 ^ 24) ∧
      ((¬(fun want fall => EdgeSrc.usf = want ∧ (EdgeSrc.usf = EdgeSrc.usf ∨ false = !fall)) tried.stopSrc tried.stopFall))) ∧
    (s4.dev.atRest ∧ s4.dev.held = [] ∧ (s4.dev.tdc ↑0).queue = flowJob :: noJobs ∧ (s4.dev.tdc ↑0).pair = some 17 ∧ flowJob.win = false ∧
      noJobs = [] ∧ flowJob.usf = none ∧ flowJob.who = Own.sleeveL ∧ flowJob.block < 256 ∧ s4.dev.owner flowJob.block = Own.tdc) ∧
    (s5.dev.atRest ∧ s5.dev.held = [] ∧ s5.dev.flag F.CLK_SLKSTAT_OPEN = true ∧ s5.dev.get F.CLK_STAT_SRC ≠ 2 ∧ (s5.dev.tdc ↑0).cal = true ∧
      (s5.dev.tdc ↑0).pair = none ∧ (s5.dev.tdc ↑0).queue = [] ∧ (s5.dev.tdc ↑0).dither < 64 * s5.dev.get (F.TDC_CFG_DMAX ↑0)) := by
  unfold Dev.atRest Dev.untapped
  decide +kernel

end TdcEvents


namespace ShotEvents

def base : Dev := { up with sup := { Supply.init with loopp := 12000, vpool := 3600, vcell := 3600, filled := true }, loop := { Loop.init with y := (4000, 1) } }
def win : Dev := set { base with slack := { Slack.init with cur := ⟨false, 777⟩ } } [(⟨F.CLK_SLKSTAT, 71, 0⟩, 3)]
def low : Dev := { win with sup := { Supply.init with loopp := 12000, vpool := 2900, vcell := 3600, filled := true }, loop := { Loop.init with y := (4000, 1) } }
def r : UsfReq := ⟨6, 7, 0, false, true, 0, 1, 1, 0, 1, false, 1, 0, []⟩
def x : Shot := ⟨5, 0, false, false, false, 100, 0⟩
def fl : TestShot := ⟨true, 50, some (2000, 3, 5)⟩
def no : TestShot := ⟨false, 0, none⟩
def lostPath (k : Nat) (d : Dev) : Dev := set (d.onUsf (fun u => { u with paths := [(0, ⟨0, k, 64, false, 0, 0, [], []⟩)] })) [(F.USF_STAT_LOST, 1)]
def units (d : Dev) : Dev :=
  let t : TdcUnit := { TdcUnit.init with cal := true, lamS := (5000, 7), lamP := (5000, 7), t := (10416, 1) }
  { d with tdcA := t, tdcB := t }
def zw : List (Nat × List (Int × Nat)) := [(0, List.replicate 9 (12345678, 3))]
def s1 : State := ⟨[], { (base.onUsf (fun u => { u with shot := some x })) with
  regs := [(F.SYS_MODE, 0x4101), (F.SYS_PADSTAT, 0x10000), (F.PWR_STAT, 111), (F.CLK_STAT, 25), (F.LOOP_STAT, 0x3E8000000005), (F.DBG_STAT, 17)] }⟩
def s2 : State := ⟨[], { (win.onUsf (fun u => { u with queue := [r] })) with
  regs := [(F.SYS_MODE, 0x4101), (F.SYS_PADSTAT, 0x10000), (F.PWR_STAT, 111), (F.CLK_STAT, 25), (F.CLK_SLKSTAT, 3), (F.USF_STAT, 0xF0001),
    (F.LOOP_STAT, 0x3E8000000005), (F.DBG_STAT, 17)] }⟩
def s3 : State := ⟨[], { (low.onUsf (fun u => { u with queue := [r] })) with
  regs := [(F.SYS_MODE, 0x4101), (F.SYS_PADSTAT, 0x10000), (F.PWR_STAT, 109), (F.CLK_STAT, 25), (F.CLK_SLKSTAT, 3), (F.USF_STAT, 0xF0001),
    (F.LOOP_STAT, 0x3E8000000005), (F.DBG_STAT, 17)] }⟩
def s4 : State := ⟨[], { (lostPath 0 (units win)) with
  regs := [(F.SYS_MODE, 0x4101), (F.SYS_PADSTAT, 0x10000), (F.PWR_STAT, 111), (F.CLK_STAT, 25), (F.CLK_SLKSTAT, 3), (F.TDC_STAT 0, 36),
    (F.TDC_STAT 1, 36), (F.USF_STAT, 0xF1000), (F.LOOP_STAT, 0x3E8000000005), (F.DBG_STAT, 17)] }⟩
def s5 : State := ⟨[], { (lostPath 3 (units win)) with
  regs := [(F.SYS_MODE, 0x4101), (F.SYS_PADSTAT, 0x10000), (F.PWR_STAT, 111), (F.CLK_STAT, 25), (F.CLK_SLKSTAT, 3), (F.TDC_STAT 0, 36),
    (F.TDC_STAT 1, 36), (F.USF_STAT, 0xF1000), (F.LOOP_STAT, 0x3E8000000005), (F.DBG_STAT, 17)] }⟩
def s6 : State := ⟨[], { (lostPath 3 (units low)) with
  regs := [(F.SYS_MODE, 0x4101), (F.SYS_PADSTAT, 0x10000), (F.PWR_STAT, 109), (F.CLK_STAT, 25), (F.CLK_SLKSTAT, 3), (F.TDC_STAT 0, 36),
    (F.TDC_STAT 1, 36), (F.USF_STAT, 0xF1000), (F.LOOP_STAT, 0x3E8000000005), (F.DBG_STAT, 17)] }⟩
def s7 : State := ⟨[], { (set (base.onUsf (fun u => { u with zMask := 1 })) [(F.SYS_MODE_MODE, 5), (F.USF_ZCTL_NZ, 20)]) with
  regs := [(F.SYS_MODE, 0x4105), (F.SYS_PADSTAT, 0x10000), (F.PWR_STAT, 111), (F.CLK_STAT, 25), (F.USF_ZCTL, 0x14140), (F.LOOP_STAT, 0x3E8000000005),
    (F.DBG_STAT, 17)] }⟩
def s8 : State := ⟨[], { (set (base.onUsf (fun u => { u with zMask := 1, zw := zw })) [(F.SYS_MODE_MODE, 5), (F.USF_ZCTL_NZ, 16)]) with
  regs := [(F.SYS_MODE, 0x4105), (F.SYS_PADSTAT, 0x10000), (F.PWR_STAT, 111), (F.CLK_STAT, 25), (F.USF_ZCTL, 0x14100), (F.LOOP_STAT, 0x3E8000000005),
    (F.DBG_STAT, 17)] }⟩

theorem test_witness_ShotEvents :
    (s1.dev.atRest ∧ s1.dev.held = [] ∧ s1.dev.usf.shot = some x ∧ x.path = ↑0 ∧
      (x.wave = false ∧ (∀ (q : UsfReq), q ∈ s1.dev.usf.queue → q.orphan = false) ∧ x.got = false) ∧
      (x.wave = false ∧ (∀ (q : UsfReq), q ∈ s1.dev.usf.queue → q.orphan = false) ∧ (∀ (q : UsfReq), q ∈ s1.dev.usf.queue → q.id ≠ x.id)) ∧
      (s1.dev.bit F.USF_STAT_LOST ↑0 = false ∧ s1.dev.usf.queue = [] ∧ s1.dev.radio.lost = false)) ∧
    (s2.dev.atRest ∧ s2.dev.held = [] ∧ s2.dev.flag F.CLK_SLKSTAT_OPEN = true ∧ s2.dev.usf.shot = none ∧ s2.dev.usfNext 10000 = some r ∧
      (r.wave && r.orphan) = false ∧ s2.dev.shotOk = true ∧ s2.dev.slotPassed r.path 10000 = true ∧
      (r.wave = true ∨ (s2.dev.tdc r.unit).cal = true ∧ (s2.dev.tdc r.unit).pair = none)) ∧
    (s3.dev.atRest ∧ s3.dev.held = [] ∧ s3.dev.flag F.CLK_SLKSTAT_OPEN = true ∧ s3.dev.usf.shot = none ∧ s3.dev.usfNext 10000 = some r ∧
      (r.wave && r.orphan) = false ∧ s3.dev.shotOk = false) ∧
    (s4.dev.atRest ∧ s4.dev.held = [] ∧ s4.dev.bit F.USF_STAT_LOST ↑0 = true ∧ 64 ≤ (s4.dev.pathSt ↑0).age ∧ s4.dev.flag F.CLK_SLKSTAT_OPEN = true ∧
      s4.dev.usf.shot = none ∧ s4.dev.testRoom (↑0) 10000 = true ∧ s4.dev.shotOk = true ∧ s4.dev.testReady false = true ∧
      s4.dev.testReady true = true ∧ (fun short => s4.dev.testGot false fl = true ∧ s4.dev.testGot true fl = true ∧ short = false) false ∧
      (s4.dev.pathSt ↑0).tests < 3) ∧
    (s5.dev.atRest ∧ s5.dev.held = [] ∧ s5.dev.bit F.USF_STAT_LOST ↑0 = true ∧ 64 ≤ (s5.dev.pathSt ↑0).age ∧ s5.dev.flag F.CLK_SLKSTAT_OPEN = true ∧
      s5.dev.usf.shot = none ∧ s5.dev.testRoom (↑0) 10000 = true ∧ s5.dev.shotOk = true ∧ s5.dev.testReady false = true ∧
      s5.dev.testReady true = true ∧
      ((fun short => s5.dev.testGot false fl = true ∧ s5.dev.testGot true fl = true ∧ short = false) false ∧ 3 ≤ (s5.dev.pathSt ↑0).tests) ∧
      (¬(fun short => s5.dev.testGot false fl = true ∧ s5.dev.testGot true no = true ∧ short = false) true)) ∧
    (s6.dev.atRest ∧ s6.dev.held = [] ∧ s6.dev.bit F.USF_STAT_LOST ↑0 = true ∧ 64 ≤ (s6.dev.pathSt ↑0).age ∧ s6.dev.flag F.CLK_SLKSTAT_OPEN = true ∧
      s6.dev.usf.shot = none ∧ s6.dev.testRoom (↑0) 10000 = true ∧ s6.dev.shotOk = false) ∧
    (s7.dev.atRest ∧ s7.dev.held = [] ∧ s7.dev.usf.zMask = 2 ^ ↑0 ∧ s7.dev.usf.zLeft = 0 ∧ s7.dev.label.zeroDue = false ∧
      2 * (Store.get (fun x => []) s7.dev.usf.zw ↑0).length < s7.dev.get F.USF_ZCTL_NZ) ∧
    (s8.dev.atRest ∧ s8.dev.held = [] ∧ s8.dev.usf.zMask = 2 ^ ↑0 ∧ s8.dev.usf.zLeft = 0 ∧ s8.dev.label.zeroDue = false ∧
      s8.dev.get F.USF_ZCTL_NZ ≤ 2 * (Store.get (fun x => []) s8.dev.usf.zw ↑0).length ∧
      (zeroResult (Store.get (fun x => []) s8.dev.usf.zw ↑0) (s8.dev.get F.USF_ZCTL_ZSD)).snd = true ∧ s8.dev.keyUsable 3 0 = false) := by
  unfold Dev.atRest Dev.untapped
  decide +kernel

end ShotEvents


namespace ConversionEvents

def base : Dev := set up [(⟨F.ADC_CFG, 71, 0⟩, 0x33210), (⟨F.ADC_IN 4, 71, 0⟩, 0xFFF000000001300000), (⟨F.ADC_IN 5, 71, 0⟩, 0xFFF000000001100000),
  (F.SEAM_REC_OWNER 255, Own.adc), (F.SEAM_REC_OWNER 7, Own.adc)]
def one : AdcReq := ⟨255, 4, 0, 1, 1, false, false, [], 0⟩
def three : AdcReq := ⟨7, 4, 0, 3, 1, false, false, [(0, 3)], 0⟩
def rtd : AdcReq := ⟨7, 5, 0, 2, 1, false, false, [], 0⟩
def s1 : State := ⟨[], { (base.onAdc (fun a => { a with queue := [one], runA := some false })) with
  regs := [(F.SYS_MODE, 0x4101), (F.SYS_PADSTAT, 0x10000), (F.PWR_STAT, 111), (F.CLK_STAT, 25), (F.SEAM_REC 7, 0x70000F8),
    (F.SEAM_REC 255, 0xFF0000F8), (F.ADC_CFG, 0x33210), (F.ADC_IN 4, 0xFFF000000001300000), (F.ADC_IN 5, 0xFFF000000001100000), (F.ADC_STAT, 33),
    (F.LOOP_STAT, 0x384000000001), (F.DBG_STAT, 17)] }⟩
def s2 : State := ⟨[], { (base.onAdc (fun a => { a with queue := [one, three], runA := none })) with
  regs := [(F.SYS_MODE, 0x4101), (F.SYS_PADSTAT, 0x10000), (F.PWR_STAT, 111), (F.CLK_STAT, 25), (F.SEAM_REC 7, 0x70000F8),
    (F.SEAM_REC 255, 0xFF0000F8), (F.ADC_CFG, 0x33210), (F.ADC_IN 4, 0xFFF000000001300000), (F.ADC_IN 5, 0xFFF000000001100000), (F.ADC_STAT, 18),
    (F.LOOP_STAT, 0x384000000001), (F.DBG_STAT, 17)] }⟩
def s3 : State := ⟨[], { (base.onAdc (fun a => { a with queue := [three], runA := some true })) with
  regs := [(F.SYS_MODE, 0x4101), (F.SYS_PADSTAT, 0x10000), (F.PWR_STAT, 111), (F.CLK_STAT, 25), (F.SEAM_REC 7, 0x70000F8),
    (F.SEAM_REC 255, 0xFF0000F8), (F.ADC_CFG, 0x33210), (F.ADC_IN 4, 0xFFF000000001300000), (F.ADC_IN 5, 0xFFF000000001100000), (F.ADC_STAT, 33),
    (F.LOOP_STAT, 0x384000000001), (F.DBG_STAT, 17)] }⟩
def s4 : State := ⟨[], { (base.onAdc (fun a => { a with queue := [rtd], runA := some false })) with
  regs := [(F.SYS_MODE, 0x4101), (F.SYS_PADSTAT, 0x10000), (F.PWR_STAT, 111), (F.CLK_STAT, 25), (F.SEAM_REC 7, 0x70000F8),
    (F.SEAM_REC 255, 0xFF0000F8), (F.ADC_CFG, 0x33210), (F.ADC_IN 4, 0xFFF000000001300000), (F.ADC_IN 5, 0xFFF000000001100000), (F.ADC_STAT, 33),
    (F.LOOP_STAT, 0x384000000001), (F.DBG_STAT, 17)] }⟩

theorem test_witness_ConversionEvents :
    (s1.dev.atRest ∧ s1.dev.held = [] ∧
      (s1.dev.adcHead ↑0 = some one ∧ one.orphan = false ∧ s1.dev.adcRun ↑0 = some false ∧ s1.dev.flag F.CLK_SLKSTAT_OPEN = false ∧ -2 ^ 35 ≤ -7 ∧
        -7 < 2 ^ 35 ∧ needsExc (s1.dev.get (F.ADC_IN_KIND one.input)) = false ∧ s1.dev.autor one.input = false ∧
        (fun code => code * 2 ^ 20) (s1.dev.get (F.ADC_IN_LOLIM one.input)) ≤ (-7).natAbs ∧
        (-7).natAbs ≤ (fun code => code * 2 ^ 20) (s1.dev.get (F.ADC_IN_HILIM one.input)) ∧ one.n = 1 ∧ one.convs = [] ∧ one.who = Own.sleeveL ∧
        one.block < 256 ∧ s1.dev.owner one.block = Own.adc) ∧
      (s1.dev.adcRun ↑0 = some false ∧ s1.dev.failedItem (11 + ↑0) = false ∧ s1.dev.bist.iso = none)) ∧
    (s2.dev.atRest ∧ s2.dev.held = [] ∧ s2.dev.adcHead ↑0 = some one ∧ one.orphan = false ∧ s2.dev.adcRun ↑0 = none ∧
      s2.dev.flag F.CLK_SLKSTAT_OPEN = false ∧ s2.dev.beforeWindow (s2.dev.tconv one.input) = true ∧ s2.dev.pairFree (↑0) one.input = true) ∧
    (s3.dev.atRest ∧ s3.dev.held = [] ∧ s3.dev.adcHead ↑0 = some three ∧ three.orphan = false ∧ s3.dev.adcRun ↑0 = some true ∧
      s3.dev.flag F.CLK_SLKSTAT_OPEN = false ∧ -2 ^ 35 ≤ 12345678 ∧ 12345678 < 2 ^ 35 ∧ needsExc (s3.dev.get (F.ADC_IN_KIND three.input)) = false ∧
      s3.dev.autor three.input = false ∧ (fun code => code * 2 ^ 20) (s3.dev.get (F.ADC_IN_LOLIM three.input)) ≤ Int.natAbs 12345678 ∧
      Int.natAbs 12345678 ≤ (fun code => code * 2 ^ 20) (s3.dev.get (F.ADC_IN_HILIM three.input)) ∧ three.convs.length + 1 < three.n) ∧
    (s4.dev.atRest ∧ s4.dev.held = [] ∧ s4.dev.adcRun 0 = some false ∧ s4.dev.adcHead 0 = some rtd ∧
      needsExc (s4.dev.get (F.ADC_IN_KIND rtd.input)) = true ∧ s4.dev.driver rtd.input = ↑0) := by
  unfold Dev.atRest Dev.untapped
  decide +kernel

end ConversionEvents


namespace PulseEvents

def base : Dev := set up [(F.TIDE_TICKS_TICKS, 1000), (F.MET_CH_DESC_KIND 3, 4), (F.MET_CH_DESC_PEDGE 3, 1), (F.MET_CH_PCNT_COUNT 3, 2 ^ 48 - 1), (F.MET_CH_DESC_KIND 4, 4),
  (F.PLS_CFG_EN 0, 1), (F.PLS_CFG_WIDTH 0, 30), (F.PLS_CFG_GAP 0, 45), (F.PLS_STAT_BACKLOG 0, 3)]
def s1 : State := ⟨[], { base with
  regs := [(F.SYS_MODE, 0x4101), (F.SYS_PADSTAT, 0x10000), (F.PWR_STAT, 111), (F.CLK_STAT, 25), (F.TIDE_TICKS, 0x3E8), (F.MET_CH_DESC 3, 0x2000004),
    (F.MET_CH_PCNT 3, 0xFFFFFFFFFFFF), (F.MET_CH_DESC 4, 4), (F.PLS_CFG 0, 0x11E2D0001), (F.PLS_STAT 0, 0x3000000000000),
    (F.LOOP_STAT, 0x384000000001), (F.DBG_STAT, 17)] }⟩
def s2 : State := ⟨[], { (set (base.onMet (fun m => { m with plsPhase := [(0, 1)], plsDue := [(0, 999)] })) [(F.PLS_STAT_ACTIVE 0, 1)]) with
  regs := [(F.SYS_MODE, 0x4101), (F.SYS_PADSTAT, 0x10000), (F.PWR_STAT, 111), (F.CLK_STAT, 25), (F.TIDE_TICKS, 0x3E8), (F.MET_CH_DESC 3, 0x2000004),
    (F.MET_CH_PCNT 3, 0xFFFFFFFFFFFF), (F.MET_CH_DESC 4, 4), (F.PLS_CFG 0, 0x11E2D0001), (F.PLS_STAT 0, 0x3000000000001),
    (F.LOOP_STAT, 0x384000000001), (F.DBG_STAT, 17)] }⟩
def s3 : State := ⟨[], { (base.onMet (fun m => { m with plsPhase := [(0, 2)], plsDue := [(0, 1000)] })) with
  regs := [(F.SYS_MODE, 0x4101), (F.SYS_PADSTAT, 0x10000), (F.PWR_STAT, 111), (F.CLK_STAT, 25), (F.TIDE_TICKS, 0x3E8), (F.MET_CH_DESC 3, 0x2000004),
    (F.MET_CH_PCNT 3, 0xFFFFFFFFFFFF), (F.MET_CH_DESC 4, 4), (F.PLS_CFG 0, 0x11E2D0001), (F.PLS_STAT 0, 0x3000000000000),
    (F.LOOP_STAT, 0x384000000001), (F.DBG_STAT, 17)] }⟩
def s4 : State := ⟨[], { (base.onPads (fun p => { p with lost := true })) with
  regs := [(F.SYS_MODE, 0x4101), (F.PWR_STAT, 111), (F.CLK_STAT, 25), (F.TIDE_TICKS, 0x3E8), (F.MET_CH_DESC 3, 0x2000004),
    (F.MET_CH_PCNT 3, 0xFFFFFFFFFFFF), (F.MET_CH_DESC 4, 4), (F.PLS_CFG 0, 0x11E2D0001), (F.PLS_STAT 0, 0x3000000000000),
    (F.LOOP_STAT, 0x384000000001), (F.DBG_STAT, 17)] }⟩

theorem test_witness_PulseEvents :
    (s1.dev.atRest ∧
      (s1.dev.pads.lost = false) ∧
      (s1.dev.flag (F.PLS_CFG_EN ↑0) = true ∧ s1.dev.plsPhase ↑0 = 0 ∧ 0 < s1.dev.get (F.PLS_STAT_BACKLOG ↑0))) ∧
    (s2.dev.atRest ∧ s2.dev.plsPhase ↑0 = 1 ∧ s2.dev.plsDue ↑0 ≤ s2.dev.get F.TIDE_TICKS_TICKS) ∧
    (s3.dev.atRest ∧ s3.dev.plsPhase ↑0 = 2 ∧ s3.dev.plsDue ↑0 ≤ s3.dev.get F.TIDE_TICKS_TICKS) ∧
    (s4.dev.atRest ∧ s4.dev.pads.lost = true) := by
  unfold Dev.atRest Dev.untapped
  decide +kernel

end PulseEvents


namespace LoopReads

def base : Dev := set up [(F.LOOP_CFG_ADDR, 0x1234)]
def fr (cmd : Nat) (data : List Nat) : LoopFrame := ⟨0x1234, data.length, data, crc16 (natBytes 2 0x1234 ++ [cmd, data.length] ++ data)⟩
def s1 : State := ⟨[], { base with
  regs := [(F.SYS_MODE, 0x4101), (F.SYS_PADSTAT, 0x10000), (F.PWR_STAT, 111), (F.CLK_STAT, 25), (F.LOOP_CFG, 0x12340000),
    (F.LOOP_STAT, 0x384000000001), (F.DBG_STAT, 17)] }⟩
def s2 : State := ⟨[], { ((set base [(⟨F.COLLAR_LOGSTAT, 47, 0⟩, 7)]).setAcc 1 0 (2 ^ 40 + 77)) with
  regs := [(F.SYS_MODE, 0x4101), (F.SYS_PADSTAT, 0x10000), (F.PWR_STAT, 111), (F.CLK_STAT, 25), (F.LOOP_CFG, 0x12340000),
    (F.LOOP_STAT, 0x384000000001), (F.DBG_STAT, 17), (F.COLLAR_LOGSTAT, 7)] }⟩

theorem test_witness_LoopReads :
    (s1.dev.atRest ∧ s1.dev.flag F.LOOP_STAT_CARRIER = false ∧ 0 < 256 ∧ 0 < 256 ∧ 0 < 256 ∧
      (0 < 256 ∧ s1.dev.hears 16 (fr 16 []) ∧ (fr 16 []).data = []) ∧
      (0 < 256 ∧ s1.dev.hears 17 (fr 17 []) ∧ (fr 17 []).data = [] ∧ s1.dev.get F.LOOP_STAT_SETPT < 65536) ∧
      (0 < 256 ∧ s1.dev.hears 20 (fr 20 []) ∧ (fr 20 []).data = []) ∧
      (16 < 256 ∧ s1.dev.hears 21 (fr 21 [0, 0, 0, 0, 0, 0, 16]) ∧ (fr 21 [0, 0, 0, 0, 0, 0, 16]).data = [0, 0, 0, 0, 0, 0, 16] ∧ 1 ≤ 16 ∧ 16 ≤ 16)) ∧
    (s2.dev.atRest ∧ s2.dev.flag F.LOOP_STAT_CARRIER = false ∧ 0 < 256 ∧
      (31 < 256 ∧ 255 < 256 ∧ 0 < 256 ∧ s2.dev.hears 18 (fr 18 [0, 31, 255]) ∧ (fr 18 [0, 31, 255]).data = [0, 31, 255] ∧ 0 < 16 ∧ 31 < 32) ∧
      (64 < 256 ∧ 0 < 256 ∧ 26 < 256 ∧ s2.dev.hears 19 (fr 19 [0, 64, 0, 26]) ∧ (fr 19 [0, 64, 0, 26]).data = [0, 64, 0, 26] ∧ 0 < 16 ∧ 1 ≤ 26 ∧
        26 ≤ 26)) := by
  unfold Dev.atRest Dev.untapped Dev.hears
  decide +kernel

end LoopReads


namespace LoopCommands

def base : Dev := (set up [(F.LOOP_CFG_ADDR, 0x1234), (F.LOOP_CFG_APPEN, 1), (F.SEAM_REC_OWNER 9, Own.loop), (F.SEAM_REC_HOME 9, Own.host)]).onLoop
  (fun l => { l with pool := [9] })
def fr (cmd : Nat) (data : List Nat) : LoopFrame := ⟨0x1234, data.length, data, crc16 (natBytes 2 0x1234 ++ [cmd, data.length] ++ data)⟩
def s1 : State := ⟨[], { base with
  regs := [(F.SYS_MODE, 0x4101), (F.SYS_PADSTAT, 0x10000), (F.PWR_STAT, 111), (F.CLK_STAT, 25), (F.SEAM_REC 9, 0x9000034), (F.LOOP_CFG, 0x12340100),
    (F.LOOP_STAT, 0x384000000001), (F.DBG_STAT, 17)] }⟩
def s2 : State := ⟨[], { (set base [(F.SYS_MODE_MODE, 5)]) with
  regs := [(F.SYS_MODE, 0x4105), (F.SYS_PADSTAT, 0x10000), (F.PWR_STAT, 111), (F.CLK_STAT, 25), (F.SEAM_REC 9, 0x9000034), (F.LOOP_CFG, 0x12340100),
    (F.LOOP_STAT, 0x384000000001), (F.DBG_STAT, 17)] }⟩

theorem test_witness_LoopCommands :
    (s1.dev.atRest ∧ s1.dev.get F.SYS_MODE_STAGE = 4 ∧ s1.dev.mode ≠ 7 ∧ s1.dev.orders = [] ∧ s1.dev.heldOrders = [] ∧ s1.dev.col.svcQ = [] ∧
      s1.dev.held = [] ∧
      (s1.dev.hears 32 (fr 32 [6, 1, 0, 0, 0, 0, 0, 0, 0, 0, 1]) ∧ (fr 32 [6, 1, 0, 0, 0, 0, 0, 0, 0, 0, 1]).data.length = 11 ∧
        (fr 32 [6, 1, 0, 0, 0, 0, 0, 0, 0, 0, 1]).data.getD 1 0 = 1 ∧
        (svcCallers ((fr 32 [6, 1, 0, 0, 0, 0, 0, 0, 0, 0, 1]).data.getD 0 0)).isSome = true) ∧
      (s1.dev.hears 33 (fr 33 [0, 1, 2, 1, 1, 2, 3, 4, 5, 6, 7, 8, 9]) ∧ (fr 33 [0, 1, 2, 1, 1, 2, 3, 4, 5, 6, 7, 8, 9]).data.length = 13 ∧
        (fr 33 [0, 1, 2, 1, 1, 2, 3, 4, 5, 6, 7, 8, 9]).data.getD 3 0 = 1 ∧ (s1.dev.poolOf true).head? = some 9 ∧ 9 < 256) ∧
      (s1.dev.hears 48 (fr 48 [0, 64, 0, 0, 72, 1, 2, 3, 4, 5, 6, 7, 8, 9]) ∧ (fr 48 [0, 64, 0, 0, 72, 1, 2, 3, 4, 5, 6, 7, 8, 9]).data.length = 14 ∧
        16384 ≤ (fun k n => bytesNat (List.take n (List.drop k (fr 48 [0, 64, 0, 0, 72, 1, 2, 3, 4, 5, 6, 7, 8, 9]).data))) 0 3 ∧
        (fun k n => bytesNat (List.take n (List.drop k (fr 48 [0, 64, 0, 0, 72, 1, 2, 3, 4, 5, 6, 7, 8, 9]).data))) 0 3 < 65536 ∧
        1 ≤ (fun k n => bytesNat (List.take n (List.drop k (fr 48 [0, 64, 0, 0, 72, 1, 2, 3, 4, 5, 6, 7, 8, 9]).data))) 4 1 ∧
        (fun k n => bytesNat (List.take n (List.drop k (fr 48 [0, 64, 0, 0, 72, 1, 2, 3, 4, 5, 6, 7, 8, 9]).data))) 3 1 + (fun k n => bytesNat (List.take n (List.drop k (fr 48 [0, 64, 0, 0, 72, 1, 2, 3, 4, 5, 6, 7, 8, 9]).data))) 4 1 ≤ 72) ∧
      (s1.dev.hears 49 (fr 49 [1, 2, 3, 4, 5, 6, 7, 8, 9]) ∧ (fr 49 [1, 2, 3, 4, 5, 6, 7, 8, 9]).data.length = 9) ∧
      (s1.dev.hears 50 (fr 50 [18, 52]) ∧ (fr 50 [18, 52]).data.length = 2 ∧ s1.dev.mode ≠ 5) ∧
      (s1.dev.hears 51 (fr 51 [1]) ∧ s1.dev.loopAssigned 51 = false) ∧
      (s1.dev.hears 128 (fr 128 [1, 2, 3]) ∧ 128 ≤ 128 ∧ 128 ≤ 191 ∧ s1.dev.flag F.LOOP_CFG_APPEN = true ∧ s1.dev.loop.rxtag < 256 ∧
        s1.dev.paired = false ∧ (s1.dev.poolOf true).head? = some 9 ∧ 9 < 256)) ∧
    (s2.dev.atRest ∧ s2.dev.get F.SYS_MODE_STAGE = 4 ∧ s2.dev.mode ≠ 7 ∧ s2.dev.orders = [] ∧ s2.dev.heldOrders = [] ∧ s2.dev.col.svcQ = [] ∧
      s2.dev.held = [] ∧ s2.dev.hears 50 (fr 50 [18, 52]) ∧ (fr 50 [18, 52]).data.length = 2 ∧ s2.dev.mode = 5) := by
  unfold Dev.atRest Dev.untapped Dev.hears
  decide +kernel

end LoopCommands


namespace LoopEvents

def base : Dev := set up [(F.LOOP_CFG_ADDR, 0x1234), (F.LOOP_CFG_APPEN, 1)]
def fr (cmd : Nat) (data : List Nat) : LoopFrame := ⟨0x1234, data.length, data, crc16 (natBytes 2 0x1234 ++ [cmd, data.length] ++ data)⟩
def r : LReply := ⟨16, 0, [1, 2, 3], false, 0, none⟩
def app : Dev := ((set base [(F.SEAM_REC_OWNER 9, Own.loop), (F.SEAM_REC_FULL 9, 1), (F.SEAM_REC_HOME 9, Own.host)]).store (blockAddr 9) 0x800203004D00000000).onLoop
  (fun l => { l with app := [(128, 77, 100)] })
def s1 : State := ⟨[], { app with
  regs := [(F.SYS_MODE, 0x4101), (F.SYS_PADSTAT, 0x10000), (F.PWR_STAT, 111), (F.CLK_STAT, 25), (F.SEAM_REC 9, 0x9000134), (F.LOOP_CFG, 0x12340100),
    (F.LOOP_STAT, 0x384000000001), (F.DBG_STAT, 17)] }⟩
def s2 : State := ⟨[], { (set app [(F.TIDE_TICKS_TICKS, 20000)]) with
  regs := [(F.SYS_MODE, 0x4101), (F.SYS_PADSTAT, 0x10000), (F.PWR_STAT, 111), (F.CLK_STAT, 25), (F.TIDE_TICKS, 0x4E20), (F.SEAM_REC 9, 0x9000134),
    (F.LOOP_CFG, 0x12340100), (F.LOOP_STAT, 0x384000000001), (F.DBG_STAT, 17)] }⟩
def s3 : State := ⟨[], { (base.onLoop (fun l => { l with queue := [r, r] })) with
  regs := [(F.SYS_MODE, 0x4101), (F.SYS_PADSTAT, 0x10000), (F.PWR_STAT, 111), (F.CLK_STAT, 25), (F.LOOP_CFG, 0x12340100),
    (F.LOOP_STAT, 0x384000000001), (F.DBG_STAT, 17)] }⟩
def s4 : State := ⟨[], { (base.onLoop (fun l => { l with sending := some r })) with
  regs := [(F.SYS_MODE, 0x4101), (F.SYS_PADSTAT, 0x10000), (F.PWR_STAT, 111), (F.CLK_STAT, 25), (F.LOOP_CFG, 0x12340100),
    (F.LOOP_STAT, 0x384000000001), (F.DBG_STAT, 17)] }⟩
def s5 : State := ⟨[], { (set base [(F.LOOP_FIX_EN, 1), (F.TIDE_SEC_SEC, 700)]) with
  regs := [(F.SYS_MODE, 0x4101), (F.SYS_PADSTAT, 0x10000), (F.PWR_STAT, 111), (F.CLK_STAT, 25), (F.TIDE_SEC, 0x2BC000000), (F.LOOP_CFG, 0x12340100),
    (F.LOOP_FIX, 0x10000), (F.LOOP_STAT, 0x384000000001), (F.DBG_STAT, 17)] }⟩

theorem test_witness_LoopEvents :
    (s1.dev.get F.SYS_MODE_STAGE = 4 ∧ s1.dev.held = [] ∧ s1.dev.atRest ∧
      (s1.dev.loop.app = [(128, 77, 100)] ∧ s1.dev.get F.TIDE_TICKS_TICKS < 100 + 16384) ∧
      (s1.dev.loop.app = [(128, 77, 100)] ∧ s1.dev.owner ↑9 = Own.loop ∧ s1.dev.full ↑9 = true ∧ bitsOf (s1.dev.load (blockAddr ↑9)) 71 64 = 128 ∧
        bitsOf (s1.dev.load (blockAddr ↑9)) 39 32 = 77)) ∧
    (s2.dev.get F.SYS_MODE_STAGE = 4 ∧ s2.dev.held = [] ∧ s2.dev.atRest ∧ s2.dev.loop.app = [(128, 77, 100)] ∧
      100 + 16384 ≤ s2.dev.get F.TIDE_TICKS_TICKS) ∧
    (s3.dev.get F.SYS_MODE_STAGE = 4 ∧ s3.dev.held = [] ∧ s3.dev.atRest ∧ s3.dev.loop.queue = [r, r] ∧ s3.dev.loop.resend = none ∧
      s3.dev.flag F.LOOP_STAT_TX = false ∧ s3.dev.flag F.LOOP_STAT_CARRIER = false) ∧
    (s4.dev.get F.SYS_MODE_STAGE = 4 ∧ s4.dev.held = [] ∧ s4.dev.loop.sending = some r ∧ s4.dev.stepDue = [] ∧ s4.dev.col.bndDue = false ∧
      s4.dev.busHeld = false ∧ s4.dev.slack.waiting = [] ∧ r.tries < 2) ∧
    (s5.dev.get F.SYS_MODE_STAGE = 4 ∧ s5.dev.held = [] ∧ s5.dev.atRest ∧ s5.dev.flag F.LOOP_FIX_EN = true ∧
      s5.dev.loop.fixFrom + 600 ≤ s5.dev.seconds) := by
  unfold Dev.atRest Dev.untapped
  decide +kernel

end LoopEvents


namespace PortTransactions

def base : Dev := set up [(⟨F.LOOP_PV, 71, 0⟩, 0x1000000000000005), (F.TIDE_SEC_SEC, 900)]
def q : Nat → Nat := fun k => [0, 0x3039, 0x6072, 0x90AB].getD k 0
def h : PortHdr := ⟨0, 0x7007, 1⟩
def hl : PortHdr := ⟨0, 0x4C01, 1⟩
def s1 : State := still { base with port := { Port.init with open_ := true }, dport := { Port.init with open_ := true } }
def s2 : State := still { base with port := { Port.init with open_ := true, done := some false }, dport := { Port.init with open_ := true, done := some false } }
def s3 : State := ⟨[], { base with
  regs := [(F.SYS_MODE, 0x4101), (F.SYS_PADSTAT, 0x10000), (F.PWR_STAT, 111), (F.CLK_STAT, 25), (F.TIDE_SEC, 0x384000000),
    (F.LOOP_PV, 0x1000000000000005), (F.LOOP_STAT, 0x384000000001), (F.DBG_STAT, 17)] }⟩

theorem test_witness_PortTransactions :
    (s1.dev.atRest ∧ h.qmask = 0 ∧ h.count = 1 ∧ h.addr < 2 ^ 20 ∧ (s1.dev.traceN = 0 ∨ s1.dev.flag F.DBG_TRCFG_STREAM = false) ∧
      (s1.dev.portReady false = true) ∧
      (s1.dev.portReady false = true ∧ h.addr = F.LOOP_PV ∧ (∀ (i : Nat), i < 4 → q i < 2 ^ 18) ∧ s1.dev.admits (portMaster false) F.LOOP_PV) ∧
      (s1.dev.portReady false = true ∧ h.addr = F.LOOP_PV ∧ (∀ (i : Nat), i < 4 → q i < 2 ^ 18) ∧ s1.dev.admits (portMaster false) F.LOOP_PV ∧
        7 % 64 ≠ crc6 h.addr 0 32 (q 0)) ∧
      (s1.dev.port.open_ = true ∧ s1.dev.port.done ≠ some false)) ∧
    (s2.dev.atRest ∧ h.qmask = 0 ∧ h.count = 1 ∧ h.addr < 2 ^ 20 ∧ (s2.dev.traceN = 0 ∨ s2.dev.flag F.DBG_TRCFG_STREAM = false) ∧
      (s2.dev.port.open_ = true ∧ s2.dev.port.done = some false) ∧
      (s2.dev.dport.open_ = true ∧ s2.dev.dport.done = some false)) ∧
    (s3.dev.atRest ∧ h.qmask = 0 ∧ h.count = 1 ∧ h.addr < 2 ^ 20 ∧ (s3.dev.traceN = 0 ∨ s3.dev.flag F.DBG_TRCFG_STREAM = false) ∧
      s3.dev.portUp false = true ∧ (s3.dev.portAt false).open_ = false) := by
  unfold Dev.atRest Dev.untapped Dev.admits
  decide +kernel

end PortTransactions


namespace RadioMembership

def eb : EbFrame := ⟨9, 77, 0, 2000, true, some 0, none, some 0, none, [(0, 101)], [⟨0, 3, 1, 9, 7⟩]⟩
def hd : RioHdr := ⟨0, 5, 1, 4, 4, 0⟩
def hj : RioHdr := ⟨0, 5, 1, 62, 62, 0⟩
def joinKey : KeySlot := ⟨1, List.replicate 16 3⟩
def links : List RLink := [⟨0, 3, 1, 9, 1⟩]
def jr : JoinResp := ⟨0x55, 0x300, 9, 77, 5, 3600, 1, List.replicate 24 1, 0, links, none⟩
def jr17 : JoinResp := { jr with links := List.replicate 17 ⟨0, 3, 1, 9, 1⟩ }
def peer : Nat × Nat := (9, 77)
/-- A device whose radio is on and scans. -/
def scanning : Dev := set up [(F.MAC_STAT_JSTATE, 1), (F.MAC_CFG_EN, 1)]
def joining : Dev := ((set scanning [(F.MAC_STAT_JSTATE, 2), (⟨F.COLLAR_POCKET, 31, 0⟩, 0x100)]).onRadio (fun r => { r with peer := some peer, nonce := 0x55, due := 0 })).onPocket
  (fun p => Store.set factoryKey p 4 joinKey)
def joined : Dev := (set scanning [(F.MAC_STAT_JSTATE, 3), (F.MAC_ADDR_SHORT, 0x300), (F.MAC_ADDR_PARENT, 9), (F.MAC_KEY_CUR, 1)]).onRadio
  (fun r => { r with coord := 5, parentEui := 77, leaseEnd := 3600, links := links }) |>.onPocket (fun p => Store.set factoryKey p 5 ⟨1, List.replicate 16 4⟩)
def s1 : State := ⟨[], { scanning with
  regs := [(F.SYS_MODE, 0x4101), (F.SYS_PADSTAT, 0x10000), (F.PWR_STAT, 111), (F.CLK_STAT, 25), (F.LOOP_STAT, 0x384000000001), (F.RADIO_STAT, 4),
    (F.MAC_STAT, 1), (F.DBG_STAT, 17)] }⟩
def s2 : State := ⟨[], { joining with
  regs := [(F.SYS_MODE, 0x4101), (F.SYS_PADSTAT, 0x10000), (F.PWR_STAT, 111), (F.CLK_STAT, 25), (F.LOOP_STAT, 0x384000000001), (F.MAC_STAT, 2),
    (F.DBG_STAT, 17), (F.COLLAR_POCKET, 256)] }⟩
def s3 : State := ⟨[], { (set joining [(F.MAC_STAT_JSTATE, 5)]) with
  regs := [(F.SYS_MODE, 0x4101), (F.SYS_PADSTAT, 0x10000), (F.PWR_STAT, 111), (F.CLK_STAT, 25), (F.LOOP_STAT, 0x384000000001), (F.MAC_STAT, 5),
    (F.DBG_STAT, 17), (F.COLLAR_POCKET, 256)] }⟩
def s4 : State := ⟨[], { joined with
  regs := [(F.SYS_MODE, 0x4101), (F.SYS_PADSTAT, 0x10000), (F.PWR_STAT, 111), (F.CLK_STAT, 25), (F.LOOP_STAT, 0x384000000001),
    (F.MAC_STAT, 0x64000000000003), (F.MAC_ADDR, 0xE1000090300), (F.MAC_KEY, 1), (F.DBG_STAT, 17)] }⟩
def s5 : State := ⟨[], { (joined.onRadio (fun r => { r with leaseEnd := 0 })) with
  regs := [(F.SYS_MODE, 0x4101), (F.SYS_PADSTAT, 0x10000), (F.PWR_STAT, 111), (F.CLK_STAT, 25), (F.LOOP_STAT, 0x384000000001),
    (F.MAC_STAT, 0x64000000000003), (F.MAC_ADDR, 0x90300), (F.MAC_KEY, 1), (F.DBG_STAT, 17)] }⟩
def s6 : State := ⟨[], { ((set joined [(F.MAC_STAT_JSTATE, 0), (F.MAC_CFG_JOINEN, 1)]).onRadio (fun r => { r with hold := some 0 })) with
  regs := [(F.SYS_MODE, 0x4101), (F.SYS_PADSTAT, 0x10000), (F.PWR_STAT, 111), (F.CLK_STAT, 25), (F.LOOP_STAT, 0x384000000001), (F.MAC_ADDR, 0x90300),
    (F.MAC_KEY, 1), (F.DBG_STAT, 17)] }⟩
def s7 : State := ⟨[], { ((set joined [(F.TIDE_TICKS_TICKS, 2 ^ 36)])) with
  regs := [(F.SYS_MODE, 0x4101), (F.SYS_PADSTAT, 0x10000), (F.PWR_STAT, 111), (F.CLK_STAT, 25), (F.TIDE_TICKS, 0x1000000000),
    (F.LOOP_STAT, 0x384000000001), (F.MAC_STAT, 0xFFFFFFFF00000003), (F.MAC_ADDR, 0xE1000090300), (F.MAC_KEY, 1), (F.DBG_STAT, 17)] }⟩
def fj : RxFrame := ⟨true, 9, some 77, false, true, 7, 0, 11, some (joinKey.key, ccmNonce 77 11 7), -50, 100⟩
def f : RxFrame := ⟨true, 9, none, false, true, 7, 1, 11, some (List.replicate 16 4, ccmNonce 77 11 7), -50, 100⟩

theorem test_witness_RadioMembership :
    (s1.dev.atRest ∧
      (s1.dev.jstate = 1) ∧
      (s1.dev.radioUp = true ∧ s1.dev.jstate = 1 ∧ s1.dev.ebUsable eb = true ∧ s1.dev.radio.ord.length < 16)) ∧
    (s2.dev.atRest ∧
      (s2.dev.radioUp = true ∧ s2.dev.radio.peer = some peer ∧ fj.src = peer.fst ∧ fj.fcs = true ∧ 5 ≤ fj.level ∧ fj.level ≤ 7 ∧
        s2.dev.get F.MAC_CFG_SECLVL ≤ fj.level ∧ fj.key = 0 ∧ s2.dev.micOk true fj = true ∧ s2.dev.radio.floors = [] ∧
        hj.len = 56 + 6 * jr.links.length ∧ hj.got = hj.len ∧ jr.links.length ≤ 16 ∧ jr.asn = none ∧ jr.nonce = s2.dev.radio.nonce ∧ 1 ≤ jr.short ∧
        jr.short ≤ 65533 ∧ 60 ≤ jr.lease ∧ jr.lease ≤ 604800 ∧ 1 ≤ jr.keyIdx ∧ jr.keyIdx < 256 ∧ jr.parent < 65536 ∧ s2.dev.keyUsable 4 1 = true) ∧
      (s2.dev.jstate = 2 ∧ s2.dev.radio.peer = some peer ∧ s2.dev.radio.due ≤ s2.dev.seconds) ∧
      (s2.dev.radioUp = true ∧ s2.dev.radio.peer = some peer ∧ fj.src = peer.fst ∧ fj.fcs = true ∧ 5 ≤ fj.level ∧ fj.level ≤ 7 ∧
        s2.dev.get F.MAC_CFG_SECLVL ≤ fj.level ∧ fj.key = 0 ∧ s2.dev.micOk true fj = true ∧ s2.dev.radio.floors = [] ∧
        (200 < hj.len ∨ 16 < jr17.links.length) ∧ s2.dev.radio.ord.length < 16)) ∧
    (s3.dev.atRest ∧ s3.dev.jstate = 5 ∧ s3.dev.radio.due ≤ s3.dev.seconds ∧ s3.dev.mayScan = true) ∧
    (s4.dev.atRest ∧
      (s4.dev.jstate = 3 ∧ s4.dev.radio.renew ≤ s4.dev.seconds ∧ s4.dev.mode ≠ 7 ∧ (∀ (m : RMsg), m ∈ s4.dev.radio.ord → m.ty ≠ 3) ∧
        s4.dev.radio.ord.length < 16) ∧
      (s4.dev.accepts f ∧ s4.dev.counterLeft f ∧ hd.len = 4 ∧ hd.got = 4 ∧ hd.orig = s4.dev.radio.coord) ∧
      (s4.dev.accepts f ∧ s4.dev.counterLeft f ∧ hd.len = 4 ∧ hd.got = 4 ∧ hd.orig = s4.dev.radio.coord ∧ 1 ≤ 5 ∧ 5 ≤ 86400)) ∧
    (s5.dev.atRest ∧ s5.dev.inNet = true ∧ s5.dev.radio.leaseEnd ≤ s5.dev.seconds ∧ s5.dev.quietNow = false) ∧
    (s6.dev.atRest ∧ s6.dev.radio.hold = some 0 ∧ 0 ≤ s6.dev.seconds ∧ s6.dev.flag F.MAC_CFG_EN = true ∧ s6.dev.flag F.MAC_CFG_JOINEN = true ∧
      s6.dev.bist.radioOff = false) ∧
    (s7.dev.atRest ∧ s7.dev.jstate = 3 ∧ s7.dev.get F.MAC_ERR_SYNCTO * 32768 ≤ s7.dev.sinceSync ∧ s7.dev.radio.alarms = []) := by
  unfold Dev.atRest Dev.untapped Dev.accepts Dev.counterLeft
  decide +kernel

end RadioMembership


namespace RadioMessages

def joined : Dev := (set up [(F.MAC_STAT_JSTATE, 3), (F.MAC_ADDR_SHORT, 0x300), (F.MAC_ADDR_PARENT, 9), (F.MAC_KEY_CUR, 1), (F.MAC_ASN_ASN, 1000),
  (F.MAC_TS_SLOT, 10000)]).onRadio (fun r => { r with coord := 5, parentEui := 77, leaseEnd := 3600, links := [⟨0, 3, 1, 9, 1⟩] }) |>.onPocket
  (fun p => Store.set factoryKey p 5 ⟨1, List.replicate 16 4⟩)
def f : RxFrame := ⟨true, 9, none, false, true, 7, 1, 11, some (List.replicate 16 4, ccmNonce 77 11 7), -50, 100⟩
def hd (len code : Nat) : RioHdr := ⟨0, 5, 7, len, len, code⟩
def link : RLink := ⟨0, 3, 1, 9, 1⟩
def alarm : RAlarm := ⟨3, 7, 0, 0, 0, 0, 0, none⟩
def origA : ROrig := ⟨5, 7, some ⟨0x21, 5, 7, 0, [], 2, true, false, none⟩⟩
def origB : ROrig := ⟨5, 8, none⟩
def origR : RMsg := ⟨0x21, 5, 7, 0, [], 2, true, false, none⟩
def key : List Nat := []
def s1 : State := ⟨[], { joined with
  regs := [(F.SYS_MODE, 0x4101), (F.SYS_PADSTAT, 0x10000), (F.PWR_STAT, 111), (F.CLK_STAT, 25), (F.LOOP_STAT, 0x384000000001),
    (F.MAC_STAT, 0x64000000000003), (F.MAC_ADDR, 0xE1000090300), (F.MAC_ASN, 0x3E8), (F.MAC_KEY, 1), (F.MAC_TS, 0x271000000000000000),
    (F.DBG_STAT, 17)] }⟩
def s2 : State := ⟨[], { (joined.onRadio (fun r => { r with alarms := [alarm] })) with
  regs := [(F.SYS_MODE, 0x4101), (F.SYS_PADSTAT, 0x10000), (F.PWR_STAT, 111), (F.CLK_STAT, 25), (F.LOOP_STAT, 0x384000000001),
    (F.MAC_STAT, 0x64000000000003), (F.MAC_ADDR, 0xE1000090300), (F.MAC_ASN, 0x3E8), (F.MAC_KEY, 1), (F.MAC_TS, 0x271000000000000000),
    (F.DBG_STAT, 17)] }⟩
def s3 : State := ⟨[], { (joined.onRadio (fun r => { r with origs := [origA] })) with
  regs := [(F.SYS_MODE, 0x4101), (F.SYS_PADSTAT, 0x10000), (F.PWR_STAT, 111), (F.CLK_STAT, 25), (F.LOOP_STAT, 0x384000000001),
    (F.MAC_STAT, 0x64000000000003), (F.MAC_ADDR, 0xE1000090300), (F.MAC_ASN, 0x3E8), (F.MAC_KEY, 1), (F.MAC_TS, 0x271000000000000000),
    (F.DBG_STAT, 17)] }⟩
def s4 : State := ⟨[], { (joined.onRadio (fun r => { r with origs := [origB] })) with
  regs := [(F.SYS_MODE, 0x4101), (F.SYS_PADSTAT, 0x10000), (F.PWR_STAT, 111), (F.CLK_STAT, 25), (F.LOOP_STAT, 0x384000000001),
    (F.MAC_STAT, 0x64000000000003), (F.MAC_ADDR, 0xE1000090300), (F.MAC_ASN, 0x3E8), (F.MAC_KEY, 1), (F.MAC_TS, 0x271000000000000000),
    (F.DBG_STAT, 17)] }⟩

theorem test_witness_RadioMessages :
    (s1.dev.atRest ∧ s1.dev.accepts f ∧ s1.dev.counterLeft f ∧
      ((hd 12 0).got = (hd 12 0).len ∧ (hd 12 0).orig = s1.dev.radio.coord ∧ s1.dev.radio.ord.length < 16 ∧ s1.dev.get F.SYS_MODE_STAGE = 4 ∧
        s1.dev.mode ≠ 7 ∧ s1.dev.orders = [] ∧ s1.dev.heldOrders = [] ∧ (hd 12 0).len = 12 ∧ link.sf < 4 ∧ s1.dev.radio.sched = [] ∧
        (∀ (x : RLink), x ∈ s1.dev.radio.links → x.sf < 4) ∧ s1.dev.radio.links.length < 64) ∧
      ((hd 12 0).got = (hd 12 0).len ∧ (hd 12 0).orig = s1.dev.radio.coord ∧ s1.dev.radio.ord.length < 16 ∧ s1.dev.get F.SYS_MODE_STAGE = 4 ∧
        s1.dev.mode ≠ 7 ∧ s1.dev.orders = [] ∧ s1.dev.heldOrders = [] ∧ (hd 12 0).len ≤ 200 ∧ riosteyKnown 64 = false) ∧
      ((hd 0 20).got = (hd 0 20).len ∧ (hd 0 20).orig = s1.dev.radio.coord ∧ s1.dev.radio.ord.length < 16 ∧ s1.dev.get F.SYS_MODE_STAGE = 4 ∧
        s1.dev.mode ≠ 7 ∧ s1.dev.orders = [] ∧ s1.dev.heldOrders = [] ∧ (hd 0 20).len = 0 ∧ (hd 0 20).code = 20 ∧ s1.dev.origOf (hd 0 20).orig = none) ∧
      ((hd 14 48).got = (hd 14 48).len ∧ (hd 14 48).orig = s1.dev.radio.coord ∧ s1.dev.radio.ord.length < 16 ∧ s1.dev.get F.SYS_MODE_STAGE = 4 ∧
        s1.dev.mode ≠ 7 ∧ s1.dev.orders = [] ∧ s1.dev.heldOrders = [] ∧ (hd 14 48).len = 14 ∧ (hd 14 48).code = 48 ∧
        s1.dev.origOf (hd 14 48).orig = none) ∧
      ((hd 14 48).got = (hd 14 48).len ∧ (hd 14 48).orig = s1.dev.radio.coord ∧ s1.dev.radio.ord.length < 16 ∧ s1.dev.get F.SYS_MODE_STAGE = 4 ∧
        s1.dev.mode ≠ 7 ∧ s1.dev.orders = [] ∧ s1.dev.heldOrders = [] ∧ (hd 14 48).len = 14) ∧
      ((hd 8 0).got = (hd 8 0).len ∧ (hd 8 0).orig = s1.dev.radio.coord ∧ s1.dev.radio.ord.length < 16 ∧ s1.dev.get F.SYS_MODE_STAGE = 4 ∧
        s1.dev.mode ≠ 7 ∧ s1.dev.orders = [] ∧ s1.dev.heldOrders = [] ∧ (hd 8 0).len = 8 ∧ s1.dev.quietNow = false ∧ 900 < 2 ^ 40 ∧ 1 ≤ 300 ∧
        300 < 2 ^ 24 ∧ s1.dev.get F.MAC_ASN_ASN + 1 < 900 + 300) ∧
      ((hd 30 0).got = (hd 30 0).len ∧ (hd 30 0).orig = s1.dev.radio.coord ∧ s1.dev.radio.ord.length < 16 ∧ s1.dev.get F.SYS_MODE_STAGE = 4 ∧
        s1.dev.mode ≠ 7 ∧ s1.dev.orders = [] ∧ s1.dev.heldOrders = [] ∧ (hd 30 0).len = 30 ∧ 1 ≤ 3 ∧ 3 < 256 ∧ s1.dev.get F.MAC_ASN_ASN < 2000 ∧
        2000 < 2 ^ 40)) ∧
    (s2.dev.atRest ∧ s2.dev.accepts f ∧ s2.dev.counterLeft f ∧ (hd 12 0).got = (hd 12 0).len ∧ (hd 12 0).orig = s2.dev.radio.coord ∧
      s2.dev.radio.ord.length < 16 ∧ s2.dev.get F.SYS_MODE_STAGE = 4 ∧ s2.dev.mode ≠ 7 ∧ s2.dev.orders = [] ∧ s2.dev.heldOrders = [] ∧
      (hd 12 0).len ≤ 200 ∧ s2.dev.radio.alarms = [alarm] ∧ alarm.code = 3 ∧ alarm.rseq = (hd 12 0).rseq) ∧
    (s3.dev.atRest ∧ s3.dev.accepts f ∧ s3.dev.counterLeft f ∧ (hd 14 48).got = (hd 14 48).len ∧ (hd 14 48).orig = s3.dev.radio.coord ∧
      s3.dev.radio.ord.length < 16 ∧ s3.dev.get F.SYS_MODE_STAGE = 4 ∧ s3.dev.mode ≠ 7 ∧ s3.dev.orders = [] ∧ s3.dev.heldOrders = [] ∧
      (hd 14 48).len ≤ 200 ∧ s3.dev.origOf (hd 14 48).orig = some origA ∧ origA.rseq = (hd 14 48).rseq ∧ origA.reply = some origR) ∧
    (s4.dev.atRest ∧ s4.dev.accepts f ∧ s4.dev.counterLeft f ∧ (hd 14 48).got = (hd 14 48).len ∧ (hd 14 48).orig = s4.dev.radio.coord ∧
      s4.dev.radio.ord.length < 16 ∧ s4.dev.get F.SYS_MODE_STAGE = 4 ∧ s4.dev.mode ≠ 7 ∧ s4.dev.orders = [] ∧ s4.dev.heldOrders = [] ∧
      (hd 14 48).len ≤ 200 ∧ s4.dev.origOf (hd 14 48).orig = some origB ∧ origB.rseq ≠ (hd 14 48).rseq ∧
      ((hd 14 48).rseq + 65536 - origB.rseq) % 65536 ≥ 32768) := by
  unfold Dev.atRest Dev.untapped Dev.accepts Dev.counterLeft
  decide +kernel

end RadioMessages


namespace RadioSlotsAndWakes

def link : RLink := ⟨0, 3, 1, 9, 1⟩
def msg : RMsg := ⟨0x10, 5, 7, 0, [1, 2], 0, false, false, none⟩
def joined : Dev := (set up [(F.MAC_STAT_JSTATE, 3), (F.MAC_ADDR_SHORT, 0x300), (F.MAC_ADDR_PARENT, 9), (F.MAC_KEY_CUR, 1), (F.MAC_ASN_ASN, 1000),
  (F.MAC_SF_SIZE 0, 100), (F.MAC_HOPLEN_LEN, 16), (F.MAC_TS_RXWAIT, 5000), (F.WUR_CFG_EN, 1)]).onRadio
  (fun r => { r with coord := 5, parentEui := 77, leaseEnd := 3600, links := [link] }) |>.onPocket
  (fun p => Store.set factoryKey (Store.set factoryKey p 5 ⟨1, List.replicate 16 4⟩) 6 ⟨1, List.replicate 16 6⟩)
def word (action : Nat) : Nat :=
  let w := 0xB4000300 + action * 2 ^ 20
  w + wakeChk w * 65536
def s1 : State := ⟨[], { joined with
  regs := [(F.SYS_MODE, 0x4101), (F.SYS_PADSTAT, 0x10000), (F.PWR_STAT, 111), (F.CLK_STAT, 25), (F.LOOP_STAT, 0x384000000001),
    (F.MAC_STAT, 0x64000000000003), (F.MAC_ADDR, 0xE1000090300), (F.MAC_ASN, 0x3E8), (F.MAC_KEY, 1), (F.MAC_SF 0, 0x640000), (F.MAC_HOPLEN, 16),
    (F.MAC_TS, 0x1388000000), (F.DBG_STAT, 17)] }⟩
def s2 : State := ⟨[], { (joined.onRadio (fun r => { r with ord := [msg] })) with
  regs := [(F.SYS_MODE, 0x4101), (F.SYS_PADSTAT, 0x10000), (F.PWR_STAT, 111), (F.CLK_STAT, 25), (F.LOOP_STAT, 0x384000000001),
    (F.MAC_STAT, 0x64000000000003), (F.MAC_ADDR, 0xE1000090300), (F.MAC_ASN, 0x3E8), (F.MAC_KEY, 1), (F.MAC_SF 0, 0x640000), (F.MAC_HOPLEN, 16),
    (F.MAC_TS, 0x1388000000), (F.DBG_STAT, 17)] }⟩
def s3 : State := ⟨[], { (set (joined.onRadio (fun r => { r with ord := [msg] })) [(F.CLK_SLKSTAT_OPEN, 1)]) with
  regs := [(F.SYS_MODE, 0x4101), (F.SYS_PADSTAT, 0x10000), (F.PWR_STAT, 111), (F.CLK_STAT, 25), (F.CLK_SLKSTAT, 1), (F.LOOP_STAT, 0x384000000001),
    (F.MAC_STAT, 0x64000000000003), (F.MAC_ADDR, 0xE1000090300), (F.MAC_ASN, 0x3E8), (F.MAC_KEY, 1), (F.MAC_SF 0, 0x640000), (F.MAC_HOPLEN, 16),
    (F.MAC_TS, 0x1388000000), (F.DBG_STAT, 17)] }⟩
def s4 : State := ⟨[], { (set joined [(F.TIDE_TICKS_TICKS, 2 ^ 36)]) with
  regs := [(F.SYS_MODE, 0x4101), (F.SYS_PADSTAT, 0x10000), (F.PWR_STAT, 111), (F.CLK_STAT, 25), (F.TIDE_TICKS, 0x1000000000),
    (F.LOOP_STAT, 0x384000000001), (F.MAC_STAT, 0xFFFFFFFF00000003), (F.MAC_ADDR, 0xE1000090300), (F.MAC_ASN, 0x3E8), (F.MAC_KEY, 1),
    (F.MAC_SF 0, 0x640000), (F.MAC_HOPLEN, 16), (F.MAC_TS, 0x1388000000), (F.DBG_STAT, 17)] }⟩
def s5 : State := ⟨[], { (set joined [(F.MAC_TIMING_REPPER, 900)]) with
  regs := [(F.SYS_MODE, 0x4101), (F.SYS_PADSTAT, 0x10000), (F.PWR_STAT, 111), (F.CLK_STAT, 25), (F.LOOP_STAT, 0x384000000001),
    (F.MAC_STAT, 0x64000000000003), (F.MAC_ADDR, 0xE1000090300), (F.MAC_ASN, 0x3E8), (F.MAC_KEY, 1), (F.MAC_SF 0, 0x640000), (F.MAC_HOPLEN, 16),
    (F.MAC_TS, 0x1388000000), (F.DBG_STAT, 17)] }⟩
def s6 : State := still (set (joined.onRadio (fun r => { r with quietFrom := 1500, quietEnd := 2000 })) [(F.MAC_QUIET_PEND, 1), (F.MAC_QUIET_START, 1500),
  (F.MAC_QUIET_LEN, 500)])
def s7 : State := still (set (joined.onRadio (fun r => { r with quietFrom := 1500, quietEnd := 2000 })) [(F.MAC_QUIET_PEND, 1), (F.MAC_STAT_QUIET, 1),
  (F.MAC_QUIET_START, 1500), (F.MAC_QUIET_LEN, 500)])
def s8 : State := ⟨[], { (set joined [(F.MAC_KEY_NEXT, 2), (F.MAC_KEY_SWITCH, 1200)]) with
  regs := [(F.SYS_MODE, 0x4101), (F.SYS_PADSTAT, 0x10000), (F.PWR_STAT, 111), (F.CLK_STAT, 25), (F.LOOP_STAT, 0x384000000001),
    (F.MAC_STAT, 0x64000000000003), (F.MAC_ADDR, 0xE1000090300), (F.MAC_ASN, 0x3E8), (F.MAC_KEY, 0x4B000000201), (F.MAC_SF 0, 0x640000),
    (F.MAC_HOPLEN, 16), (F.MAC_TS, 0x1388000000), (F.DBG_STAT, 17)] }⟩
def s9 : State := ⟨[], { (set joined [(F.MAC_KEY_PREV, 2)]) with
  regs := [(F.SYS_MODE, 0x4101), (F.SYS_PADSTAT, 0x10000), (F.PWR_STAT, 111), (F.CLK_STAT, 25), (F.LOOP_STAT, 0x384000000001),
    (F.MAC_STAT, 0x64000000000003), (F.MAC_ADDR, 0xE1000090300), (F.MAC_ASN, 0x3E8), (F.MAC_KEY, 0x20001), (F.MAC_SF 0, 0x640000),
    (F.MAC_HOPLEN, 16), (F.MAC_TS, 0x1388000000), (F.DBG_STAT, 17)] }⟩
def s10 : State := ⟨[], { (set (joined.store (blockAddr 3) (0x14 * 2 ^ 64 + 3 * 2 ^ 56 + 5 * 2 ^ 40)) [(F.SEAM_REC_OWNER 3, Own.radio), (F.SEAM_REC_FULL 3, 1)]) with
  regs := [(F.SYS_MODE, 0x4101), (F.SYS_PADSTAT, 0x10000), (F.PWR_STAT, 111), (F.CLK_STAT, 25), (F.SEAM_REC 3, 0x30001F5),
    (F.LOOP_STAT, 0x384000000001), (F.MAC_STAT, 0x64000000000003), (F.MAC_ADDR, 0xE1000090300), (F.MAC_ASN, 0x3E8), (F.MAC_KEY, 1),
    (F.MAC_SF 0, 0x640000), (F.MAC_HOPLEN, 16), (F.MAC_TS, 0x1388000000), (F.DBG_STAT, 17)] }⟩
def s11 : State := ⟨[], { (set (joined.onRadio (fun r => { r with app := [(0x85, 3, 5, 7, 0)] })) [(F.TIDE_TICKS_TICKS, 0x10000)]) with
  regs := [(F.SYS_MODE, 0x4101), (F.SYS_PADSTAT, 0x10000), (F.PWR_STAT, 111), (F.CLK_STAT, 25), (F.TIDE_TICKS, 0x10000),
    (F.LOOP_STAT, 0x384000000001), (F.MAC_STAT, 0xB4000200000003), (F.MAC_ADDR, 0xE1000090300), (F.MAC_ASN, 0x3E8), (F.MAC_KEY, 1),
    (F.MAC_SF 0, 0x640000), (F.MAC_HOPLEN, 16), (F.MAC_TS, 0x1388000000), (F.DBG_STAT, 17)] }⟩
def s12 : State := ⟨[], { (joined.onRadio (fun r => { r with awakeTill := some 0 })) with
  regs := [(F.SYS_MODE, 0x4101), (F.SYS_PADSTAT, 0x10000), (F.PWR_STAT, 111), (F.CLK_STAT, 25), (F.LOOP_STAT, 0x384000000001), (F.RADIO_STAT, 1),
    (F.MAC_STAT, 0x64000000000003), (F.MAC_ADDR, 0xE1000090300), (F.MAC_ASN, 0x3E8), (F.MAC_KEY, 1), (F.MAC_SF 0, 0x640000), (F.MAC_HOPLEN, 16),
    (F.MAC_TS, 0x1388000000), (F.DBG_STAT, 17)] }⟩

theorem test_witness_RadioSlotsAndWakes :
    (s1.dev.atRest ∧
      (s1.dev.radioUp = true ∧ s1.dev.jstate = 3 ∧ s1.dev.get F.MAC_ASN_ASN ≤ 1001 ∧ 1001 < 2 ^ 40 ∧ s1.dev.asleep = false ∧
        s1.dev.flag F.MAC_QUIET_GRACE = false ∧ s1.dev.radio.sched = [] ∧ s1.dev.guardOver = false ∧ s1.dev.slotLinks 1001 = []) ∧
      (s1.dev.flag F.MAC_CFG_EN = true ∧ 0 < s1.dev.get F.MAC_TIMING_REPPER ∧ s1.dev.seconds % s1.dev.get F.MAC_TIMING_REPPER = 0 ∧ s1.dev.mode ≠ 7) ∧
      (s1.dev.wakeMatches (word 0) 0 = true ∧ s1.dev.inNet = true ∧ s1.dev.flag F.MAC_QUIET_PEND = false ∧ s1.dev.radio.ord.length < 16) ∧
      (s1.dev.wurOn = true) ∧
      (s1.dev.radioUp = true ∧ (255 < 300 ∨ false = true)) ∧
      (s1.dev.wurOn = true ∧ (word 0 + 65536) >>> 16 % 16 ≠ wakeChk (word 0 + 65536))) ∧
    (s2.dev.atRest ∧
      (s2.dev.radioUp = true ∧ s2.dev.jstate = 3 ∧ s2.dev.get F.MAC_ASN_ASN ≤ 1003 ∧ 1003 < 2 ^ 40 ∧ s2.dev.asleep = false ∧
        s2.dev.flag F.MAC_QUIET_GRACE = false ∧ s2.dev.radio.sched = [] ∧ s2.dev.guardOver = false ∧ s2.dev.slotLinks 1003 = [link] ∧
        link.tx = true ∧ link.shared = false ∧ link.neigh = s2.dev.get F.MAC_ADDR_PARENT ∧ s2.dev.quietNow = false ∧ s2.dev.radio.lost = false ∧
        s2.dev.radio.exhausted = false ∧ s2.dev.radio.alarms = [] ∧ s2.dev.radio.lateAcks = [] ∧ s2.dev.radio.ord = [msg] ∧
        s2.dev.ordReady msg = true ∧ msg.ty ≠ 1 ∧ msg.block = none ∧ s2.dev.txAllowed false = true ∧ s2.dev.flag F.CLK_SLKSTAT_OPEN = false ∧
        s2.dev.slack.opening = none) ∧
      (s2.dev.wakeMatches (word 1) 1 = true) ∧
      (s2.dev.wakeMatches (word 2) 2 = true) ∧
      (s2.dev.wakeMatches (word 3) 3 = true)) ∧
    (s3.dev.atRest ∧ s3.dev.radioUp = true ∧ s3.dev.jstate = 3 ∧ s3.dev.get F.MAC_ASN_ASN ≤ 1003 ∧ 1003 < 2 ^ 40 ∧ s3.dev.asleep = false ∧
      s3.dev.flag F.MAC_QUIET_GRACE = false ∧ s3.dev.radio.sched = [] ∧ s3.dev.guardOver = false ∧ s3.dev.slotLinks 1003 = [link] ∧ link.tx = true ∧
      link.shared = false ∧ link.neigh = s3.dev.get F.MAC_ADDR_PARENT ∧ s3.dev.quietNow = false ∧ s3.dev.radio.lost = false ∧
      s3.dev.radio.exhausted = false ∧ s3.dev.radio.alarms = [] ∧ s3.dev.radio.lateAcks = [] ∧ s3.dev.radio.ord = [msg] ∧
      s3.dev.ordReady msg = true ∧ msg.ty ≠ 1 ∧ msg.block = none ∧ s3.dev.txAllowed false = true ∧ s3.dev.flag F.CLK_SLKSTAT_OPEN = true) ∧
    (s4.dev.atRest ∧ s4.dev.jstate = 3 ∧ s4.dev.kaSeconds * 32768 ≤ s4.dev.sinceSync ∧ s4.dev.quietNow = false ∧
      (∀ (x : RMsg), x ∈ s4.dev.radio.ord → x.ty ≠ 0) ∧ s4.dev.radio.ord.length < 16) ∧
    (s6.dev.atRest ∧ s6.dev.flag F.MAC_QUIET_PEND = true ∧ s6.dev.quietNow = false ∧ s6.dev.radio.quietFrom ≤ 1500 ∧
      s6.dev.get F.MAC_ASN_ASN ≤ 1500 ∧ 1500 < 2 ^ 40 ∧ s6.dev.inNet = true ∧ s6.dev.radio.graceDue = false) ∧
    (s7.dev.atRest ∧ s7.dev.quietNow = true ∧ s7.dev.radio.quietEnd ≤ 2000 ∧ s7.dev.get F.MAC_ASN_ASN ≤ 2000 ∧ 2000 < 2 ^ 40 ∧
      s7.dev.radio.heldWakes = []) ∧
    (s8.dev.atRest ∧ s8.dev.get F.MAC_KEY_NEXT ≠ 0 ∧ s8.dev.get F.MAC_KEY_SWITCH ≤ 1200 ∧ s8.dev.inNet = true ∧ s8.dev.radio.exhausted = false) ∧
    (s9.dev.atRest ∧ s9.dev.get F.MAC_KEY_PREV ≠ 0 ∧ s9.dev.get F.MAC_KEY_NEXT = 0 ∧ s9.dev.radio.prevErase ≤ s9.dev.seconds) ∧
    (s10.dev.atRest ∧ s10.dev.owner ↑3 = Own.radio ∧ s10.dev.full ↑3 = true ∧ s10.dev.held = [] ∧
      (∀ (x : RMsg), x ∈ s10.dev.radio.ord → x.block ≠ some ↑3) ∧ bitsOf (s10.dev.load (blockAddr ↑3)) 71 64 = 20 ∧ s10.dev.inNet = true ∧
      s10.dev.radio.ord.length < 16) ∧
    (s11.dev.atRest ∧ s11.dev.radio.app = [(133, 3, 5, 7, 0)] ∧ 0 + 16384 ≤ s11.dev.get F.TIDE_TICKS_TICKS ∧ s11.dev.radio.ord.length < 16) ∧
    (s12.dev.atRest ∧ s12.dev.radio.awakeTill = some 0 ∧ 0 ≤ s12.dev.get F.TIDE_TICKS_TICKS) := by
  unfold Dev.atRest Dev.untapped
  decide +kernel

end RadioSlotsAndWakes


namespace LabelEvents

def mirrored (n : Nat) : Dev := (set up [(F.LBL_CFG_EN, 1), (F.LBL_ID_DEVID, 0x12345678)]).onLabel
  (fun l => { l with jobs := [.mirror 4 [1, 2, 3] false, .zero []], fails := n })
def s1 : State := ⟨[], { (mirrored 2) with
  regs := [(F.SYS_MODE, 0x4101), (F.SYS_PADSTAT, 0x10000), (F.PWR_STAT, 111), (F.CLK_STAT, 25), (F.LOOP_STAT, 0x384000000001), (F.LBL_STAT, 8),
    (F.LBL_ID, 0x12345678), (F.DBG_STAT, 17)] }⟩
def s2 : State := ⟨[], { (mirrored 7) with
  regs := [(F.SYS_MODE, 0x4101), (F.SYS_PADSTAT, 0x10000), (F.PWR_STAT, 111), (F.CLK_STAT, 25), (F.LOOP_STAT, 0x384000000001), (F.LBL_STAT, 8),
    (F.LBL_ID, 0x12345678), (F.DBG_STAT, 17)] }⟩
def s3 : State := ⟨[], { (up.onLabel (fun l => { l with jobs := [.zero [1, 2], .mirror 4 [1] false] })) with
  regs := [(F.SYS_MODE, 0x4101), (F.SYS_PADSTAT, 0x10000), (F.PWR_STAT, 111), (F.CLK_STAT, 25), (F.LOOP_STAT, 0x384000000001), (F.LBL_STAT, 8),
    (F.DBG_STAT, 17)] }⟩
def s4 : State := ⟨[], { (set up [(F.SYS_MODE_MODE, 6), (F.LBL_STAT_HO, 2), (F.TIDE_SEC_SEC, 500000)]) with
  regs := [(F.SYS_MODE, 0x4106), (F.SYS_PADSTAT, 0x10000), (F.PWR_STAT, 111), (F.CLK_STAT, 25), (F.TIDE_SEC, 0x7A120000000),
    (F.LOOP_STAT, 0x384000000001), (F.LBL_STAT, 0x200000), (F.DBG_STAT, 17)] }⟩

theorem test_witness_LabelEvents :
    (s1.dev.atRest ∧ s1.dev.pads.lost = false ∧ s1.dev.label.jobs = [LabelJob.mirror 4 [1, 2, 3] false, LabelJob.zero []] ∧
      s1.dev.get F.LBL_ID_DEVID ≠ 0 ∧ s1.dev.get F.LBL_ID_DEVID ≠ 4294967295 ∧ s1.dev.label.fails ≠ 7) ∧
    (s2.dev.atRest ∧ s2.dev.pads.lost = false ∧ s2.dev.label.jobs = [LabelJob.mirror 4 [1, 2, 3] false, LabelJob.zero []] ∧
      s2.dev.get F.LBL_ID_DEVID ≠ 0 ∧ s2.dev.get F.LBL_ID_DEVID ≠ 4294967295 ∧ s2.dev.label.fails = 7) ∧
    (s3.dev.atRest ∧ s3.dev.pads.lost = false ∧ s3.dev.label.jobs = [LabelJob.zero [1, 2], LabelJob.mirror 4 [1] false]) ∧
    (s4.dev.atRest ∧ s4.dev.pads.lost = false ∧ s4.dev.mode = 6 ∧ s4.dev.get F.LBL_STAT_HO = 2 ∧
      s4.dev.label.keyFrom + s4.dev.get F.LBL_CFG_KEYWAIT ≤ s4.dev.seconds) := by
  unfold Dev.atRest Dev.untapped
  decide +kernel

end LabelEvents


namespace SelfTestEvents

def due (i : Nat) : Dev := up.onBist (fun b => { b with due := [i] })
def running (i : Nat) : Dev := set (up.onBist (fun b => { b with due := [i], run := some i })) [(F.BIST_RUN_STATE, 1), (F.BIST_RUN_ITEM, i)]
def isolated (i : Nat) : Dev := set ((up.onBist (fun b => { b with due := [i], iso := some i, ran := 1 }))) [(F.BIST_RUN_STATE, 2), (F.BIST_RUN_ITEM, i)]
def failed (i : Nat) : Dev := (up.putBit F.BIST_DEGR_FAILED i true).onBist (fun b => { b with qual := [(i, 0)] })
def often (i : Nat) : Dev := (failed i).onBitem i (fun b => { b with fails := [0, 0] })
def s1 : State := ⟨[], { (due 5) with
  regs := [(F.SYS_MODE, 0x4101), (F.SYS_PADSTAT, 0x10000), (F.PWR_STAT, 111), (F.CLK_STAT, 25), (F.LOOP_STAT, 0x384000000001), (F.DBG_STAT, 17)] }⟩
def s2 : State := ⟨[], { (running 0) with
  regs := [(F.SYS_MODE, 0x4101), (F.SYS_PADSTAT, 0x10000), (F.PWR_STAT, 111), (F.CLK_STAT, 25), (F.LOOP_STAT, 0x384000000001), (F.BIST_RUN, 1),
    (F.DBG_STAT, 17)] }⟩
def s3 : State := ⟨[], { ((running 15).onBitem 15 (fun b => { b with next := 2 })) with
  regs := [(F.SYS_MODE, 0x4101), (F.SYS_PADSTAT, 0x10000), (F.PWR_STAT, 111), (F.CLK_STAT, 25), (F.LOOP_STAT, 0x384000000001), (F.BIST_RUN, 0xF01),
    (F.DBG_STAT, 17)] }⟩
def s4 : State := ⟨[], { (isolated 12) with
  regs := [(F.SYS_MODE, 0x4101), (F.SYS_PADSTAT, 0x10000), (F.PWR_STAT, 111), (F.CLK_STAT, 25), (F.LOOP_STAT, 0x384000000001), (F.BIST_RUN, 0xC02),
    (F.DBG_STAT, 17)] }⟩
def s5 : State := ⟨[], { (failed 12) with
  regs := [(F.SYS_MODE, 0x4101), (F.SYS_PADSTAT, 0x10000), (F.PWR_STAT, 111), (F.CLK_STAT, 25), (F.LOOP_STAT, 0x384000000001), (F.BIST_DEGR, 0x1000),
    (F.DBG_STAT, 17)] }⟩
def s6 : State := ⟨[], { (often 12) with
  regs := [(F.SYS_MODE, 0x4101), (F.SYS_PADSTAT, 0x10000), (F.PWR_STAT, 111), (F.CLK_STAT, 25), (F.LOOP_STAT, 0x384000000001), (F.BIST_DEGR, 0x1000),
    (F.DBG_STAT, 17)] }⟩
def s7 : State := ⟨[], { (failed 9) with
  regs := [(F.SYS_MODE, 0x4101), (F.SYS_PADSTAT, 0x10000), (F.PWR_STAT, 111), (F.CLK_STAT, 25), (F.LOOP_STAT, 0x384000000001), (F.BIST_DEGR, 512),
    (F.DBG_STAT, 17)] }⟩
def s8 : State := ⟨[], { (often 10) with
  regs := [(F.SYS_MODE, 0x4101), (F.SYS_PADSTAT, 0x10000), (F.PWR_STAT, 111), (F.CLK_STAT, 25), (F.LOOP_STAT, 0x384000000001), (F.BIST_DEGR, 0x400),
    (F.DBG_STAT, 17)] }⟩
def s9 : State := ⟨[], { (set (running 8) [(F.SYS_MODE_MODE, 5)]) with
  regs := [(F.SYS_MODE, 0x4105), (F.SYS_PADSTAT, 0x10000), (F.PWR_STAT, 111), (F.CLK_STAT, 25), (F.LOOP_STAT, 0x384000000001), (F.BIST_RUN, 0x801),
    (F.DBG_STAT, 17)] }⟩

theorem test_witness_SelfTestEvents :
    (s1.dev.atRest ∧ s1.dev.bist.cmd = none ∧ s1.dev.bist.spanDue = [] ∧ s1.dev.bist.runSpan = none ∧ s1.dev.col.shut = none ∧
      s1.dev.bist.due = [5] ∧ 5 < 17 ∧ isolatedItem 5 = false ∧ s1.dev.runsIn 5 = true ∧ s1.dev.targetIdle 5 = true ∧
      s1.dev.beforeWindow (bistTime 5) = true ∧ s1.dev.bist.run = none ∧ s1.dev.bist.iso = none ∧ s1.dev.bist.ran < s1.dev.get F.BIST_CFG_MAXS ∧
      s1.dev.flag F.CLK_SLKSTAT_OPEN = false ∧ 3000 ≤ s1.dev.sup.vpool) ∧
    (s2.dev.atRest ∧ s2.dev.bist.cmd = none ∧ s2.dev.bist.spanDue = [] ∧ s2.dev.bist.runSpan = none ∧ s2.dev.col.shut = none ∧
      s2.dev.bist.run = some 0 ∧ s2.dev.bist.iso = none ∧ 0 ∈ [0, 6, 7, 8, 9, 10, 15, 16] ∧
      ((s2.dev.bitem 0).next + 1 < bistSlices 0) ∧
      ((0 = 0 ∨ 0 = 8) ∧ s2.dev.mode ≠ 7)) ∧
    (s3.dev.atRest ∧ s3.dev.bist.cmd = none ∧ s3.dev.bist.spanDue = [] ∧ s3.dev.bist.runSpan = none ∧ s3.dev.col.shut = none ∧
      s3.dev.bist.run = some 15 ∧ s3.dev.bist.iso = none ∧ 15 ∈ [0, 6, 7, 8, 9, 10, 15, 16] ∧ bistSlices 15 ≤ (s3.dev.bitem 15).next + 1) ∧
    (s4.dev.atRest ∧ s4.dev.bist.cmd = none ∧ s4.dev.bist.spanDue = [] ∧ s4.dev.bist.runSpan = none ∧ s4.dev.col.shut = none ∧
      s4.dev.bist.iso = some 12 ∧ 11 ≤ 12 ∧ 12 ≤ 14 ∧ s4.dev.failedItem 12 = false) ∧
    (s5.dev.atRest ∧ s5.dev.bist.cmd = none ∧ s5.dev.bist.spanDue = [] ∧ s5.dev.bist.runSpan = none ∧ s5.dev.col.shut = none ∧ 9 ≤ 12 ∧ 12 ≤ 14 ∧
      s5.dev.failedItem 12 = true ∧ s5.dev.retiredItem 12 = false ∧ s5.dev.bist.qual = [(12, 0)] ∧ 0 ≤ s5.dev.seconds ∧
      (11 ≤ 12) ∧
      (s5.dev.failsInDay 12 < 2)) ∧
    (s6.dev.atRest ∧ s6.dev.bist.cmd = none ∧ s6.dev.bist.spanDue = [] ∧ s6.dev.bist.runSpan = none ∧ s6.dev.col.shut = none ∧ 9 ≤ 12 ∧ 12 ≤ 14 ∧
      s6.dev.failedItem 12 = true ∧ s6.dev.retiredItem 12 = false ∧ s6.dev.bist.qual = [(12, 0)] ∧ 0 ≤ s6.dev.seconds ∧ 2 ≤ s6.dev.failsInDay 12) ∧
    (s7.dev.atRest ∧ s7.dev.bist.cmd = none ∧ s7.dev.bist.spanDue = [] ∧ s7.dev.bist.runSpan = none ∧ s7.dev.col.shut = none ∧ 9 ≤ 9 ∧ 9 ≤ 14 ∧
      s7.dev.failedItem 9 = true ∧ s7.dev.retiredItem 9 = false ∧ s7.dev.bist.qual = [(9, 0)] ∧ 0 ≤ s7.dev.seconds ∧ 9 < 11 ∧ s7.dev.bist.qcal = []) := by
  unfold Dev.atRest Dev.untapped
  decide +kernel

end SelfTestEvents


theorem test_witness_StatusShowsWhatStandsAfterEveryStep : ∃ s s' : State, step s = .next s' := ⟨State.reset, _, rfl⟩


/-- The ranges of the second part of RegisterWritesStoreLegalValues: a value below, within and above a clamped range, and inside and outside the
codes that are replaced. -/
theorem test_witness_RegisterWritesStoreLegalValues_ranges :
    (let lo := 3; let hi := 9; let v := 2; lo ≤ hi ∧ v < lo) ∧ (let lo := 3; let hi := 9; let v := 9; lo ≤ hi ∧ lo ≤ v ∧ v ≤ hi) ∧
    (let lo := 3; let hi := 9; let v := 10; lo ≤ hi ∧ hi < v) ∧
    (let r : Rng := .safe 3 9 0; (∀ a b c, r = .safe a b c → c < a ∨ b < c) ∧ (∀ a b, r ≠ .clampS a b)) := by
  refine ⟨by decide, by decide, by decide, fun a b c h => ?_, fun a b h => nomatch h⟩
  injection h with h1 h2 h3
  subst h1 h2 h3
  decide

/-- A device without its always-on domain. -/
theorem test_witness_StepRunsTheFrontCommand : Dev.init.col.aonLost = true := rfl

/-- MOVL beside its literal, and an instruction that takes none. -/
theorem test_witness_EncodingsRoundTrip :
    (let op : YOp := .movl 3 true false 5; let upper : Half := 5; ∀ d high zext lit, op = .movl d high zext lit → upper = lit) ∧
    (let op : YOp := .mov 3 4; let upper : Half := 0; ∀ d high zext lit, op = .movl d high zext lit → upper = lit) := by
  refine ⟨fun d high zext lit h => ?_, fun d high zext lit h => nomatch h⟩
  injection h

/-- Both ends of the memory that reset leaves zero. -/
theorem test_witness_ResetState : (0x2000 ≤ 0x2000 ∧ 0x2000 < 0x80000) ∧ (0x2000 ≤ 0x7FFFF ∧ 0x7FFFF < 0x80000) := by decide

end Sys2Proof.Tests
end

section
/-!
SUPPORT. The instructions that act on their engine alone, in the terms of the statements: a command of such an instruction whose fetch and checks
pass changes its engine's state to the completion and nothing else, and each completion is `EngState.done` of its result and flags.
-/
namespace Sys2Proof.Machine

/-! ## Commands of one engine -/

section
variable {s : State} {f : Fetch} {c : Instr} {op : YOp} {e : EngState}

theorem innerOp_of_plainOp (h : plainOp op = true) : innerOp op = true := by
  unfold plainOp at h
  split at h
  case h_7 => exact Bool.noConfusion h
  all_goals rfl

/-- The plain instructions have no illegal field and push no loop level. -/
theorem Dev.passes_of_plainOp {d : Dev} (h : plainOp op = true) : d.passes f op := by
  unfold plainOp at h
  split at h
  case h_7 => exact Bool.noConfusion h
  all_goals exact ⟨rfl, .inl rfl⟩

/-- A command that executes `op` changes its engine's state to the completion of `op` and nothing else. -/
theorem onlyEngine_of_innerOp (hr : s.dev.atRest) (hf : s.dev.fetches f) (hc : exec c s = act s (fun d => d.execOp f op))
    (hi : innerOp op = true) (hp : s.dev.passes f op) (he : (s.dev.eng f.eng).completeOp op .nothing = e) : OnlyEngine c s f.eng e :=
  he ▸ hc.trans (act_inner hr hf hi hp)

theorem onlyEngine_of_plainOp (hr : s.dev.atRest) (hf : s.dev.fetches f) (hc : exec c s = act s (fun d => d.execOp f op))
    (h : plainOp op = true) (he : (s.dev.eng f.eng).completeOp op .nothing = e) : OnlyEngine c s f.eng e :=
  onlyEngine_of_innerOp hr hf hc (innerOp_of_plainOp h) (Dev.passes_of_plainOp h) he

end

/-! ## Completions with a result -/

section
variable (e : EngState) (rd : WReg) (w : Word)

/-- Writing a result and the flags completes as `EngState.done`. -/
theorem EngState.complete_write (fl : Flags) : (e.write rd w fl).complete 1 = e.done rd w fl := rfl

theorem EngState.complete_write_zn :
    (e.write rd w (e.fl.zn w)).complete 1 = e.done rd w ⟨decide (w = 0), w.msb, e.fl.c, e.fl.v, e.fl.s⟩ := rfl

/-- A result that is a number clamped to lo..hi: Z and N of it, S set by a clamp, C and V as they were (R206). -/
def EngState.doneWithin (lo hi v : Int) : EngState :=
  let r := BitVec.ofInt 72 (if v < lo then lo else if hi < v then hi else v)
  e.done rd r ⟨decide (r = 0), r.msb, e.fl.c, e.fl.v, e.fl.s || decide (v < lo ∨ hi < v)⟩

/-- A result with Z and N of it, V telling that it is not the exact one, and S set with V (R213, R214). -/
def EngState.doneInexact (v : Bool) : EngState := e.done rd w ⟨decide (w = 0), w.msb, e.fl.c, v, e.fl.s || v⟩

theorem EngState.complete_write_inexact (v : Bool) :
    (e.write rd w (({ e.fl.zn w with v := v }).sat v)).complete 1 = e.doneInexact rd w v := rfl

theorem clampI_eq_ite {lo hi : Int} (h : lo ≤ hi) (v : Int) : clampI lo hi v = if v < lo then lo else if hi < v then hi else v := by
  unfold clampI
  omega

theorem EngState.complete_writeSat_clampI {lo hi : Int} (h : lo ≤ hi) (v : Int) :
    (e.writeSat rd (BitVec.ofInt 72 (clampI lo hi v), v < lo || hi < v)).complete 1 = e.doneWithin rd lo hi v := by
  rw [clampI_eq_ite h, ← Bool.decide_or]
  rfl

theorem lo72_le_hi72 : lo72 ≤ hi72 := by decide

theorem EngState.complete_writeSat_sat72 (v : Int) :
    (e.writeSat rd (sat72 v)).complete 1 = e.doneWithin rd (-2 ^ 71) (2 ^ 71 - 1) v := e.complete_writeSat_clampI rd lo72_le_hi72 v

theorem EngState.complete_writeSat_satu72 (v : Int) :
    (e.writeSat rd (satu72 v)).complete 1 = e.doneWithin rd 0 (2 ^ 72 - 1) v := e.complete_writeSat_clampI rd (by decide) v

end

/-! ## Saturating functions (R206) -/

/-- Settles O7: each function writes the saturation of its exact result. -/
theorem saturatingResults : Obligations.SaturatingResults := by
  intro s f rd ra rb hr hf
  have hsat (v : Int) := (s.dev.eng f.eng).complete_writeSat_sat72 rd v
  have hsatu (v : Int) := (s.dev.eng f.eng).complete_writeSat_satu72 rd v
  refine ⟨?adds, ?subs, ?negs, ?abss, ?addus, ?subus, fun k => ?shlsImm, fun rn => ?shlsReg⟩
  case adds => exact onlyEngine_of_plainOp hr hf (op := .alu .adds rd ra rb) rfl rfl (hsat _)
  case subs => exact onlyEngine_of_plainOp hr hf (op := .alu .subs rd ra rb) rfl rfl (hsat _)
  case negs => exact onlyEngine_of_plainOp hr hf (op := .alu .negs rd ra 0) rfl rfl (hsat _)
  case abss => exact onlyEngine_of_plainOp hr hf (op := .alu .abss rd ra 0) rfl rfl (hsat _)
  case addus => exact onlyEngine_of_plainOp hr hf (op := .alu .addus rd ra rb) rfl rfl (hsatu _)
  case subus => exact onlyEngine_of_plainOp hr hf (op := .alu .subus rd ra rb) rfl rfl (hsatu _)
  case shlsImm => exact onlyEngine_of_plainOp hr hf (op := .shift .shls rd ra (.imm k)) rfl rfl (hsat _)
  case shlsReg => exact onlyEngine_of_plainOp hr hf (op := .shift .shls rd ra (.reg rn)) rfl rfl (hsat _)

/-! ## Immediates (R207) -/

/-- sext(IMM22) is the immediate's signed number in 72 bits. -/
theorem sextImm_eq (imm : BitVec 22) : sextImm imm = BitVec.ofInt 72 imm.toInt := rfl

theorem toInt_ofInt_imm (imm : BitVec 22) : (BitVec.ofInt 72 imm.toInt).toInt = imm.toInt := BitVec.toInt_signExtend_of_le (by decide)

/-- Z, N, C and V of an exact signed result, S as it was (R162). -/
theorem Flags.arith_eq (fl : Flags) (r : Word) (c : Bool) (v : Int) :
    fl.arith r c v = ⟨decide (r = 0), r.msb, c, decide (v < -2 ^ 71 ∨ 2 ^ 71 ≤ v), fl.s⟩ := by
  rw [Bool.decide_or]
  rfl

theorem carryAdd_zero (a b : Word) : carryAdd a b 0 = decide (2 ^ 72 ≤ a.toNat + b.toNat) := rfl

theorem noBorrow_zero (a b : Word) : noBorrow a b 0 = decide (b.toNat ≤ a.toNat) := rfl

section
variable (e : EngState) (rd ra : WReg) (imm : BitVec 22)

theorem EngState.complete_addi :
    let a := e.reg ra
    let b : Word := BitVec.ofInt 72 imm.toInt
    let v := a.toInt + imm.toInt
    (e.immOp .addi rd ra imm).complete 1 = e.done rd (a + b)
      ⟨decide (a + b = 0), (a + b).msb, decide (2 ^ 72 ≤ a.toNat + b.toNat), decide (v < -2 ^ 71 ∨ 2 ^ 71 ≤ v), e.fl.s⟩ := by
  simp only [EngState.immOp, EngState.complete_write, Flags.arith_eq, carryAdd_zero, sextImm_eq, toInt_ofInt_imm]

theorem EngState.complete_cmpi :
    let a := e.reg ra
    let b : Word := BitVec.ofInt 72 imm.toInt
    let v := a.toInt - imm.toInt
    (e.immOp .cmpi rd ra imm).complete 1 = { e with fl :=
      ⟨decide (a - b = 0), (a - b).msb, decide (b.toNat ≤ a.toNat), decide (v < -2 ^ 71 ∨ 2 ^ 71 ≤ v), e.fl.s⟩ }.complete 1 := by
  simp only [EngState.immOp, Flags.arith_eq, noBorrow_zero, sextImm_eq, toInt_ofInt_imm]

end

/-- Settles O9: ADDI and CMPI by their exact results, the logic functions by Z and N of theirs. -/
theorem immediateResults : Obligations.ImmediateResults := by
  intro s f rd ra imm hr hf
  refine ⟨?addi, ?andi, ?ori, ?xori, ?cmpi⟩
  case addi => exact onlyEngine_of_plainOp hr hf (op := .immOp .addi rd ra imm) rfl rfl (EngState.complete_addi _ rd ra imm)
  case andi => exact onlyEngine_of_plainOp hr hf (op := .immOp .andi rd ra imm) rfl rfl (EngState.complete_write_zn _ rd _)
  case ori => exact onlyEngine_of_plainOp hr hf (op := .immOp .ori rd ra imm) rfl rfl (EngState.complete_write_zn _ rd _)
  case xori => exact onlyEngine_of_plainOp hr hf (op := .immOp .xori rd ra imm) rfl rfl (EngState.complete_write_zn _ rd _)
  case cmpi => exact onlyEngine_of_plainOp hr hf (op := .immOp .cmpi 0 ra imm) rfl rfl (EngState.complete_cmpi _ 0 ra imm)

/-! ## Accumulators (R211, R212) -/

section
variable (e : EngState) (x : Bool) (rd ra rb : WReg)

/-- The completion that writes an accumulator. -/
theorem EngState.complete_setAcc (v : Acc144) :
    (e.setAcc x v).complete 1 = (if x then { e with accb := v } else { e with acca := v }).complete 1 := rfl

/-- MOVTA's two words side by side, as one number. -/
theorem append_eq_ofNat (a b : Word) : BitVec.append a b = BitVec.ofNat 144 (a.toNat * 2 ^ 72 + b.toNat) := by
  apply BitVec.eq_of_toNat_eq
  have ha := a.isLt
  have hb := b.isLt
  have happ : (BitVec.append a b).toNat = a.toNat <<< 72 ||| b.toNat := BitVec.toNat_append a b
  rw [happ, ← Nat.shiftLeft_add_eq_or_of_lt hb, Nat.shiftLeft_eq, BitVec.toNat_ofNat, Nat.mod_eq_of_lt (by omega)]

theorem setWidth_eq_ofNat_mod (v : Acc144) : v.setWidth 72 = BitVec.ofNat 72 (v.toNat % 2 ^ 72) := by
  apply BitVec.eq_of_toNat_eq
  rw [BitVec.toNat_setWidth, BitVec.toNat_ofNat, Nat.mod_mod]

theorem extractLsb'_eq_ofNat_div (v : Acc144) : v.extractLsb' 72 72 = BitVec.ofNat 72 (v.toNat / 2 ^ 72) := by
  apply BitVec.eq_of_toNat_eq
  rw [BitVec.extractLsb'_toNat, Nat.shiftRight_eq_div_pow, BitVec.toNat_ofNat]

/-- A shift of 0 rounds nothing (R198). -/
theorem rnd_eq (v : Int) (sh : BitVec 8) : rnd v sh.toNat = if sh = 0 then v else (v + 2 ^ (sh.toNat - 1)) / 2 ^ sh.toNat := by
  have h : sh.toNat = 0 ↔ sh = 0 := BitVec.toNat_inj (y := 0)
  rw [rnd]
  simp only [h]

/-- EXT's value, rounded or truncated (R211). -/
theorem rnd_or_floor_eq (v : Int) (sh : BitVec 8) (r : Bool) :
    (if r then rnd v sh.toNat else v / 2 ^ sh.toNat) =
      if r = true ∧ sh ≠ 0 then (v + 2 ^ (sh.toNat - 1)) / 2 ^ sh.toNat else v / 2 ^ sh.toNat := by
  cases r with
  | false => rfl
  | true =>
    rw [if_pos rfl, rnd_eq]
    by_cases h : sh = 0
    · rw [if_pos h, if_neg (fun hc => hc.2 h), h]
      exact (Int.ediv_one v).symm
    · rw [if_neg h, if_pos ⟨rfl, h⟩]

theorem EngState.complete_ext (sh : BitVec 8) (r u : Bool) :
    (e.ext x rd sh r u).complete 1 = e.doneWithin rd (if u then 0 else -2 ^ 71) (if u then 2 ^ 72 - 1 else 2 ^ 71 - 1)
      (if r = true ∧ sh ≠ 0 then ((e.acc x).toInt + 2 ^ (sh.toNat - 1)) / 2 ^ sh.toNat else (e.acc x).toInt / 2 ^ sh.toNat) := by
  unfold EngState.ext
  rw [← rnd_or_floor_eq]
  cases u with
  | false => exact e.complete_writeSat_sat72 rd _
  | true => exact e.complete_writeSat_satu72 rd _

/-- The exact product of W[A] and W[B] under SG: both signed, both unsigned, or the second unsigned (R212). -/
theorem product_eq {sg : BitVec 2} {p : Int}
    (h : sg = 0 ∧ p = (e.reg ra).toInt * (e.reg rb).toInt ∨ sg = 1 ∧ p = ((e.reg ra).toNat : Int) * (e.reg rb).toNat ∨
      sg = 2 ∧ p = (e.reg ra).toInt * (e.reg rb).toNat) : product e ra rb sg = p := by
  obtain ⟨rfl, rfl⟩ | ⟨rfl, rfl⟩ | ⟨rfl, rfl⟩ := h <;> rfl

theorem ofInt_toInt_add (v : Acc144) (p : Int) : BitVec.ofInt 144 (v.toInt + p) = v + BitVec.ofInt 144 p := by
  rw [BitVec.ofInt_add, BitVec.ofInt_toInt]

theorem ofInt_toInt_sub (v : Acc144) (p : Int) : BitVec.ofInt 144 (v.toInt - p) = v - BitVec.ofInt 144 p := by
  rw [Int.sub_eq_add_neg, BitVec.ofInt_add, BitVec.ofInt_toInt, BitVec.ofInt_neg, BitVec.sub_eq_add_neg]

end

/-- ACCA passes the check of R159 on every engine, ACCB on a Sleeve. -/
theorem acc_and_collar_eq_false {f : Fetch} {x : Bool} (h : x = true → f.eng ≠ .collar) : (x && f.eng == Eng.collar) = false := by
  cases x with
  | false => rfl
  | true => exact beq_false_of_ne (h rfl)

/-- Settles O10: each instruction's completion, with the accumulator or the register it writes. -/
theorem accumulatorResults : Obligations.AccumulatorResults := by
  intro s f x rd ra rb hr hf hx
  have legal := acc_and_collar_eq_false hx
  refine ⟨?clracc, ?movta, ?movtas, ?movfaLow, ?movfaHigh, fun sh r u hsh => ?ext, fun sg p hp => ?products⟩
  case clracc => exact onlyEngine_of_innerOp hr hf (op := .clracc x) rfl rfl ⟨legal, .inl rfl⟩ (EngState.complete_setAcc _ x _)
  case movta =>
    rw [← append_eq_ofNat]
    exact onlyEngine_of_innerOp hr hf (op := .movta x ra rb) rfl rfl ⟨legal, .inl rfl⟩ (EngState.complete_setAcc _ x _)
  case movtas => exact onlyEngine_of_innerOp hr hf (op := .movtas x ra) rfl rfl ⟨legal, .inl rfl⟩ (EngState.complete_setAcc _ x _)
  case movfaLow =>
    rw [← setWidth_eq_ofNat_mod]
    exact onlyEngine_of_innerOp hr hf (op := .movfa x rd false) rfl rfl ⟨legal, .inl rfl⟩ rfl
  case movfaHigh =>
    rw [← extractLsb'_eq_ofNat_div]
    exact onlyEngine_of_innerOp hr hf (op := .movfa x rd true) rfl rfl ⟨legal, .inl rfl⟩ rfl
  case ext =>
    have hl : ((x && f.eng == Eng.collar) || decide (143 < sh.toNat)) = false := by
      rw [legal, decide_eq_false (Nat.not_lt.mpr hsh)]
      rfl
    exact onlyEngine_of_innerOp hr hf (op := .ext x rd sh r u) rfl rfl ⟨hl, .inl rfl⟩ (EngState.complete_ext _ x rd sh r u)
  case products =>
    have hsg : (sg.toNat == 3) = false := by obtain ⟨rfl, _⟩ | ⟨rfl, _⟩ | ⟨rfl, _⟩ := hp <;> rfl
    have hl : ((x && f.eng == Eng.collar) || sg.toNat == 3) = false := by rw [legal, hsg]; rfl
    rw [← product_eq _ ra rb hp, ofInt_toInt_add, ofInt_toInt_sub]
    exact ⟨onlyEngine_of_innerOp hr hf (op := .mul x ra rb sg) rfl rfl ⟨hl, .inl rfl⟩ (EngState.complete_setAcc _ x _),
      onlyEngine_of_innerOp hr hf (op := .mac x ra rb sg false) rfl rfl ⟨hl, .inl rfl⟩ (EngState.complete_setAcc _ x _),
      onlyEngine_of_innerOp hr hf (op := .mac x ra rb sg true) rfl rfl ⟨hl, .inl rfl⟩ (EngState.complete_setAcc _ x _)⟩

/-! ## Division, reciprocal and Horner step (R213 to R215) -/

/-- DIV's quotient, remainder and V: a zero divisor saturates with remainder 0; otherwise the quotient is clamped, and the remainder is that of
the exact quotient. -/
theorem divRes_eq {lo hi : Int} (h : lo ≤ hi) (a b : Int) (sh : Nat) :
    let n := a * 2 ^ sh
    let q := n.tdiv b
    divRes a b lo hi sh =
      (if b = 0 then (if n < 0 then lo else hi) else if q < lo then lo else if hi < q then hi else q,
       if b = 0 then 0 else n - q * b, decide (b = 0 ∨ q < lo ∨ hi < q)) := by
  intro n q
  by_cases hb : b = 0
  · rw [if_pos hb, if_pos hb, decide_eq_true (.inl hb)]
    exact if_pos hb
  · have hv : (b = 0 ∨ q < lo ∨ hi < q) ↔ q < lo ∨ hi < q := or_iff_right hb
    rw [if_neg hb, if_neg hb, decide_eq_decide.mpr hv, Bool.decide_or, ← clampI_eq_ite h]
    exact if_neg hb

/-- What DIV writes in either mode, from its operands as numbers and the range of its result. -/
theorem EngState.complete_divRes (e : EngState) (rd : WReg) {lo hi : Int} (h : lo ≤ hi) (a b : Int) (sh : Nat) (m : Bool) :
    let n := a * 2 ^ sh
    let q := n.tdiv b
    let r := divRes a b lo hi sh
    let w := BitVec.ofInt 72 (if m then r.2.1 else r.1)
    (e.write rd w (({ e.fl.zn w with v := r.2.2 }).sat r.2.2)).complete 1 =
      e.doneInexact rd (BitVec.ofInt 72 (if b = 0 then (if m then 0 else if n < 0 then lo else hi)
        else if m then n - q * b else if q < lo then lo else if hi < q then hi else q)) (decide (b = 0 ∨ q < lo ∨ hi < q)) := by
  intro n q r w
  have hw : (if m then r.2.1 else r.1) = if b = 0 then (if m then 0 else if n < 0 then lo else hi)
      else if m then n - q * b else if q < lo then lo else if hi < q then hi else q := by
    simp only [r, divRes_eq h]
    cases m <;> rfl
  have hv : r.2.2 = decide (b = 0 ∨ q < lo ∨ hi < q) := by simp only [r, divRes_eq h, n, q]
  simp only [w, hw, hv, EngState.complete_write_inexact]

/-- The saturation of a reciprocal's magnitude, and of its negative (R214). -/
theorem sat72_of_nonneg {q : Int} (h : 0 ≤ q) : sat72 q = (BitVec.ofInt 72 (min q (2 ^ 71 - 1)), decide (2 ^ 71 - 1 < q)) := by
  have hw : clampI lo72 hi72 q = min q (2 ^ 71 - 1) := by
    unfold clampI lo72 hi72
    omega
  have hv : (q < lo72 ∨ hi72 < q) ↔ 2 ^ 71 - 1 < q := by
    unfold lo72 hi72
    omega
  rw [sat72, hw, ← Bool.decide_or, decide_eq_decide.mpr hv]

theorem sat72_neg_of_nonneg {q : Int} (h : 0 ≤ q) : sat72 (-q) = (BitVec.ofInt 72 (max (-q) (-2 ^ 71)), decide (2 ^ 71 < q)) := by
  have hw : clampI lo72 hi72 (-q) = max (-q) (-2 ^ 71) := by
    unfold clampI lo72 hi72
    omega
  have hv : (-q < lo72 ∨ hi72 < -q) ↔ 2 ^ 71 < q := by
    unfold lo72 hi72
    omega
  rw [sat72, hw, ← Bool.decide_or, decide_eq_decide.mpr hv]

/-- RECIP's rounded quotient for an operand `a` (R214). -/
def recipMagnitude (a : Int) (sh : Nat) : Int := (2 ^ sh + (a.natAbs : Int) / 2) / (a.natAbs : Int)

theorem recipMagnitude_nonneg (a : Int) (sh : Nat) : 0 ≤ recipMagnitude a sh := by
  have hpow : (0 : Int) ≤ 2 ^ sh := Int.pow_nonneg (by decide)
  exact Int.ediv_nonneg (by omega) (Int.natCast_nonneg _)

section
variable (e : EngState) (rd ra rb : WReg) (sh : BitVec 8)

theorem EngState.complete_recip_zero (h : (e.reg ra).toInt = 0) :
    (e.recip rd ra sh).complete 1 = e.doneInexact rd (BitVec.ofInt 72 (2 ^ 71 - 1)) true := by
  rw [EngState.recip, if_pos h]
  exact e.complete_write_inexact rd _ true

theorem EngState.complete_recip_pos (h : 0 < (e.reg ra).toInt) :
    let q := recipMagnitude (e.reg ra).toInt sh.toNat
    (e.recip rd ra sh).complete 1 = e.doneInexact rd (BitVec.ofInt 72 (min q (2 ^ 71 - 1))) (decide (2 ^ 71 - 1 < q)) := by
  have hs := sat72_of_nonneg (recipMagnitude_nonneg (e.reg ra).toInt sh.toNat)
  rw [recipMagnitude] at hs
  simp only [EngState.recip, if_neg (Int.ne_of_gt h), gt_iff_lt, if_pos h, hs, Bool.or_self]
  exact e.complete_write_inexact rd _ _

theorem EngState.complete_recip_neg (h : (e.reg ra).toInt < 0) :
    let q := recipMagnitude (e.reg ra).toInt sh.toNat
    (e.recip rd ra sh).complete 1 = e.doneInexact rd (BitVec.ofInt 72 (max (-q) (-2 ^ 71))) (decide (2 ^ 71 < q)) := by
  have hs := sat72_neg_of_nonneg (recipMagnitude_nonneg (e.reg ra).toInt sh.toNat)
  rw [recipMagnitude] at hs
  simp only [EngState.recip, if_neg (Int.ne_of_lt h), gt_iff_lt, if_neg (Int.lt_asymm h), hs, Bool.or_self]
  exact e.complete_write_inexact rd _ _

/-- RECIP by the sign of its operand. -/
theorem EngState.complete_recip :
    let a := (e.reg ra).toInt
    let q := recipMagnitude a sh.toNat
    (e.recip rd ra sh).complete 1 =
      e.doneInexact rd (BitVec.ofInt 72 (if a = 0 then 2 ^ 71 - 1 else if 0 < a then min q (2 ^ 71 - 1) else max (-q) (-2 ^ 71)))
        (decide (a = 0 ∨ (0 < a ∧ 2 ^ 71 - 1 < q) ∨ (a < 0 ∧ 2 ^ 71 < q))) := by
  intro a q
  obtain h | h | h := Int.lt_trichotomy a 0
  · have hv : (a = 0 ∨ (0 < a ∧ 2 ^ 71 - 1 < q) ∨ (a < 0 ∧ 2 ^ 71 < q)) ↔ 2 ^ 71 < q := by omega
    rw [e.complete_recip_neg rd ra sh h, if_neg (Int.ne_of_lt h), if_neg (Int.lt_asymm h), decide_eq_decide.mpr hv]
  · rw [e.complete_recip_zero rd ra sh h, if_pos h, decide_eq_true (.inl h)]
  · have hv : (a = 0 ∨ (0 < a ∧ 2 ^ 71 - 1 < q) ∨ (a < 0 ∧ 2 ^ 71 < q)) ↔ 2 ^ 71 - 1 < q := by omega
    rw [e.complete_recip_pos rd ra sh h, if_neg (Int.ne_of_gt h), if_pos h, decide_eq_decide.mpr hv]

theorem EngState.complete_poly :
    let p := (e.reg rd).toInt * (e.reg ra).toInt
    (e.poly rd ra rb sh).complete 1 = e.doneWithin rd (-2 ^ 71) (2 ^ 71 - 1)
      ((if sh = 0 then p else (p + 2 ^ (sh.toNat - 1)) / 2 ^ sh.toNat) + (e.reg rb).toInt) := by
  intro p
  rw [EngState.poly, e.complete_writeSat_sat72, rnd_eq]

/-- DIV on unsigned or on signed operands. -/
theorem EngState.complete_div (sh : BitVec 7) (u m : Bool) :
    let a : Int := if u then (e.reg ra).toNat else (e.reg ra).toInt
    let b : Int := if u then (e.reg rb).toNat else (e.reg rb).toInt
    let lo : Int := if u then 0 else -2 ^ 71
    let hi : Int := if u then 2 ^ 72 - 1 else 2 ^ 71 - 1
    let n := a * 2 ^ sh.toNat
    let q := n.tdiv b
    (e.div rd ra rb sh u m).complete 1 =
      e.doneInexact rd (BitVec.ofInt 72 (if b = 0 then (if m then 0 else if n < 0 then lo else hi)
        else if m then n - q * b else if q < lo then lo else if hi < q then hi else q)) (decide (b = 0 ∨ q < lo ∨ hi < q)) := by
  cases u with
  | false => exact e.complete_divRes rd lo72_le_hi72 _ _ sh.toNat m
  | true => exact e.complete_divRes rd (by decide) _ _ sh.toNat m

end

/-- Settles O11: each instruction's completion with its result, V and S; a legal shift passes the checks. -/
theorem divisionAndPolynomialResults : Obligations.DivisionAndPolynomialResults := by
  intro s f rd ra rb hr hf
  refine ⟨fun sh u m hsh => ?div, fun sh hsh => ?recip, fun sh hsh => ?poly⟩
  case div =>
    exact onlyEngine_of_innerOp hr hf (op := .div rd ra rb sh u m) rfl rfl ⟨decide_eq_false (Nat.not_lt.mpr hsh), .inl rfl⟩
      (EngState.complete_div _ rd ra rb sh u m)
  case recip =>
    exact onlyEngine_of_innerOp hr hf (op := .recip rd ra sh) rfl rfl ⟨decide_eq_false (Nat.not_lt.mpr hsh), .inl rfl⟩
      (EngState.complete_recip _ rd ra sh)
  case poly =>
    exact onlyEngine_of_innerOp hr hf (op := .poly rd ra rb sh) rfl rfl ⟨decide_eq_false (Nat.not_lt.mpr hsh), .inl rfl⟩
      (EngState.complete_poly _ rd ra rb sh)

end Sys2Proof.Machine
end
